-- ==== Sys2Proof/Word.lean ====
section
/-! DEFINITION. The word types of the Fenlow 7140 and the two fixed-size tables (four cells, fifteen flip groups). -/

namespace Sys2Proof

/-- A word is 32 bits (Conventions, 00_scope.md). -/
abbrev Word := BitVec 32

abbrev Byte := BitVec 8

/-- A 16-bit version: compared for equality and for nothing else (R1). -/
abbrev Version := BitVec 16

/-- A beacon number: all beacon arithmetic is modulo 2^32 (R1, R106). -/
abbrev BeaconNo := BitVec 32

/-- A label ID is a 28-bit radio address; 0 is invalid. -/
abbrev LabelId := BitVec 28

/-- Cells are numbered 0 to 3. -/
abbrev CellId := Fin 4

/-- Flip group g (1 to 15) is numbered g - 1 here; group 0 has no record (R127). -/
abbrev GroupId := Fin 15

abbrev PerCell (α : Type) := Vector α 4

abbrev PerGroup (α : Type) := Vector α 15

/-- A frame on the air or on a radio link, first byte first. -/
abbrev Frame := List Byte

/-- The four cells in the order in which the rules go through them ("cell 0 first"). -/
def allCells : List CellId := [0, 1, 2, 3]

/-- The fifteen flip groups in ascending order. -/
def allGroups : List GroupId := [0, 1, 2, 3, 4, 5, 6, 7, 8, 9, 10, 11, 12, 13, 14]

end Sys2Proof
end

