-- ==== Sys2Proof/Syntax.lean ====
section
/-! DEFINITION. The commands the part takes: one constructor of Instr for each row of spec/opcode_table.json, and the
command words of the CMD register. -/

namespace Sys2Proof

/-- What the port saw on data in from the end of a link command until its timeout ran out (R152). -/
inductive DataIn where
  | varied
  | allZeros
  | allOnes
  deriving DecidableEq, Repr

/-- A command word of the CMD register as the command unit reads it (11.3, R175). `bad` is a word whose
code names no command. -/
inductive HostCommand where
  | load
  | start
  | pause
  | resume
  | stop
  | abort
  | reset
  | rescan
  | flipAt (group : BitVec 4) (delta : BitVec 20)
  | cancelFlip (group : BitVec 4)
  | cellOn (cell : BitVec 8)
  | cellOff (cell : BitVec 8)
  | setAttnMask (mask : BitVec 9)
  | bad (code : BitVec 8) (argument : BitVec 24)
  deriving DecidableEq, Repr

/-- The steps of the part, one constructor per row of the opcode table. A step of one cell carries the
cell; a step in which the outside hands the part a value carries that value. -/
inductive Instr where
  | powerOn
  | resetPin
  | load
  | start
  | pause
  | resume
  | stop
  | abort
  | reset
  | rescan
  | flipAt (group : BitVec 4) (delta : BitVec 20)
  | cancelFlip (group : BitVec 4)
  | cellOn (cell : BitVec 8)
  | cellOff (cell : BitVec 8)
  | setAttnMask (argument : BitVec 24)
  | badCommand (code : BitVec 8) (argument : BitVec 24)
  | cmdLost (word : Word)
  | notice (first : BitVec 16) (spanMinusOne : BitVec 16)
  | attnClear (value : Word)
  | otherRegisterWrite (offset : Word) (value : Word)
  | beaconEvent
  | planPoint
  | itemSlotStart (cell : CellId)
  | frameSlotStart (cell : CellId)
  | replySlotStart (cell : CellId)
  | replySlotEnd (cell : CellId)
  | windowEnd (cell : CellId)
  | restartCountdownExpiry (cell : CellId)
  | linkAnswer (cell : CellId) (answer : Word)
  | linkTimeout (cell : CellId) (dataIn : DataIn)
  | frameReady (cell : CellId)
  | framePullDone (cell : CellId) (lengthWord : Word) (frameWords : List Word)
  | fifoFrameTaken (cell : CellId)
  | busGrant
  | wordComplete (data : Word) (parity : BitVec 4)
  | backoff
  | backoffWithdrawn
  | transferError
  | entryReaderTake
  | entryReadDone
  | sweepPartHalfWritten
  | sweepMarkSet
  | fetchStart
  | fetchHeaderRead
  | fetchBurstRead
  | writeBackStart
  | writeBackPartHalfWritten
  | writeBackMarkSet
  | nightRecordWriteDone
  | anchorReadDone
  deriving DecidableEq, Repr

end Sys2Proof
end

