-- ==== Sys2Proof/Decode.lean ====
section
/-! DEFINITION. The command word of the CMD register (R175, 11.3) and the bits of the opcode table, which gives none. -/

namespace Sys2Proof

/-- The command code, bits 7:0 of a command word. -/
def commandCode (w : Word) : BitVec 8 := w.extractLsb' 0 8

/-- The argument, bits 31:8 of a command word. -/
def commandArgument (w : Word) : BitVec 24 := w.extractLsb' 8 24

/-- A code of the table of 11.3 names a command. -/
def codeNamesCommand (code : BitVec 8) : Bool := decide (1 ≤ code.toNat) && decide (code.toNat ≤ 13)

/-- A command by its code and argument (11.3). Argument bits that a command does not use are ignored (R190). -/
def commandOf (code : BitVec 8) (argument : BitVec 24) : HostCommand :=
  match code.toNat with
  | 0x01 => .load
  | 0x02 => .start
  | 0x03 => .pause
  | 0x04 => .resume
  | 0x05 => .stop
  | 0x06 => .abort
  | 0x07 => .reset
  | 0x08 => .rescan
  | 0x09 => .flipAt (argument.extractLsb' 20 4) (argument.extractLsb' 0 20)
  | 0x0A => .cancelFlip (argument.extractLsb' 20 4)
  | 0x0B => .cellOn (argument.extractLsb' 0 8)
  | 0x0C => .cellOff (argument.extractLsb' 0 8)
  | 0x0D => .setAttnMask (argument.extractLsb' 0 9)
  | _ => .bad code argument

/-- The command a word written to CMD stands for. -/
def decodeCommand (w : Word) : HostCommand := commandOf (commandCode w) (commandArgument w)

/-- A command word made of a code and an argument. -/
def packCommand (code : BitVec 8) (argument : BitVec 24) : Word := argument ++ code

/-- The word of a command, every argument bit it does not use 0 (11.3). -/
def encodeCommand : HostCommand → Word
  | .load => packCommand 0x01 0
  | .start => packCommand 0x02 0
  | .pause => packCommand 0x03 0
  | .resume => packCommand 0x04 0
  | .stop => packCommand 0x05 0
  | .abort => packCommand 0x06 0
  | .reset => packCommand 0x07 0
  | .rescan => packCommand 0x08 0
  | .flipAt group delta => packCommand 0x09 (group ++ delta)
  | .cancelFlip group => packCommand 0x0A (group ++ (0 : BitVec 20))
  | .cellOn cell => packCommand 0x0B (cell.setWidth 24)
  | .cellOff cell => packCommand 0x0C (cell.setWidth 24)
  | .setAttnMask mask => packCommand 0x0D (mask.setWidth 24)
  | .bad code argument => packCommand code argument

/-- The opcode table gives no row any bits (its rows are commands and events, not words), so no word spells a
command. -/
def decodeTableWord (_nbits _w : Nat) : Option Instr := none

end Sys2Proof
end

