-- ==== Sys2Proof/Config.lean ====
section
/-! DEFINITION. The fixed sizes of the part, and the one value the manual leaves open (a free value). -/

namespace Sys2Proof.Config

/-- Records a due list holds (R42). -/
def dueCapacity : Nat := 1024

/-- At or below this count a due list with its deferred flag set asks for a refill (R33, R37). -/
def refillMark : Nat := 768

/-- Notices the queue holds (R24). -/
def noticeCapacity : Nat := 8

/-- Indices the re-read list holds (R27). -/
def rereadCapacity : Nat := 4096

/-- Items a plan holds (R77). -/
def planItems : Nat := 24

/-- Buffers of a segment store (R97). -/
def storeBuffers : Nat := 256

/-- Bytes of a segment (R89). -/
def segmentBytes : Nat := 48

/-- Wake filters a beacon carries (R83). -/
def maxFilters : Nat := 4

/-- Words of one burst at most (R160). -/
def burstWords : Nat := 8

/-- Frames the receive FIFO of a radio port holds (R150). -/
def fifoFrames : Nat := 2

/-- Beacon events from going QUIET to the restart probe (R155). -/
def restartBeacons : Nat := 16

/-- Failed restarts after which a cell is FAILED (R156). -/
def restartLimit : Nat := 8

/-- Counts saturate here (R189). -/
def countMax : Nat := 2 ^ 32 - 1

/-- The window starts this many milliseconds after its beacon (R68). -/
def windowDelay : Nat := 60

/-- The anchor tag (R191). -/
def anchorTag : Word := 0x7140A5C3

/-- The kind code a probe expects (R191). -/
def transceiverKind : BitVec 8 := 0x5C

/-- UNVERIFIED (free value, notes/assumptions/4.md): the address the port drives for a word whose
address, formed without wrapping, is 2^32 or more. The manual gives no result there, so nothing
constrains it. -/
opaque addressPastTop : Nat → Word

end Sys2Proof.Config
end

