-- ==== Sys2Proof/Machine/State.lean ====
section
/-! DEFINITION. The state of the Fenlow 7140: every register, list, queue, buffer, counter and mode the manual gives the
part, as plain data, grouped by the block that keeps it (the block table of 00_scope.md), and the state after power-on. -/

namespace Sys2Proof.Machine

/-! ### Faults and refusals -/

/-- No step of the part stops the model: the manual gives every command and event an effect (a transfer error is
the controller state FAULTED, R164, not the end of the run). Nobody raises a fault. -/
inductive Fault where
  deriving DecidableEq, Repr

/-- Refusals of the model. -/
inductive Refusal where
  /-- Raised by an arm of exec whose row has no meaning yet (safe: the run stops). No arm raises it now. -/
  | notModelled (mnemonic : String)
  deriving DecidableEq, Repr

/-! ### Enumerations (codes in 11.2 and 11.3) -/

/-- The controller states of R178. -/
inductive ControllerState where
  | unloaded | loading | loaded | running | paused | stopping | faulted
  deriving DecidableEq, Repr

/-- The cell states of R154. -/
inductive CellState where
  | off | probing | active | quiet | failed
  deriving DecidableEq, Repr

/-- The probe statuses of R152. -/
inductive ProbeStatus where
  | notChecked | present | wrongKind | noAnswer | lineStuck
  deriving DecidableEq, Repr

/-- The states of a flip group, OPEN, ANNOUNCED, CANCELLING and DONE (R127). -/
inductive GroupState where
  | opened | announced | cancelling | done
  deriving DecidableEq, Repr

/-- The thirteen entry states of R11. -/
inductive EntryState where
  | idle | deferred | queued | staged | shown | unsure | late | unreachable | gaveUp | contentBad | refused
  | entryBad | held
  deriving DecidableEq, Repr

/-- The attention causes, in bit order (R187, 11.3). -/
inductive Cause where
  | cmdDone | cmdLost | noticeLost | report | flip | cell | memFault | faulted | sweepDone
  deriving DecidableEq, Repr

/-- The RESULT codes of R177. -/
inductive ResultCode where
  | nothing | inProgress | ok | clamped | badAnchor | wrongState | badArgument | badCommand | groupDone
  | flipPending | noFlip | tooLate | probeFailed | aborted | fault
  deriving DecidableEq, Repr

/-- The late policy of R142. -/
inductive LatePolicy where
  | holdOld | showOnArrival
  deriving DecidableEq, Repr

/-- The effective air rate of a cell (R69). -/
inductive Rate where
  | k50 | k100 | k200
  deriving DecidableEq, Repr

/-- The kinds of a due record (R45); `display` is the kind SHOW. -/
inductive ItemKind where
  | deliver | poll | display
  deriving DecidableEq, Repr

/-- The mode of a due record: STAGE, or SHOW (here `display`). -/
inductive Mode where
  | stage | display
  deriving DecidableEq, Repr

/-- The record states of R46. -/
inductive RecordState where
  | waiting | planned | inAir | retiring
  deriving DecidableEq, Repr

/-- The kinds of pass of 2.3. -/
inductive PassKind where
  | changeover | opening | rescan | refill
  deriving DecidableEq, Repr

/-! ### Settings in force (anchor block, R179, R180) -/

/-- What the anchor block gives one cell. -/
structure CellSettings where
  enabled : Bool
  clockHigh : Bool
  rate : Rate
  ceiling : BitVec 3
  channel : BitVec 6
  deriving DecidableEq, Repr

/-- The settings put into force by a successful LOAD, as clamped. -/
structure Settings where
  entryCount : Nat
  directoryBase : Word
  poolBase : Word
  poolSize : Word
  entryMarkBase : Word
  groupMarkBase : Word
  nightBase : Word
  period : Nat
  lead : Nat
  window : Nat
  spread : Nat
  network : BitVec 16
  threshold : Nat
  cap : Nat
  floor : BitVec 4
  policy : LatePolicy
  parity : Bool
  cells : PerCell CellSettings
  deriving DecidableEq, Repr

/-- No settings in force (power-on, the reset pin, RESET: R67, R88, R145). -/
def noSettings : Settings :=
  { entryCount := 0, directoryBase := 0, poolBase := 0, poolSize := 0, entryMarkBase := 0, groupMarkBase := 0,
    nightBase := 0, period := 0, lead := 0, window := 0, spread := 0, network := 0, threshold := 0, cap := 0,
    floor := 0, policy := .holdOld, parity := false,
    cells := Vector.replicate 4
      { enabled := false, clockHigh := false, rate := .k50, ceiling := 0, channel := 0 } }

/-! ### The directory entry as read (R4, R6) -/

/-- The ten fields of the host half (R4). -/
structure HostHalf where
  label : LabelId
  cell : CellId
  hold : Bool
  urgent : Bool
  k : BitVec 3
  phase : BitVec 7
  group : BitVec 4
  requested : Version
  length : BitVec 16
  reference : Word
  deriving DecidableEq, Repr

/-- The ten fields of the part half (R6). -/
structure PartHalf where
  state : EntryState
  health : Nat
  attempts : Nat
  battery : BitVec 4
  lowBattery : Bool
  replySeen : Bool
  staged : Version
  shown : Version
  outcome : Version
  lastContact : BeaconNo
  deriving DecidableEq, Repr

structure Entry where
  host : HostHalf
  part : PartHalf
  deriving DecidableEq, Repr

/-! ### Due lists (R42 to R47) -/

/-- What a label said in its last good reply (R56). -/
structure LastReply where
  battery : BitVec 4
  lowBattery : Bool
  staged : Version
  shown : Version
  beacon : BeaconNo
  deriving DecidableEq, Repr

/-- A due record (R45). `kept` is the part half of the entry as the record copied it at admission, for the fields a
write-back keeps (R8, R168). -/
structure DueRecord where
  index : Nat
  label : LabelId
  cell : CellId
  k : BitVec 3
  phase : BitVec 7
  kind : ItemKind
  mode : Mode
  target : Version
  reference : Word
  length : BitVec 16
  segments : Nat
  needed : List Nat
  check : Option (BitVec 16)
  group : BitVec 4
  urgent : Bool
  attempts : Nat
  health : Nat
  eligible : BeaconNo
  state : RecordState
  refreshPending : Bool
  reEvaluate : Bool
  lateAtFlip : Bool
  outcome : Option EntryState
  reply : Option LastReply
  kept : PartHalf
  deriving DecidableEq, Repr

/-! ### Notices, passes and the entry reader (chapter 2) -/

/-- A queued notice: first index, span after any cut, and the index of the next entry to be read (R24). -/
structure Notice where
  first : Nat
  span : Nat
  progress : Nat
  deriving DecidableEq, Repr

/-- A pass: kind, cursor and remaining count (R29). -/
structure Pass where
  kind : PassKind
  cursor : Nat
  remaining : Nat
  deriving DecidableEq, Repr

/-- Where the entry in hand came from (R27); `detached` once STOP or ABORT has ended its source (R41). -/
inductive HandSource where
  | reread | notice | pass (kind : PassKind) | detached
  deriving DecidableEq, Repr

/-- What the entry reader does with the entry in hand: a notice, a re-read and a rescan visit act alike (R36). -/
inductive Visit where
  | plain | opening | refill | changeover
  deriving DecidableEq, Repr

/-- A part-half write of the sweep engine in its steps (R28). `poll` is the entry whose UNSURE write a POLL follows
(R139). -/
structure SweepWrite where
  written : EntryState
  reportable : Bool
  poll : Option Entry
  deriving DecidableEq, Repr

/-- How far the entry in hand has come. A phase ending in -ed or `read` waits for the sweep engine's own step. -/
inductive HandPhase where
  | reading
  | read (words : List Word)
  | awaitingRemoval
  | writing (w : SweepWrite)
  | written (w : SweepWrite)
  | entryMark (w : SweepWrite)
  | entryMarked (w : SweepWrite)
  | groupMark (w : SweepWrite)
  | groupMarked (w : SweepWrite)
  deriving DecidableEq, Repr

/-- The entry in hand of the entry reader (R27). `groups` keeps a changeover's group set when STOP has ended the
pass (R41). -/
structure InHand where
  index : Nat
  source : HandSource
  visit : Visit
  groups : List GroupId
  phase : HandPhase
  deriving DecidableEq, Repr

/-- The sweep engine (R27, R29). -/
structure Sweep where
  running : Option Pass
  suspended : Option Pass
  groupSet : List GroupId
  rescanPending : Bool
  reread : List Nat
  hand : Option InHand
  deriving DecidableEq, Repr

/-! ### Plans, stores and the fetch engine (chapters 4 and 5) -/

/-- A wake filter (R81). -/
structure Filter where
  value : LabelId
  mask : LabelId
  deriving DecidableEq, Repr

/-- Where an item of a plan stands: its content not yet fetched, ready, its frames or reply slot under way, dropped,
or ended with its result. -/
inductive ItemStatus where
  | unready | ready | inAir | dropped | ended
  deriving DecidableEq, Repr

/-- An item of a plan (R84), with what the fetch engine and the sequencer take from its record (R85). -/
structure PlanItem where
  index : Nat
  kind : ItemKind
  mode : Mode
  label : LabelId
  target : Version
  needed : List Nat
  cost : Nat
  offset : Nat
  buffers : List Nat
  length : BitVec 16
  group : BitVec 4
  status : ItemStatus
  deriving DecidableEq, Repr

/-- A finished plan (R84). -/
structure Plan where
  beacon : BeaconNo
  cell : CellId
  items : List PlanItem
  filters : List Filter
  deriving DecidableEq, Repr

/-- A CLAIMED or FILLED buffer of a segment store (R97). FREE buffers are not listed. `data` holds the bytes written so
far; a FILLED buffer holds 48. -/
structure SegBuffer where
  number : Nat
  index : Nat
  segment : Nat
  filled : Bool
  data : List Byte
  deriving DecidableEq, Repr

/-- An element of the fetch list (R91). -/
structure FetchElem where
  cell : CellId
  beacon : BeaconNo
  place : Nat
  index : Nat
  target : Version
  reference : Word
  length : BitVec 16
  segments : Nat
  needed : List Nat
  buffers : List Nat
  deriving DecidableEq, Repr

/-- A payload burst: the payload byte it starts at and its words (R94). -/
structure Burst where
  offset : Nat
  words : Nat
  deriving DecidableEq, Repr

/-- The fetch in progress (R92, R93). `known` is the record's content check value when the fetch began; `delivered`
holds the words of bursts the port has completed and the engine has not yet taken. -/
structure Fetch where
  elem : FetchElem
  full : Bool
  known : Option (BitVec 16)
  headerTaken : Bool
  headerCheck : BitVec 16
  crc : BitVec 16
  toOffer : List Burst
  offered : List Burst
  delivered : List (List Word)
  deriving DecidableEq, Repr

structure FetchEngine where
  list : List FetchElem
  current : Option Fetch
  deriving DecidableEq, Repr

/-! ### Beacon timer and flip unit (R106, R127) -/

/-- The timer's next events, in milliseconds after START was taken. The plan point is none between a plan point and its
beacon. -/
structure Schedule where
  nextBeacon : Nat
  nextPlan : Option Nat
  deriving DecidableEq, Repr

/-- The beacon timer; `now` is the number of the last beacon event. -/
structure BeaconTimer where
  now : BeaconNo
  schedule : Option Schedule
  deriving DecidableEq, Repr

/-- A flip group record (R127). `gap` has one bit per cell. -/
structure GroupRecord where
  state : GroupState
  flipBeacon : BeaconNo
  announce : BeaconNo
  cancel : BeaconNo
  gap : BitVec 4
  deriving DecidableEq, Repr

/-- The flip unit. `reported` has the bit of each cell whose report of the beacon `now` has been taken (R134). -/
structure FlipUnit where
  groups : PerGroup GroupRecord
  reported : BitVec 4
  deriving DecidableEq, Repr

/-- A flip notice carried in a beacon (R130). -/
structure FlipNotice where
  group : GroupId
  cancel : Bool
  beacon : BeaconNo
  deriving DecidableEq, Repr

/-! ### Cell sequencers (chapter 6) -/

/-- The five reply kinds of R116. -/
inductive ReplyKind where
  | staged | shown | partly | rejected | status
  deriving DecidableEq, Repr

/-- A good reply as taken (R118, R192). -/
structure Reply where
  kind : ReplyKind
  staged : Version
  shown : Version
  battery : BitVec 4
  missing : Word
  deriving DecidableEq, Repr

/-- The observations of a reply slot (6.4). -/
structure Observations where
  good : Option Reply
  damaged : Bool
  overrun : Bool
  deriving DecidableEq, Repr

/-- The result of an item (R119, R60). -/
inductive ItemResult where
  | good (reply : Reply)
  | damaged
  | lostAtPort
  | noReply
  | notSent
  deriving DecidableEq, Repr

/-- The sequencer's position (R110): no window, its beacon handed to the port and not yet answered, before the first
item, in an item's frames, in its reply slot, or between items. -/
inductive Position where
  | noWindow | beaconSend | before | inFrames | inReply | between
  deriving DecidableEq, Repr

/-- A cell sequencer. `coming` is the plan whose beacon event has not come; `standing` the plan whose beacon has been
taken up. `upNext` is the place of the next item to take up, `slotsLeft` the later segment slots of the item in
progress that have not started. `cut` is set while frames are dropped uncounted after a cut window (R124). -/
structure Sequencer where
  coming : Option Plan
  standing : Option Plan
  position : Position
  upNext : Nat
  slotsLeft : Nat
  obs : Observations
  offPending : Bool
  cut : Bool
  windowsSent : Nat
  itemsSent : Nat
  fetchLate : Nat
  stray : Nat
  deriving DecidableEq, Repr

/-! ### Radio ports (chapter 8) -/

/-- The five link commands of R147. -/
inductive LinkCommand where
  | tune (channel : BitVec 6) (rate : Rate)
  | send (frame : Frame)
  | listen (micros : Nat)
  | rest
  | ident
  deriving DecidableEq, Repr

/-- The block a link command was issued for: a beacon, a window, the port's probe, the port itself (IDLE), or nobody
any more (after a cut). -/
inductive Purpose where
  | beacon (b : BeaconNo)
  | window (b : BeaconNo)
  | probe
  | port
  | orphan
  deriving DecidableEq, Repr

/-- The exchange in progress on a link (R146): a command at its first or second issue, or a frame pull. `last` marks a
command that gets no second issue. A pull for an overrun is discarded. -/
inductive Exchange where
  | command (command : LinkCommand) (purpose : Purpose) (second : Bool) (last : Bool)
  | pull (discard : Bool)
  deriving DecidableEq, Repr

/-- Exchanges that have fallen due and wait for the link, in the order in which they fell due (R146). -/
inductive Due where
  | command (command : LinkCommand) (purpose : Purpose)
  | held
  | pull
  | overrunPull
  deriving DecidableEq, Repr

/-- The frame in the transmit holding buffer and the beacon of its window (R149). -/
structure HeldFrame where
  frame : Frame
  beacon : BeaconNo
  deriving DecidableEq, Repr

/-- A frame in the receive FIFO and whether it was pulled during a reply slot (R113, R120). -/
structure RxFrame where
  bytes : Frame
  inSlot : Bool
  deriving DecidableEq, Repr

/-- Who asked for a probe (R152, R153, R156, R157). -/
inductive ProbeReason where
  | load
  | cellOn (before : CellState)
  | restart (adopted : Bool)
  deriving DecidableEq, Repr

/-- A probe in progress: its reason, what it will tune to, the IDENT tries so far, and whether IDENT was answered. -/
structure Probe where
  reason : ProbeReason
  channel : BitVec 6
  rate : Rate
  tries : List DataIn
  tuning : Bool
  deriving DecidableEq, Repr

/-- A radio port. `behind` holds the cell sequencer's frames that wait for the holding buffer, oldest first (R111, R149).
`clockHigh` is the clock idle level in use; `clockNext` a level taken at LOAD that is not in use yet (R146). -/
structure RadioPort where
  state : CellState
  status : ProbeStatus
  exchange : Option Exchange
  due : List Due
  holding : Option HeldFrame
  behind : List HeldFrame
  fifo : List RxFrame
  blocked : Bool
  frameReady : Bool
  runCount : Nat
  restartCount : Nat
  countdown : Nat
  overrun : Nat
  clockHigh : Bool
  clockNext : Option Bool
  probe : Option Probe
  deriving DecidableEq, Repr

/-- What a port held before LOAD was taken, for a LOAD that ABORT ends (R153); the clock idle level is the one its next
exchange would have used. -/
structure SavedPort where
  state : CellState
  status : ProbeStatus
  runCount : Nat
  restartCount : Nat
  countdown : Nat
  clockHigh : Bool
  deriving DecidableEq, Repr

/-! ### Memory port (chapter 9) -/

/-- The requesters in rank order (R165). -/
inductive Requester where
  | fetch | writeBack | entry | night | anchor
  deriving DecidableEq, Repr

/-- A transfer: a burst of reads, a burst of writes, or a locked pair that sets one bit (R160, R162). Start addresses
are formed without wrapping. -/
inductive Action where
  | read (start : Nat) (count : Nat)
  | write (start : Nat) (words : List Word)
  | pair (start : Nat) (bit : Nat)
  deriving DecidableEq, Repr

/-- The port's hold on the bus: idle, requesting it, holding it, or backed off with the transfer kept (R160, R161). -/
inductive BusState where
  | idle | requesting | holding | backedOff
  deriving DecidableEq, Repr

/-- The current transfer. `orphan` is set when a cut has left it without a requester (R166); `checked` is the parity
enable it runs under (R163). -/
structure Transfer where
  requester : Requester
  action : Action
  orphan : Bool
  checked : Bool
  deriving DecidableEq, Repr

/-- The memory port (R160): the bus, the current transfer, the first word not yet completed, the words read, the lock
and retry flags, and the one transfer each requester may have waiting (R165). -/
structure MemoryPort where
  bus : BusState
  current : Option Transfer
  nextWord : Nat
  got : List Word
  lock : Bool
  retry : Bool
  fetchReq : Option Action
  writeBackReq : Option Action
  entryReq : Option Action
  nightReq : Option Action
  anchorReq : Option Action
  deriving DecidableEq, Repr

/-- Shared memory as the part has written it: (address, byte) pairs, addresses strictly rising; an address not listed
has not been written by the part. -/
abbrev Memory := List Host.Cell

/-! ### Write-back engine and night record (chapter 9) -/

/-- The write-back engine's step on the head item (R168). -/
inductive WriteBackPhase where
  | idle | partHalf | partHalfWritten | entryMark | entryMarked | groupMark | groupMarked
  deriving DecidableEq, Repr

/-- The write-back list holds entry indices, oldest first (R167). -/
structure WriteBack where
  list : List Nat
  phase : WriteBackPhase
  deriving DecidableEq, Repr

/-- A snapshot of the night record; `awaited` when a STOP, ABORT or LOAD waits for its write. -/
structure Snapshot where
  base : Word
  words : List Word
  awaited : Bool
  deriving DecidableEq, Repr

/-- A night record write in progress: the snapshot, the words offered so far, whether the last burst has completed, and
whether it ends with its current burst (R173). -/
structure NightWrite where
  snapshot : Snapshot
  offered : Nat
  complete : Bool
  cut : Bool
  deriving DecidableEq, Repr

structure NightWriter where
  writeCount : Word
  current : Option NightWrite
  waiting : Option Snapshot
  deriving DecidableEq, Repr

/-- The night record's counts of entries reaching each state tonight (R20, R189), one for each state but QUEUED and
DEFERRED, and its parity fault and notice-lost counts. -/
structure NightCounts where
  idle : Nat
  staged : Nat
  shown : Nat
  unsure : Nat
  late : Nat
  unreachable : Nat
  gaveUp : Nat
  contentBad : Nat
  refused : Nat
  entryBad : Nat
  held : Nat
  parityFaults : Nat
  noticesLost : Nat
  deriving DecidableEq, Repr

/-! ### Command unit (chapter 10) -/

/-- How far a LOAD has come: reading the anchor block from the address taken, its words read, probing with the settings
held aside, or writing the night record. `saved` is what the ports held before LOAD was taken (R153). -/
inductive LoadPhase where
  | reading (address : Word) (got : List Word) (saved : PerCell SavedPort)
  | read (words : List Word) (saved : PerCell SavedPort)
  | probing (aside : Settings) (clamps : Nat) (saved : PerCell SavedPort)
  | recording (clamps : Nat)
  deriving DecidableEq, Repr

/-- The command in progress. `load` keeps the controller state before it; `abort` the result it will give once its
night record write ends; `abortProbe` an ABORT that waits for the command of a CELL_ON probe; `reset` a RESET that waits
for a transfer, with whether a command was in progress when it was taken. -/
inductive Running where
  | load (before : ControllerState) (phase : LoadPhase)
  | stop (drained : Bool)
  | abort (code : ResultCode) (value : Nat)
  | abortProbe (cell : CellId)
  | cellOn (cell : CellId)
  | reset (busy : Bool)
  deriving DecidableEq, Repr

/-- The command unit: the registers, the waiting command, the command in progress, attention, the controller state and
the night number. CMD and NOTICE hold nothing: they read 0 (R174). -/
structure CommandUnit where
  anchor : Word
  waiting : Option HostCommand
  inProgress : Option Running
  resultCode : ResultCode
  resultValue : BitVec 24
  controller : ControllerState
  attn : BitVec 9
  mask : BitVec 9
  nightNumber : Word
  deriving DecidableEq, Repr

/-! ### The state -/

/-- The part. `pending` is the queue of commands from outside (the model's own); everything else is the manual's. -/
structure State where
  cmd : CommandUnit
  settings : Settings
  inForce : Bool
  notices : List Notice
  sweep : Sweep
  due : PerCell (List DueRecord)
  deferred : PerCell Bool
  drained : Nat
  seq : PerCell Sequencer
  fetch : FetchEngine
  store : PerCell (List SegBuffer)
  timer : BeaconTimer
  flip : FlipUnit
  port : PerCell RadioPort
  bus : MemoryPort
  wb : WriteBack
  night : NightWriter
  counts : NightCounts
  shared : Memory
  pending : List Instr
  deriving DecidableEq, Repr

/-! ### Power-on values -/

def commandUnitReset : CommandUnit :=
  { anchor := 0, waiting := none, inProgress := none, resultCode := .nothing, resultValue := 0,
    controller := .unloaded, attn := 0, mask := 0, nightNumber := 0 }

def sweepReset : Sweep :=
  { running := none, suspended := none, groupSet := [], rescanPending := false, reread := [], hand := none }

def noObservations : Observations := { good := none, damaged := false, overrun := false }

def sequencerReset : Sequencer :=
  { coming := none, standing := none, position := .noWindow, upNext := 0, slotsLeft := 0, obs := noObservations,
    offPending := false, cut := false, windowsSent := 0, itemsSent := 0, fetchLate := 0, stray := 0 }

def groupReset : GroupRecord := { state := .opened, flipBeacon := 0, announce := 0, cancel := 0, gap := 0 }

def radioPortReset : RadioPort :=
  { state := .off, status := .notChecked, exchange := none, due := [], holding := none, behind := [],
    fifo := [], blocked := false, frameReady := false, runCount := 0, restartCount := 0, countdown := 0,
    overrun := 0, clockHigh := false, clockNext := none, probe := none }

def memoryPortReset : MemoryPort :=
  { bus := .idle, current := none, nextWord := 0, got := [], lock := false, retry := false, fetchReq := none,
    writeBackReq := none, entryReq := none, nightReq := none, anchorReq := none }

def countsReset : NightCounts :=
  { idle := 0, staged := 0, shown := 0, unsure := 0, late := 0, unreachable := 0, gaveUp := 0, contentBad := 0,
    refused := 0, entryBad := 0, held := 0, parityFaults := 0, noticesLost := 0 }

/-- The part right after power-on (R186 and the reset rule of each block), with nothing written to shared memory and no
command waiting. -/
def State.reset : State :=
  { cmd := commandUnitReset
    settings := noSettings
    inForce := false
    notices := []
    sweep := sweepReset
    due := Vector.replicate 4 []
    deferred := Vector.replicate 4 false
    drained := 0
    seq := Vector.replicate 4 sequencerReset
    fetch := { list := [], current := none }
    store := Vector.replicate 4 []
    timer := { now := 0, schedule := none }
    flip := { groups := Vector.replicate 15 groupReset, reported := 0 }
    port := Vector.replicate 4 radioPortReset
    bus := memoryPortReset
    wb := { list := [], phase := .idle }
    night := { writeCount := 0, current := none, waiting := none }
    counts := countsReset
    shared := []
    pending := [] }

end Sys2Proof.Machine
end

