-- ==== Sys2Proof/Machine/Ops.lean ====
section
/-! DEFINITION. The shared operations: tables of cells and groups, updates of State by block, beacon arithmetic (R1), counts,
shared memory as the part writes it, and the memory port's waiting transfers and its choice among them (R165). -/

namespace Sys2Proof.Machine

/-! ### Tables -/

/-- The same function at every place of a table. -/
def tableMap {α β : Type} {n : Nat} (f : α → β) (v : Vector α n) : Vector β n :=
  ⟨⟨v.toArray.toList.map f⟩, by simp⟩

def cellAt {α : Type} (v : PerCell α) (c : CellId) : α := v[c]

def cellPut {α : Type} (v : PerCell α) (c : CellId) (x : α) : PerCell α := v.set c.val x c.isLt

def groupAt {α : Type} (v : PerGroup α) (g : GroupId) : α := v[g]

def groupPut {α : Type} (v : PerGroup α) (g : GroupId) (x : α) : PerGroup α := v.set g.val x g.isLt

/-! ### Updates of one block -/

def State.setCmd (s : State) (v : CommandUnit) : State := { s with cmd := v }
def State.setSettings (s : State) (v : Settings) : State := { s with settings := v }
def State.setInForce (s : State) (v : Bool) : State := { s with inForce := v }
def State.setNotices (s : State) (v : List Notice) : State := { s with notices := v }
def State.setSweep (s : State) (v : Sweep) : State := { s with sweep := v }
def State.setDue (s : State) (v : PerCell (List DueRecord)) : State := { s with due := v }
def State.setDeferred (s : State) (v : PerCell Bool) : State := { s with deferred := v }
def State.setDrained (s : State) (v : Nat) : State := { s with drained := v }
def State.setSeq (s : State) (v : PerCell Sequencer) : State := { s with seq := v }
def State.setFetch (s : State) (v : FetchEngine) : State := { s with fetch := v }
def State.setStore (s : State) (v : PerCell (List SegBuffer)) : State := { s with store := v }
def State.setTimer (s : State) (v : BeaconTimer) : State := { s with timer := v }
def State.setFlip (s : State) (v : FlipUnit) : State := { s with flip := v }
def State.setPort (s : State) (v : PerCell RadioPort) : State := { s with port := v }
def State.setBus (s : State) (v : MemoryPort) : State := { s with bus := v }
def State.setWb (s : State) (v : WriteBack) : State := { s with wb := v }
def State.setNight (s : State) (v : NightWriter) : State := { s with night := v }
def State.setCounts (s : State) (v : NightCounts) : State := { s with counts := v }
def State.setShared (s : State) (v : Memory) : State := { s with shared := v }
def State.setPending (s : State) (v : List Instr) : State := { s with pending := v }

def State.seqAt (s : State) (c : CellId) : Sequencer := cellAt s.seq c

def State.portAt (s : State) (c : CellId) : RadioPort := cellAt s.port c

def State.dueAt (s : State) (c : CellId) : List DueRecord := cellAt s.due c

def State.storeAt (s : State) (c : CellId) : List SegBuffer := cellAt s.store c

def State.cellSettings (s : State) (c : CellId) : CellSettings := cellAt s.settings.cells c

def State.modSeq (s : State) (c : CellId) (f : Sequencer → Sequencer) : State :=
  s.setSeq (cellPut s.seq c (f (s.seqAt c)))

def State.modPort (s : State) (c : CellId) (f : RadioPort → RadioPort) : State :=
  s.setPort (cellPut s.port c (f (s.portAt c)))

def State.modDue (s : State) (c : CellId) (f : List DueRecord → List DueRecord) : State :=
  s.setDue (cellPut s.due c (f (s.dueAt c)))

def State.modStore (s : State) (c : CellId) (f : List SegBuffer → List SegBuffer) : State :=
  s.setStore (cellPut s.store c (f (s.storeAt c)))

/-- An operation of one cell made for the four cells, cell 0 first. -/
def forCells (f : State → CellId → State) (s : State) : State := allCells.foldl f s

/-! ### Beacon numbers (R1) -/

/-- "Beacon b is at or after beacon e": (b - e) mod 2^32 is less than 2^31 (R1). -/
def atOrAfter (b e : BeaconNo) : Bool := decide ((b - e).toNat < 2 ^ 31)

/-- "Beacon b is before beacon e": not at or after it (R1). -/
def beforeBeacon (b e : BeaconNo) : Bool := !atOrAfter b e

/-- "Beacon b is after beacon e": at or after it and not equal to it. -/
def afterBeacon (b e : BeaconNo) : Bool := atOrAfter b e && b != e

/-! ### Counts -/

/-- A count of the night record goes up by one and saturates at 2^32 - 1 (R189). -/
def countUp (n : Nat) : Nat := min (n + 1) Config.countMax

/-! ### Shared memory as the part writes it -/

/-- The byte the part last wrote at an address, or none where it has written nothing. -/
def readByte (m : Memory) (a : Nat) : Option Byte := (m.find? fun cell => cell.1 == a).map Prod.snd

def writeByte : Memory → Nat → Byte → Memory
  | [], a, b => [(a, b)]
  | (x, y) :: rest, a, b =>
    if a < x then (a, b) :: (x, y) :: rest
    else if a = x then (a, b) :: rest
    else (x, y) :: writeByte rest a b

/-- The canonical form of shared memory: addresses strictly rising. -/
def Memory.wf (m : Memory) : Bool := decide (m.Pairwise fun p q => p.1 < q.1)

/-- Byte i of a word, byte 0 the least significant (little-endian, R190). -/
def wordByte (w : Word) (i : Nat) : Byte := w.extractLsb' (8 * i) 8

/-- A word is stored lowest byte at the lowest address (R190). -/
def writeWord (m : Memory) (a : Word) (w : Word) : Memory :=
  [0, 1, 2, 3].foldl (fun m i => writeByte m (a.toNat + i) (wordByte w i)) m

/-- The word the part last wrote at an address, where it has written all four bytes. -/
def readWord (m : Memory) (a : Nat) : Option Word := do
  let b0 ← readByte m a
  let b1 ← readByte m (a + 1)
  let b2 ← readByte m (a + 2)
  let b3 ← readByte m (a + 3)
  return b3 ++ b2 ++ b1 ++ b0

/-- The 32-bit address the port drives. An address formed without wrapping that is 2^32 or more has no stated
result: a free value (UNVERIFIED, notes/assumptions/4.md). -/
def busAddress (a : Nat) : Word := if a < 2 ^ 32 then BitVec.ofNat 32 a else Config.addressPastTop a

/-! ### The memory port's waiting transfers (R165) -/

def MemoryPort.waitingOf (p : MemoryPort) : Requester → Option Action
  | .fetch => p.fetchReq
  | .writeBack => p.writeBackReq
  | .entry => p.entryReq
  | .night => p.nightReq
  | .anchor => p.anchorReq

def MemoryPort.setWaiting (p : MemoryPort) (r : Requester) (a : Option Action) : MemoryPort :=
  match r with
  | .fetch => { p with fetchReq := a }
  | .writeBack => { p with writeBackReq := a }
  | .entry => { p with entryReq := a }
  | .night => { p with nightReq := a }
  | .anchor => { p with anchorReq := a }

/-- No requester has a transfer waiting. -/
def MemoryPort.withdrawn (p : MemoryPort) : MemoryPort :=
  { p with fetchReq := none, writeBackReq := none, entryReq := none, nightReq := none, anchorReq := none }

/-- The requesters in rank order, highest first (R165). -/
def requesterRanks : List Requester := [.fetch, .writeBack, .entry, .night, .anchor]

/-- The waiting requester of highest rank (R165). -/
def MemoryPort.highest (p : MemoryPort) : Option Requester :=
  requesterRanks.find? fun r => (p.waitingOf r).isSome

/-- A requester offers its next transfer. -/
def State.offer (s : State) (r : Requester) (a : Action) : State := s.setBus (s.bus.setWaiting r (some a))

/-- Only a locked pair is made with the lock flag set (R162). -/
def Action.isPair : Action → Bool
  | .pair _ _ => true
  | _ => false

/-- How many words a transfer completes; a locked pair completes its read and its write. -/
def Action.words : Action → Nat
  | .read _ n => n
  | .write _ ws => ws.length
  | .pair _ _ => 2

/-- The port begins a transfer: it asserts its bus request, and the lock flag for a locked pair (R160, R162). The parity
enable is the one in force (R163). -/
def MemoryPort.begin (p : MemoryPort) (r : Requester) (a : Action) (parity : Bool) : MemoryPort :=
  { p.setWaiting r none with
    bus := .requesting, current := some { requester := r, action := a, orphan := false, checked := parity },
    nextWord := 0, got := [], lock := a.isPair, retry := false }

/-- Each time the port is idle and a requester has a transfer waiting, it takes the one of highest rank (R165). -/
def State.arbitrate (s : State) : State :=
  if s.bus.bus = .idle ∧ s.bus.current = none then
    match s.bus.highest with
    | none => s
    | some r =>
      match s.bus.waitingOf r with
      | none => s
      | some a => s.setBus (s.bus.begin r a s.settings.parity)
  else s

/-- The port gives the bus back and holds no transfer (R160). -/
def MemoryPort.release (p : MemoryPort) : MemoryPort :=
  { p with bus := .idle, current := none, nextWord := 0, got := [], lock := false, retry := false }

/-- The current transfer of a requester loses its requester and is carried to its end (R166). -/
def MemoryPort.orphan (p : MemoryPort) (r : Requester) : MemoryPort :=
  { p with current := p.current.map fun t => if t.requester = r then { t with orphan := true } else t }

/-- Whether the port's current transfer is a requester's own. -/
def MemoryPort.serves (p : MemoryPort) (r : Requester) : Bool :=
  match p.current with
  | some t => decide (t.requester = r) && !t.orphan
  | none => false

/-! ### Controller state -/

/-- A night is running: RUNNING or PAUSED. -/
def State.nightOn (s : State) : Bool :=
  decide (s.cmd.controller = .running) || decide (s.cmd.controller = .paused)

def State.stopping (s : State) : Bool := decide (s.cmd.controller = .stopping)

def State.setController (s : State) (c : ControllerState) : State := s.setCmd { s.cmd with controller := c }

/-- The index of a flip group's record; group 0 has none (R127). -/
def groupIndex (g : BitVec 4) : Option GroupId :=
  if h : g.toNat = 0 then none else some ⟨g.toNat - 1, by omega⟩

/-- A group counts as DONE tonight when the flip unit holds it in DONE (R14). -/
def State.groupDone (s : State) (g : BitVec 4) : Bool :=
  match groupIndex g with
  | none => false
  | some i => decide ((groupAt s.flip.groups i).state = .done)

/-- K, the largest of the four wake ceilings (R128). -/
def Settings.bigK (t : Settings) : Nat :=
  allCells.foldl (fun m c => max m (cellAt t.cells c).ceiling.toNat) 0

end Sys2Proof.Machine
end

