-- ==== Sys2Proof/Machine/Flags.lean ====
section
/-! DEFINITION. Attention (R187), RESULT (R177) and the completion of a command (R175), and the night record's counts. -/

namespace Sys2Proof.Machine

/-- The bit of a cause in ATTN and in the mask (11.3). -/
def Cause.index : Cause → Nat
  | .cmdDone => 0
  | .cmdLost => 1
  | .noticeLost => 2
  | .report => 3
  | .flip => 4
  | .cell => 5
  | .memFault => 6
  | .faulted => 7
  | .sweepDone => 8

def Cause.bit (c : Cause) : BitVec 9 := BitVec.ofNat 9 (2 ^ c.index)

/-- A cause is raised; one already set stays set (R187). -/
def State.raise (s : State) (c : Cause) : State := s.setCmd { s.cmd with attn := s.cmd.attn ||| c.bit }

/-- The attention line is asserted while a cause is both set and enabled (R187). -/
def State.attentionLine (s : State) : Bool := s.cmd.attn &&& s.cmd.mask != 0

/-- The RESULT codes of 11.3. -/
def ResultCode.code : ResultCode → BitVec 8
  | .nothing => 0x00
  | .inProgress => 0x01
  | .ok => 0x02
  | .clamped => 0x03
  | .badAnchor => 0x04
  | .wrongState => 0x05
  | .badArgument => 0x06
  | .badCommand => 0x07
  | .groupDone => 0x08
  | .flipPending => 0x09
  | .noFlip => 0x0A
  | .tooLate => 0x0B
  | .probeFailed => 0x0C
  | .aborted => 0x0D
  | .fault => 0x0E

/-- RESULT is set; a value wider than 24 bits is given as its low 24 bits (R177). -/
def State.setResult (s : State) (code : ResultCode) (value : Nat) : State :=
  s.setCmd { s.cmd with resultCode := code, resultValue := BitVec.ofNat 24 value }

/-- A command completes: RESULT takes its final code and value, the in-progress flag is cleared and CMD_DONE is raised
(R175). -/
def State.finish (s : State) (code : ResultCode) (value : Nat) : State :=
  let t := s.setResult code value
  (t.setCmd { t.cmd with inProgress := none }).raise .cmdDone

/-- A command is taken that stays in progress: RESULT reads IN_PROGRESS with value 0 (R175). -/
def State.setRunning (s : State) (r : Running) : State :=
  let t := s.setResult .inProgress 0
  t.setCmd { t.cmd with inProgress := some r }

/-- The count of entries reaching a state tonight; QUEUED and DEFERRED have none (R20, R189). -/
def NightCounts.reach (n : NightCounts) : EntryState → NightCounts
  | .idle => { n with idle := countUp n.idle }
  | .staged => { n with staged := countUp n.staged }
  | .shown => { n with shown := countUp n.shown }
  | .unsure => { n with unsure := countUp n.unsure }
  | .late => { n with late := countUp n.late }
  | .unreachable => { n with unreachable := countUp n.unreachable }
  | .gaveUp => { n with gaveUp := countUp n.gaveUp }
  | .contentBad => { n with contentBad := countUp n.contentBad }
  | .refused => { n with refused := countUp n.refused }
  | .entryBad => { n with entryBad := countUp n.entryBad }
  | .held => { n with held := countUp n.held }
  | .queued => n
  | .deferred => n

/-- A reportable change has its marks: REPORT is raised and the state's count goes up by one (R28, R168). -/
def State.report (s : State) (e : EntryState) : State := (s.setCounts (s.counts.reach e)).raise .report

/-- A read that failed its parity repeat: MEM_FAULT and the parity fault count (R163). -/
def State.memFault (s : State) : State :=
  (s.setCounts { s.counts with parityFaults := countUp s.counts.parityFaults }).raise .memFault

end Sys2Proof.Machine
end

