-- ==== Sys2Proof/Machine/Formats.lean ====
section
/-! DEFINITION. The layouts of chapter 11 in shared memory and in the registers: directory entry, anchor block with its checks
and clamps, content record header, night record, STATUS, RESULT and ATTN. -/

namespace Sys2Proof.Machine

/-! ### Packing -/

/-- A word made of fields (lowest bit, width, value); every bit that carries no field is 0 (R190). -/
def packFields (fields : List (Nat × Nat × Nat)) : Word :=
  BitVec.ofNat 32 ((fields.map fun f => f.2.2 % 2 ^ f.2.1 * 2 ^ f.1).sum)

def flagBit (b : Bool) : Nat := if b then 1 else 0

/-- Word i of words read, 0 where there is none. -/
def wordOf (words : List Word) (i : Nat) : Word := words.getD i 0

/-! ### Codes (11.2) -/

def EntryState.code : EntryState → Nat
  | .idle => 0
  | .deferred => 1
  | .queued => 2
  | .staged => 3
  | .shown => 4
  | .unsure => 5
  | .late => 6
  | .unreachable => 7
  | .gaveUp => 8
  | .contentBad => 9
  | .refused => 10
  | .entryBad => 11
  | .held => 12

/-- A code that names none of the thirteen states is read as IDLE (R7, R190). -/
def entryStateOf (code : BitVec 4) : EntryState :=
  match code.toNat with
  | 1 => .deferred
  | 2 => .queued
  | 3 => .staged
  | 4 => .shown
  | 5 => .unsure
  | 6 => .late
  | 7 => .unreachable
  | 8 => .gaveUp
  | 9 => .contentBad
  | 10 => .refused
  | 11 => .entryBad
  | 12 => .held
  | _ => .idle

def ControllerState.code : ControllerState → Nat
  | .unloaded => 0
  | .loading => 1
  | .loaded => 2
  | .running => 3
  | .paused => 4
  | .stopping => 5
  | .faulted => 6

def CellState.code : CellState → Nat
  | .off => 0
  | .probing => 1
  | .active => 2
  | .quiet => 3
  | .failed => 4

def ProbeStatus.code : ProbeStatus → Nat
  | .notChecked => 0
  | .present => 1
  | .wrongKind => 2
  | .noAnswer => 3
  | .lineStuck => 4

def GroupState.code : GroupState → Nat
  | .opened => 0
  | .announced => 1
  | .cancelling => 2
  | .done => 3

/-- The pass kind STATUS shows (R29, R188). -/
def passCode : Option Pass → Nat
  | none => 0
  | some p =>
    match p.kind with
    | .changeover => 1
    | .opening => 2
    | .rescan => 3
    | .refill => 4

def Rate.code : Rate → Nat
  | .k50 => 0
  | .k100 => 1
  | .k200 => 2

/-- Code 3 is treated as 200 kbit/s (R69). -/
def rateOf (code : BitVec 2) : Rate :=
  match code.toNat with
  | 0 => .k50
  | 1 => .k100
  | _ => .k200

def LatePolicy.code : LatePolicy → Nat
  | .holdOld => 0
  | .showOnArrival => 1

/-! ### The directory entry -/

/-- Entry i lies at the directory base + 32 × i (R2). -/
def entryAddress (t : Settings) (i : Nat) : Nat := t.directoryBase.toNat + 32 * i

/-- The part half is the last 16 bytes of the entry (R3). -/
def partHalfAddress (t : Settings) (i : Nat) : Nat := entryAddress t i + 16

def decodeHostHalf (ws : List Word) : HostHalf :=
  { label := (wordOf ws 0).extractLsb' 0 28
    cell := ((wordOf ws 0).extractLsb' 28 2).toFin
    hold := (wordOf ws 0).getLsbD 30
    urgent := (wordOf ws 0).getLsbD 31
    k := (wordOf ws 1).extractLsb' 0 3
    phase := (wordOf ws 1).extractLsb' 8 7
    group := (wordOf ws 1).extractLsb' 16 4
    requested := (wordOf ws 2).extractLsb' 0 16
    length := (wordOf ws 2).extractLsb' 16 16
    reference := wordOf ws 3 }

def decodePartHalf (ws : List Word) : PartHalf :=
  { state := entryStateOf ((wordOf ws 4).extractLsb' 0 4)
    health := ((wordOf ws 4).extractLsb' 8 6).toNat
    attempts := ((wordOf ws 4).extractLsb' 16 4).toNat
    battery := (wordOf ws 4).extractLsb' 24 4
    lowBattery := (wordOf ws 4).getLsbD 28
    replySeen := (wordOf ws 4).getLsbD 29
    staged := (wordOf ws 5).extractLsb' 0 16
    shown := (wordOf ws 5).extractLsb' 16 16
    outcome := (wordOf ws 6).extractLsb' 0 16
    lastContact := wordOf ws 7 }

/-- The eight words of an entry as read (R2). -/
def decodeEntry (ws : List Word) : Entry := { host := decodeHostHalf ws, part := decodePartHalf ws }

/-- The four words of a part-half write (R3, R8). -/
def partHalfWords (p : PartHalf) : List Word :=
  [packFields [(0, 4, p.state.code), (8, 6, p.health), (16, 4, p.attempts), (24, 4, p.battery.toNat),
      (28, 1, flagBit p.lowBattery), (29, 1, flagBit p.replySeen)],
    packFields [(0, 16, p.staged.toNat), (16, 16, p.shown.toNat)],
    packFields [(0, 16, p.outcome.toNat)],
    p.lastContact]

/-! ### The anchor block -/

/-- The checks of R179 over the sixteen words read. -/
def anchorAccepted (ws : List Word) : Bool :=
  decide (wordOf ws 0 = Config.anchorTag) && decide (1 ≤ (wordOf ws 1).toNat) &&
    decide ((wordOf ws 1).toNat ≤ 65536) && decide ((wordOf ws 2).toNat % 32 = 0) &&
    [3, 5, 6, 7].all (fun i => (wordOf ws i).toNat % 4 == 0) && decide (wordOf ws 4 ≠ 0)

/-- R67: rounded down to a multiple of 50 ms, then clamped into 250 to 4,000 ms. -/
def effectivePeriod (p : Nat) : Nat := min 4000 (max 250 (p / 50 * 50))

/-- R68: clamped into 20 to 200 ms, and at most P - 110. -/
def effectiveLead (period lead : Nat) : Nat := min (min 200 (max 20 lead)) (period - 110)

/-- R68: rounded down to a multiple of 10 ms, clamped into 50 to 900 ms, and at most P - 60 - lead_eff rounded down to a
multiple of 10. -/
def effectiveWindow (period lead window : Nat) : Nat :=
  min (min 900 (max 50 (window / 10 * 10))) ((period - 60 - lead) / 10 * 10)

/-- R179: the health threshold 0 becomes 1, and above 63 becomes 63. -/
def effectiveThreshold (t : Nat) : Nat := min 63 (max 1 t)

/-- R179: the attempt cap 0 becomes 1, and above 15 becomes 15. -/
def effectiveCap (a : Nat) : Nat := min 15 (max 1 a)

def anchorCell (w : Word) : CellSettings :=
  { enabled := w.getLsbD 0
    clockHigh := w.getLsbD 1
    rate := rateOf (w.extractLsb' 2 2)
    ceiling := w.extractLsb' 4 3
    channel := w.extractLsb' 8 6 }

/-- The settings an accepted anchor block gives, clamped (R179, 11.2). -/
def anchorSettings (ws : List Word) : Settings :=
  let period := effectivePeriod ((wordOf ws 8).extractLsb' 0 16).toNat
  let lead := effectiveLead period ((wordOf ws 8).extractLsb' 16 16).toNat
  { entryCount := (wordOf ws 1).toNat
    directoryBase := wordOf ws 2
    poolBase := wordOf ws 3
    poolSize := wordOf ws 4
    entryMarkBase := wordOf ws 5
    groupMarkBase := wordOf ws 6
    nightBase := wordOf ws 7
    period := period
    lead := lead
    window := effectiveWindow period lead ((wordOf ws 9).extractLsb' 0 16).toNat
    spread := ((wordOf ws 9).extractLsb' 16 16).toNat
    network := (wordOf ws 10).extractLsb' 0 16
    threshold := effectiveThreshold ((wordOf ws 10).extractLsb' 16 8).toNat
    cap := effectiveCap ((wordOf ws 10).extractLsb' 24 8).toNat
    floor := (wordOf ws 11).extractLsb' 0 4
    policy := if (wordOf ws 11).getLsbD 4 then .showOnArrival else .holdOld
    parity := (wordOf ws 11).getLsbD 5
    cells := ⟨#[anchorCell (wordOf ws 12), anchorCell (wordOf ws 13), anchorCell (wordOf ws 14),
      anchorCell (wordOf ws 15)], rfl⟩ }

/-- The number of clamps LOAD made: each setting that differs from the value written counts once, and each rate code 3
(R179). -/
def anchorClamps (ws : List Word) : Nat :=
  let t := anchorSettings ws
  let differs := fun (written effective : Nat) => flagBit (written != effective)
  differs ((wordOf ws 8).extractLsb' 0 16).toNat t.period +
    differs ((wordOf ws 8).extractLsb' 16 16).toNat t.lead +
    differs ((wordOf ws 9).extractLsb' 0 16).toNat t.window +
    differs ((wordOf ws 10).extractLsb' 16 8).toNat t.threshold +
    differs ((wordOf ws 10).extractLsb' 24 8).toNat t.cap +
    ([12, 13, 14, 15].countP fun i => (wordOf ws i).extractLsb' 2 2 == 3)

/-! ### The content record header (R89, 11.2) -/

def headerVersion (ws : List Word) : Version := (wordOf ws 0).extractLsb' 0 16

def headerLength (ws : List Word) : BitVec 16 := (wordOf ws 0).extractLsb' 16 16

def headerCheckValue (ws : List Word) : BitVec 16 := (wordOf ws 1).extractLsb' 0 16

/-! ### The night record (R189, 11.2) -/

/-- The eight words of one cell, words 8 + 8c to 15 + 8c. -/
def nightCellWords (s : State) (c : CellId) : List Word :=
  let p := s.portAt c
  let q := s.seqAt c
  [packFields [(0, 3, p.state.code), (4, 3, p.status.code), (7, 1, flagBit (cellAt s.deferred c)),
      (8, 4, p.restartCount), (16, 11, (s.dueAt c).length)],
    BitVec.ofNat 32 q.windowsSent, BitVec.ofNat 32 q.itemsSent, BitVec.ofNat 32 q.fetchLate,
    BitVec.ofNat 32 q.stray, BitVec.ofNat 32 p.overrun, 0, 0]

/-- The two words of one flip group. -/
def nightGroupWords (s : State) (g : GroupId) : List Word :=
  let r := groupAt s.flip.groups g
  [packFields [(0, 2, r.state.code), (4, 4, r.gap.toNat)], r.flipBeacon]

def nightCountWords (n : NightCounts) : List Word :=
  [n.idle, n.staged, n.shown, n.unsure, n.late, n.unreachable, n.gaveUp, n.contentBad, n.refused, n.entryBad,
    n.held, n.parityFaults, n.noticesLost].map (BitVec.ofNat 32)

/-- Words 1 to 82 of the record: every field but the two copies of the write count. -/
def nightFieldWords (s : State) : List Word :=
  let t := s.settings
  [s.cmd.nightNumber, s.timer.now,
    packFields [(0, 3, s.cmd.controller.code), (8, 3, t.bigK), (12, 1, t.policy.code), (13, 1, flagBit t.parity)],
    packFields [(0, 16, t.period), (16, 16, t.lead)],
    packFields [(0, 16, t.window), (16, 16, t.spread)],
    packFields [(0, 16, t.network.toNat), (16, 8, t.threshold), (24, 4, t.cap), (28, 4, t.floor.toNat)],
    packFields (allCells.flatMap fun c =>
      [(8 * c.val, 2, (cellAt t.cells c).rate.code), (8 * c.val + 2, 3, (cellAt t.cells c).ceiling.toNat)])] ++
    allCells.flatMap (nightCellWords s) ++ allGroups.flatMap (nightGroupWords s) ++ nightCountWords s.counts

/-- The 84 words of a write: the leading and trailing copies of the write count around the fields (R172). -/
def nightRecordWords (count : Word) (fields : List Word) : List Word := [count] ++ fields ++ [count]

/-! ### The registers (11.3) -/

/-- STATUS as it stands (R188). -/
def State.statusWord (s : State) : Word :=
  packFields ([(0, 3, s.cmd.controller.code), (4, 1, flagBit s.cmd.waiting.isSome),
    (5, 1, flagBit s.cmd.inProgress.isSome), (8, 4, s.notices.length), (12, 3, passCode s.sweep.running)] ++
    allCells.map fun c => (16 + 4 * c.val, 3, (s.portAt c).state.code))

/-- RESULT as it stands (R177). -/
def State.resultWord (s : State) : Word :=
  packFields [(0, 8, s.cmd.resultCode.code.toNat), (8, 24, s.cmd.resultValue.toNat)]

/-- A read of the register window: CMD and NOTICE read 0, and the addresses between and beyond the six registers read 0
(R174). -/
def State.readRegister (s : State) (offset : Word) : Word :=
  if offset = 0x00 then s.cmd.anchor
  else if offset = 0x0C then s.statusWord
  else if offset = 0x10 then s.resultWord
  else if offset = 0x14 then s.cmd.attn.setWidth 32
  else 0

end Sys2Proof.Machine
end

