-- ==== Sys2Proof/Machine/Operands.lean ====
section
/-! DEFINITION. What the operands of the commands say: cell arguments, notice ranges, the parity of a read word, answer words,
pulled frames (R23, R163, R183, R191), and the CRC-16 (R193). -/

namespace Sys2Proof.Machine

/-- A cell number above 3 names no cell (R183). -/
def cellArgument (cell : BitVec 8) : Option CellId :=
  if h : cell.toNat < 4 then some ⟨cell.toNat, h⟩ else none

/-- The notice a NOTICE write stands for, cut at the directory end; none when its first index is at or beyond the entry
count (R23). -/
def noticeRange (entryCount : Nat) (first spanMinusOne : BitVec 16) : Option Notice :=
  if first.toNat < entryCount then
    some { first := first.toNat, span := min (spanMinusOne.toNat + 1) (entryCount - first.toNat),
           progress := first.toNat }
  else none

/-- The parity bit that makes the ones of a byte and the bit together even. -/
def evenParityBit (b : Byte) : Bool := (List.range 8).foldl (fun p i => p ^^ b.getLsbD i) false

/-- The even parity of each byte of a read word holds (R163). -/
def parityGood (w : Word) (parity : BitVec 4) : Bool :=
  (List.range 4).all fun i => evenParityBit (wordByte w i) == parity.getLsbD i

/-- The command code a link command carries (R191). -/
def LinkCommand.code : LinkCommand → Nat
  | .tune _ _ => 1
  | .send _ => 2
  | .listen _ => 3
  | .rest => 4
  | .ident => 5

/-- The command word of a link command (R191). The bits that carry no field are 0, a DESIGN CHOICE (notes/assumptions/43.md):
R190 gives zeros for part-half writes, night record writes and frames only. -/
def LinkCommand.word : LinkCommand → Word
  | .tune channel rate => packFields [(0, 4, 1), (8, 6, channel.toNat), (16, 2, rate.code)]
  | .send frame => packFields [(0, 4, 2), (8, 8, frame.length)]
  | .listen micros => packFields [(0, 4, 3), (8, 24, micros)]
  | .rest => packFields [(0, 4, 4)]
  | .ident => packFields [(0, 4, 5)]

/-- An answer word carries the command's own code and ACCEPTED (R147, R191). -/
def answers (c : LinkCommand) (answer : Word) : Bool :=
  (answer.extractLsb' 0 4).toNat == c.code && !answer.getLsbD 4

/-- The kind code of an IDENT answer (R191). -/
def answerKind (answer : Word) : BitVec 8 := answer.extractLsb' 8 8

/-- Words carry a frame with its first byte in bits 7:0 of the first word (R191). -/
def unpackBytes (ws : List Word) : List Byte := ws.flatMap fun w => [0, 1, 2, 3].map (wordByte w)

/-- A frame in words (R191). That the last is filled up with zero bytes is a DESIGN CHOICE (notes/assumptions/43.md). -/
def packBytes : List Byte → List Word
  | [] => []
  | [a] => [packFields [(0, 8, a.toNat)]]
  | [a, b] => [packFields [(0, 8, a.toNat), (8, 8, b.toNat)]]
  | [a, b, c] => [packFields [(0, 8, a.toNat), (8, 8, b.toNat), (16, 8, c.toNat)]]
  | a :: b :: c :: d :: rest =>
    packFields [(0, 8, a.toNat), (8, 8, b.toNat), (16, 8, c.toNat), (24, 8, d.toNat)] :: packBytes rest

/-- The words of a link command: the command word, and the frame behind a SEND (R191). -/
def LinkCommand.words (c : LinkCommand) : List Word :=
  match c with
  | .send frame => c.word :: packBytes frame
  | .tune _ _ | .listen _ | .rest | .ident => [c.word]

/-- A word crosses the link most significant bit first (R191). -/
def wordBits (w : Word) : List Bool := (List.range 32).map fun i => w.getLsbD (31 - i)

/-- What the port shifts out on data out in the exchange in progress: the words of a link command; a frame pull has none
(R146, R191). -/
def RadioPort.shiftedOut (p : RadioPort) : List Bool :=
  match p.exchange with
  | some (.command c _ _ _) => c.words.flatMap wordBits
  | some (.pull _) | none => []

/-- The frame of a frame pull: its length in bits 7:0 of the length word, then its bytes in words (R191). -/
def pulledFrame (lengthWord : Word) (ws : List Word) : Frame :=
  (unpackBytes ws).take (lengthWord.extractLsb' 0 8).toNat

/-! ### CRC-16 (R193) -/

/-- One bit of the generator x^16 + x^12 + x^5 + 1, most significant bit first. -/
def crcBit (crc : BitVec 16) : BitVec 16 :=
  if crc.getLsbD 15 then (crc <<< 1) ^^^ 0x1021 else crc <<< 1

/-- One byte enters the register, most significant bit first. -/
def crcByte (crc : BitVec 16) (b : Byte) : BitVec 16 :=
  (List.range 8).foldl (fun c _ => crcBit c) (crc ^^^ (b.setWidth 16 <<< 8))

/-- The register starts at 0xFFFF. -/
def crcStart : BitVec 16 := 0xFFFF

def crcOver (crc : BitVec 16) (bs : List Byte) : BitVec 16 := bs.foldl crcByte crc

/-- The CRC-16 of a byte string (R193). -/
def crc16 (bs : List Byte) : BitVec 16 := crcOver crcStart bs

end Sys2Proof.Machine
end

