-- ==== Sys2Proof/Machine/Frames.lean ====
section
/-! DEFINITION. The four air frames (11.5): the beacon, segment and control frames the part builds, and the judgement of a frame
it pulls by its bytes alone (R108, R111, R112, R118, R192). -/

namespace Sys2Proof.Machine

/-- The low n bytes of a number, least significant first (R190). -/
def littleEndian (n v : Nat) : List Byte := (List.range n).map fun i => BitVec.ofNat 8 (v / 256 ^ i)

/-- A frame ends with the CRC over every byte before it, little-endian (R193). -/
def sealFrame (body : List Byte) : Frame := body ++ littleEndian 2 (crc16 body).toNat

/-! ### Frames the part sends -/

/-- A flip notice in a beacon: group, kind, B (11.5). -/
def noticeBytes (n : FlipNotice) : List Byte :=
  littleEndian 1 (n.group.val + 1) ++ littleEndian 1 (flagBit n.cancel) ++ littleEndian 4 n.beacon.toNat

/-- A wake filter in a beacon: value, then mask (11.5). -/
def filterBytes (f : Filter) : List Byte := littleEndian 4 f.value.toNat ++ littleEndian 4 f.mask.toNat

/-- The window-present flag depends on the plan as it was made: with at least one item (R108). -/
def Plan.hasWindow (p : Plan) : Bool := !p.items.isEmpty

/-- The beacon frame of a cell (R108). -/
def beaconFrame (t : Settings) (c : CellId) (b : BeaconNo) (paused : Bool) (p : Plan)
    (notices : List FlipNotice) : Frame :=
  sealFrame (littleEndian 1 1 ++ littleEndian 2 t.network.toNat ++ littleEndian 1 c.val ++
    littleEndian 4 b.toNat ++ littleEndian 1 (flagBit paused + 2 * flagBit p.hasWindow) ++
    littleEndian 1 (if p.hasWindow then t.window / 10 else 0) ++
    littleEndian 1 (cellAt t.cells c).rate.code ++ littleEndian 1 p.filters.length ++
    littleEndian 1 notices.length ++ p.filters.flatMap filterBytes ++ notices.flatMap noticeBytes)

/-- The label word of a segment or control frame: label ID, mode in bit 28, last-in-window in bit 29 (11.5). -/
def labelWord (label : LabelId) (display last : Bool) : List Byte :=
  littleEndian 4 (label.toNat + 2 ^ 28 * flagBit display + 2 ^ 29 * flagBit last)

/-- The segment frame of one needed segment, from its FILLED buffer (R111). -/
def segmentFrame (t : Settings) (i : PlanItem) (segment : Nat) (last : Bool) (data : List Byte) : Frame :=
  sealFrame (littleEndian 1 2 ++ labelWord i.label (i.mode == .display) last ++
    littleEndian 2 t.network.toNat ++ littleEndian 2 i.target.toNat ++
    littleEndian 2 (i.length.toNat % 2 ^ 11 + 2 ^ 11 * (segment % 2 ^ 5)) ++
    littleEndian 1 i.group.toNat ++ data)

/-- The control frame of a POLL or SHOW item (R112). -/
def controlFrame (t : Settings) (i : PlanItem) : Frame :=
  sealFrame (littleEndian 1 3 ++ labelWord i.label false true ++ littleEndian 2 t.network.toNat ++
    littleEndian 1 (if i.kind = .poll then 1 else 2) ++ littleEndian 2 i.target.toNat)

/-! ### Frames the part pulls -/

def byteAt (f : Frame) (i : Nat) : Nat := (f.getD i 0).toNat

/-- n bytes from byte i, least significant first. -/
def fieldAt (f : Frame) (i n : Nat) : Nat :=
  (List.range n).foldl (fun v j => v + byteAt f (i + j) * 256 ^ j) 0

/-- The CRC of a pulled frame; on a frame shorter than 3 bytes the check fails (R193). -/
def crcGood (f : Frame) : Bool :=
  decide (3 ≤ f.length) && fieldAt f (f.length - 2) 2 == (crc16 (f.take (f.length - 2))).toNat

def replyKindOf (code : Nat) : Option ReplyKind :=
  match code with
  | 1 => some .staged
  | 2 => some .shown
  | 3 => some .partly
  | 4 => some .rejected
  | 5 => some .status
  | _ => none

/-- What a frame taken in a reply slot is (R118). -/
inductive Judgement where
  | good (reply : Reply)
  | damaged
  | stray
  deriving DecidableEq, Repr

/-- The reply fields of a frame of 20 bytes (11.5, R192). -/
def replyOf (f : Frame) (kind : ReplyKind) : Reply :=
  { kind := kind
    staged := BitVec.ofNat 16 (fieldAt f 10 2)
    shown := BitVec.ofNat 16 (fieldAt f 12 2)
    battery := BitVec.ofNat 4 (byteAt f 9)
    missing := BitVec.ofNat 32 (fieldAt f 14 4) }

/-- A frame is judged by its bytes alone against the item of the slot (R118, R192). -/
def judge (network : BitVec 16) (b : BeaconNo) (label : LabelId) (f : Frame) : Judgement :=
  if !crcGood f then .damaged
  else if f.length ≠ 20 ∨ byteAt f 0 ≠ 4 then .stray
  else if fieldAt f 1 4 % 2 ^ 28 = label.toNat ∧ fieldAt f 5 2 = network.toNat ∧
      byteAt f 7 = b.toNat % 256 then
    match replyKindOf (byteAt f 8) with
    | some k => .good (replyOf f k)
    | none => .damaged
  else .stray

end Sys2Proof.Machine
end

