-- ==== Sys2Proof/Machine/Directory.lean ====
section
/-! DEFINITION. The directory entry: validity (R9), the evaluation (R15) with its substitutes for the opening pass (R34) and for
a refresh (R49), and the part-half values of each kind of write (R8). -/

namespace Sys2Proof.Machine

/-- The checks of R9 over one read and the settings taken at LOAD. Sums are formed without wrapping. In a pool whose own end is
past 2^32, which LOAD accepts, R9's formula takes a record past the top of the address space as inside, while its last sentence has
such a record fail: that the formula decides is a DESIGN CHOICE (notes/assumptions/40.md). -/
def entryValid (t : Settings) (h : HostHalf) : Bool :=
  decide (h.label ≠ 0) && decide (h.phase.toNat < 2 ^ h.k.toNat) &&
    decide (h.k.toNat ≤ (cellAt t.cells h.cell).ceiling.toNat) &&
    decide (1 ≤ h.length.toNat) && decide (h.length.toNat ≤ 1536) &&
    decide (h.reference.toNat % 4 = 0) && decide (t.poolBase.toNat ≤ h.reference.toNat) &&
    decide (h.reference.toNat + 16 + h.length.toNat ≤ t.poolBase.toNat + t.poolSize.toNat)

/-- Terminal for the night (R12). -/
def EntryState.terminal : EntryState → Bool
  | .unreachable | .gaveUp | .contentBad | .refused | .late => true
  | _ => false

/-- What an evaluation decides: a state, or an item to queue (R15). -/
inductive Verdict where
  | state (state : EntryState)
  | item (kind : ItemKind) (mode : Mode)
  deriving DecidableEq, Repr

/-- Step 3 of R15: a terminal state stands while the requested version equals the outcome version. -/
def keepTerminal (e : Entry) : Option EntryState :=
  if e.part.state.terminal && decide (e.host.requested = e.part.outcome) then some e.part.state else none

/-- Step 3 in the opening pass: UNREACHABLE stands while the halved health is above T (R34). -/
def keepOpening (threshold : Nat) (e : Entry) : Option EntryState :=
  if decide (e.part.state = .unreachable) && decide (threshold < e.part.health / 2) then some .unreachable
  else none

/-- What the evaluation uses besides the settings: the host half, the group DONE tonight, the state kept by step 3, the
state read, and the staged and shown versions. -/
structure EvalInput where
  host : HostHalf
  done : Bool
  keep : Option EntryState
  state : EntryState
  staged : Version
  shown : Version
  deriving DecidableEq, Repr

/-- The eight steps of R15, the first that applies decides. -/
def evaluate (t : Settings) (i : EvalInput) : Verdict :=
  let h := i.host
  if !entryValid t h then .state .entryBad
  else if h.hold then .state .held
  else
    match i.keep with
    | some kept => .state kept
    | none =>
      if h.requested = 0 then .state .idle
      else if h.requested = i.shown then .state .shown
      else if h.requested = i.staged ∧ h.group ≠ 0 ∧ i.state ≠ .unsure then
        if !i.done then .state .staged
        else if t.policy = .holdOld then .state .late
        else .item .display .display
      else if i.state = .unsure then .item .poll .display
      else if h.group ≠ 0 ∧ i.done ∧ t.policy = .holdOld then .state .late
      else if h.group ≠ 0 ∧ !i.done then .item .deliver .stage
      else .item .deliver .display

/-- The input of an evaluation of an entry as read (R14). -/
def plainInput (done : Bool) (e : Entry) : EvalInput :=
  { host := e.host, done := done, keep := keepTerminal e, state := e.part.state, staged := e.part.staged,
    shown := e.part.shown }

/-- The input in the opening pass (R34). -/
def openingInput (threshold : Nat) (done : Bool) (e : Entry) : EvalInput :=
  { plainInput done e with keep := keepOpening threshold e }

/-- The per-night resets: health halved rounding down, attempts 0 (R34). -/
def PartHalf.openNight (p : PartHalf) : PartHalf := { p with health := p.health / 2, attempts := 0 }

/-- A part half with a new state and outcome version, everything else kept (R8). -/
def PartHalf.record (p : PartHalf) (state : EntryState) (outcome : Version) : PartHalf :=
  { p with state := state, outcome := outcome }

/-- The changeover assumption: SHOWN, the shown version becomes the staged version, reply-seen cleared (R8, R21). -/
def PartHalf.assumeShown (p : PartHalf) (outcome : Version) : PartHalf :=
  { p with state := .shown, outcome := outcome, shown := p.staged, replySeen := false }

/-- A reportable change: a state other than QUEUED or DEFERRED, and the state or the outcome version differs from the
values read (R20). -/
def reportable (read written : PartHalf) : Bool :=
  decide (written.state ≠ .queued) && decide (written.state ≠ .deferred) &&
    (decide (written.state ≠ read.state) || decide (written.outcome ≠ read.outcome))

/-- ceil(length / 48) segments (R4). -/
def segmentCount (length : BitVec 16) : Nat :=
  (length.toNat + Config.segmentBytes - 1) / Config.segmentBytes

/-- The segments needed when every segment is needed; none for a POLL or SHOW (R47). -/
def allNeeded (kind : ItemKind) (segments : Nat) : List Nat :=
  if kind = .deliver then List.range segments else []

/-- The low-battery flag against the battery floor in force (R8, R56). -/
def lowBatteryOf (t : Settings) (level : BitVec 4) : Bool := decide (level.toNat ≤ t.floor.toNat)

end Sys2Proof.Machine
end

