-- ==== Sys2Proof/Machine/DueRecords.lean ====
section
/-! DEFINITION. One due record: how it is made (R16, R47), refreshed (R49 to R51), and what an item result does to it (R52 to R61,
R140, R141). -/

namespace Sys2Proof.Machine

/-! ### Admission -/

/-- The record an evaluation hands over (R16), as admitted (R47). -/
def newRecord (t : Settings) (index : Nat) (e : Entry) (kind : ItemKind) (mode : Mode) (eligible : BeaconNo) :
    DueRecord :=
  { index := index, label := e.host.label, cell := e.host.cell, k := e.host.k, phase := e.host.phase,
    kind := kind, mode := mode, target := e.host.requested, reference := e.host.reference,
    length := e.host.length, segments := segmentCount e.host.length,
    needed := allNeeded kind (segmentCount e.host.length), check := none, group := e.host.group,
    urgent := e.host.urgent, attempts := min e.part.attempts t.cap, health := e.part.health,
    eligible := eligible, state := .waiting, refreshPending := false, reEvaluate := false,
    lateAtFlip := false, outcome := none, reply := none, kept := e.part }

/-- A record joins the tail of its class, urgent records first (R44). -/
def joinClass (l : List DueRecord) (r : DueRecord) : List DueRecord :=
  if r.urgent then l.filter (·.urgent) ++ [r] ++ l.filter (!·.urgent) else l ++ [r]

/-! ### Retirement -/

/-- A record takes an outcome and is RETIRING; its late-at-flip flag is cleared (R61, R63). -/
def DueRecord.retire (r : DueRecord) (outcome : EntryState) : DueRecord :=
  { r with outcome := some outcome, state := .retiring, lateAtFlip := false }

/-- The part half a write-back writes: the outcome and target of the record, its health and attempts, and the last reply's
fields where it holds one (R8, R168). -/
def DueRecord.writeBack (t : Settings) (r : DueRecord) (outcome : EntryState) : PartHalf :=
  let base := { r.kept with state := outcome, outcome := r.target, health := r.health, attempts := r.attempts }
  match r.reply with
  | none => base
  | some y =>
    { base with battery := y.battery, lowBattery := lowBatteryOf t y.battery, replySeen := true,
                staged := y.staged, shown := y.shown, lastContact := y.beacon }

/-! ### Item results -/

/-- Every result but LOST_AT_PORT and NOT_SENT is charged (R52). -/
def ItemResult.charged : ItemResult → Bool
  | .good _ | .damaged | .noReply => true
  | .lostAtPort | .notSent => false

/-- The health weight of a result, within 0 to 63 (R53). -/
def healthAfter (health : Nat) : ItemResult → Nat
  | .good _ => health - 1
  | .damaged => min 63 (health + 1)
  | .noReply => min 63 (health + 2)
  | .lostAtPort | .notSent => health

/-- A reply's missing set as segment numbers, those at or above the segment count dropped (R57). -/
def missingSegments (segments : Nat) (missing : Word) : List Nat :=
  (List.range segments).filter fun i => missing.getLsbD i

/-- Every segment of a record's content. -/
def DueRecord.allSegments (r : DueRecord) : List Nat := List.range r.segments

/-- A record becomes a SHOW item: no segments needed (R45, R57, R61). -/
def DueRecord.toDisplay (r : DueRecord) : DueRecord := { r with kind := .display, mode := .display, needed := [] }

/-- A record becomes a DELIVER item: every segment needed, no check value (R58, R59). -/
def DueRecord.toDeliver (r : DueRecord) (mode : Mode) : DueRecord :=
  { r with kind := .deliver, mode := mode, needed := r.allSegments, check := none }

/-- What step 2 of R52 gives: the record, and whether the result adds one attempt (R54). -/
structure Effect where
  record : DueRecord
  attempt : Bool
  deriving DecidableEq, Repr

def DueRecord.ends (r : DueRecord) (outcome : EntryState) : Effect :=
  { record := { r with outcome := some outcome }, attempt := false }

/-- A good reply to a DELIVER item (R57). -/
def deliverEffect (r : DueRecord) (y : Reply) : Effect :=
  if y.kind = .rejected then r.ends .refused
  else if y.shown = r.target then r.ends .shown
  else if (y.kind = .staged ∨ y.kind = .status) ∧ y.staged = r.target then
    if r.mode = .stage then r.ends .staged else { record := r.toDisplay, attempt := true }
  else if y.kind = .partly then
    let missing := missingSegments r.segments y.missing
    { record := { r with needed := if missing.isEmpty then r.allSegments else missing }, attempt := true }
  else { record := { r with needed := r.allSegments }, attempt := true }

/-- A good reply to a SHOW item (R58). -/
def displayEffect (r : DueRecord) (y : Reply) : Effect :=
  if y.kind = .rejected then r.ends .refused
  else if y.shown = r.target then r.ends .shown
  else if y.staged = r.target then { record := r, attempt := true }
  else { record := r.toDeliver .display, attempt := true }

/-- A good reply to a POLL item (R59): after the group's flip by R140, otherwise by R141. -/
def pollEffect (policy : LatePolicy) (done : Bool) (r : DueRecord) (y : Reply) : Effect :=
  if y.kind = .rejected then r.ends .refused
  else if y.shown = r.target then r.ends .shown
  else if done then
    if policy = .holdOld then r.ends .late
    else if y.staged = r.target then { record := r.toDisplay, attempt := false }
    else { record := r.toDeliver .display, attempt := false }
  else if r.group = 0 then { record := r.toDeliver .display, attempt := false }
  else if y.staged = r.target then r.ends .staged
  else { record := r.toDeliver .stage, attempt := false }

/-- Step 2 of R52. -/
def resultEffect (t : Settings) (done : Bool) (r : DueRecord) : ItemResult → Effect
  | .good y =>
    match r.kind with
    | .deliver => deliverEffect r y
    | .display => displayEffect r y
    | .poll => pollEffect t.policy done r y
  | .damaged | .noReply => { record := r, attempt := true }
  | .lostAtPort | .notSent => { record := r, attempt := false }

/-- Step 1 of R52: a good reply sets the last reply (R56). -/
def DueRecord.hear (t : Settings) (b : BeaconNo) (r : DueRecord) : ItemResult → DueRecord
  | .good y =>
    { r with reply := some { battery := y.battery, lowBattery := lowBatteryOf t y.battery, staged := y.staged,
                             shown := y.shown, beacon := b } }
  | _ => r

/-- Step 3 of R52: the charges to health (R53) and attempts (R54). -/
def Effect.charge (t : Settings) (e : Effect) (res : ItemResult) : DueRecord :=
  { e.record with
    health := healthAfter e.record.health res,
    attempts := if e.attempt then min t.cap (e.record.attempts + 1) else e.record.attempts }

/-- Step 4 of R52: the threshold checks on a charged record that keeps working. -/
def DueRecord.threshold (t : Settings) (res : ItemResult) (r : DueRecord) : DueRecord :=
  if res.charged && r.outcome.isNone then
    if t.threshold < r.health then { r with outcome := some .unreachable }
    else if t.cap ≤ r.attempts then { r with outcome := some .gaveUp }
    else r
  else r

/-- Step 5 of R52: the late policy on a record with the late-at-flip flag, which is then cleared (R61). So is a label treated that has
staged its page in the window of its group's flip beacon or later (R131). -/
def DueRecord.applyLate (policy : LatePolicy) (r : DueRecord) : DueRecord :=
  if r.lateAtFlip then
    let q := { r with lateAtFlip := false }
    match r.outcome with
    | some .staged =>
      if policy = .holdOld then { q with outcome := some .late } else { q.toDisplay with outcome := none }
    | some _ => q
    | none =>
      if r.kind = .deliver ∧ r.mode = .stage then
        if policy = .holdOld then { q with outcome := some .late } else { q with mode := .display }
      else q
  else r

/-- R55: b + 2^k × min(attempts, 4) after a silence or a damaged reply, else b + 2^k, modulo 2^32. -/
def eligibleAfter (b : BeaconNo) (k : BitVec 3) (attempts : Nat) : ItemResult → BeaconNo
  | .noReply | .damaged => b + BitVec.ofNat 32 (2 ^ k.toNat * min attempts 4)
  | _ => b + BitVec.ofNat 32 (2 ^ k.toNat)

/-- Steps 1 to 5 of R52, and the next eligible beacon a record that keeps working takes in step 6. -/
def DueRecord.afterResult (t : Settings) (done : Bool) (b : BeaconNo) (res : ItemResult) (r : DueRecord) :
    DueRecord :=
  let charged := (resultEffect t done (r.hear t b res) res).charge t res
  let judged := (charged.threshold t res).applyLate t.policy
  if judged.outcome.isNone then { judged with eligible := eligibleAfter b judged.k judged.attempts res }
  else judged

/-! ### Refresh of a WAITING record (R49 to R51) -/

/-- The input of a refresh evaluation, with the substitutions of R49. -/
def refreshInput (done : Bool) (r : DueRecord) (e : Entry) : EvalInput :=
  { host := e.host
    done := done
    keep := keepTerminal e
    state := if e.part.state.terminal then e.part.state else if r.kind = .poll then .unsure else .queued
    staged := match r.reply with
      | some y => y.staged
      | none => e.part.staged
    shown := match r.reply with
      | some y => y.shown
      | none => e.part.shown }

/-- A record refreshed in place takes the host half of the read (R51). -/
def DueRecord.refreshed (r : DueRecord) (h : HostHalf) : DueRecord :=
  let newTarget := decide (h.requested ≠ r.target)
  let newContent := decide (h.length ≠ r.length) || decide (h.reference ≠ r.reference)
  let newLabel := decide (h.label ≠ r.label)
  let segments := if newContent then segmentCount h.length else r.segments
  { r with
    label := h.label, k := h.k, phase := h.phase, group := h.group, reference := h.reference,
    length := h.length, target := h.requested, segments := segments,
    needed := if newTarget || newContent || newLabel then allNeeded r.kind segments else r.needed,
    check := if newTarget || newContent then none else r.check, urgent := h.urgent }

/-- What a refresh does with its record (R50). -/
inductive RefreshFate where
  | retires (state : EntryState)
  | requeues
  | stays
  deriving DecidableEq, Repr

def refreshFate (t : Settings) (done : Bool) (r : DueRecord) (e : Entry) : RefreshFate :=
  match evaluate t (refreshInput done r e) with
  | .state st => .retires st
  | .item kind mode =>
    if e.host.cell = r.cell ∧ kind = r.kind ∧ mode = r.mode then .stays else .requeues

end Sys2Proof.Machine
end

