-- ==== Sys2Proof/Machine/Passes.lean ====
section
/-! DEFINITION. Retirement onto the write-back list (R63), the passes over the directory and their requests (R29 to R33, R36,
R37), and the re-read list (R27). -/

namespace Sys2Proof.Machine

/-! ### Retirement -/

/-- Records join the tail of the write-back list (R63); those that join while STOPPING are the ones STOP reports
(R65). -/
def State.enqueueWriteBack (s : State) (indices : List Nat) : State :=
  let t := s.setWb { s.wb with list := s.wb.list ++ indices }
  if s.stopping then t.setDrained (s.drained + indices.length) else t

/-- The records of one list that satisfy a test retire with an outcome, in list order. -/
def State.retireIn (p : DueRecord → Bool) (outcome : EntryState) (s : State) (c : CellId) : State :=
  let going := ((s.dueAt c).filter p).map (·.index)
  (s.modDue c fun l => l.map fun r => if p r then r.retire outcome else r).enqueueWriteBack going

/-- The same in all four lists, cell 0 first (R36, R65, R135). -/
def State.retireWhere (s : State) (p : DueRecord → Bool) (outcome : EntryState) : State :=
  forCells (State.retireIn p outcome) s

def DueRecord.isWaiting (r : DueRecord) : Bool := decide (r.state = .waiting)

/-- One change to the record of an entry in a cell's list (R48). -/
def State.modRecord (s : State) (c : CellId) (index : Nat) (f : DueRecord → DueRecord) : State :=
  s.modDue c fun l => l.map fun r => if r.index = index then f r else r

def State.recordIn (s : State) (c : CellId) (index : Nat) : Option DueRecord :=
  (s.dueAt c).find? fun r => r.index == index

/-- The record holding an entry index, looked up in all four lists (R18, R43). -/
def State.findRecord (s : State) (index : Nat) : Option (CellId × DueRecord) :=
  allCells.findSome? fun c => (s.recordIn c index).map fun r => (c, r)

/-- One record retires (R63). -/
def State.retireRecord (s : State) (c : CellId) (index : Nat) (outcome : EntryState)
    (f : DueRecord → DueRecord) : State :=
  (s.modRecord c index fun r => (f r).retire outcome).enqueueWriteBack [index]

/-! ### Passes -/

/-- A pass of a kind is live while it is in either slot (R29). -/
def Sweep.live (w : Sweep) (k : PassKind) : Bool :=
  (match w.running with | some p => decide (p.kind = k) | none => false) ||
  (match w.suspended with | some p => decide (p.kind = k) | none => false)

def Sweep.anyLive (w : Sweep) : Bool := w.running.isSome || w.suspended.isSome

/-- A pass begins at cursor 0 with the entry count taken at LOAD (R29). -/
def State.newPass (s : State) (k : PassKind) : Pass :=
  { kind := k, cursor := 0, remaining := s.settings.entryCount }

/-- The entry in hand is a visit of the pass of this kind. -/
def Sweep.visiting (w : Sweep) (k : PassKind) : Bool :=
  match w.hand with
  | some h => decide (h.source = .pass k)
  | none => false

/-- The remaining count set to the entry count for a full circle from the present cursor (R30, R31). A visit in hand is
finished first (R30), so it is not one of the circle (DEDUCED, notes/assumptions/10.md). -/
def State.fullCircle (s : State) (k : PassKind) (p : Pass) : Pass :=
  if p.kind = k then
    { p with remaining := s.settings.entryCount + flagBit (s.sweep.visiting k) }
  else p

def State.clearDeferred (s : State) : State := s.setDeferred (Vector.replicate 4 false)

/-- What beginning a rescan, or extending it, includes: the deferred flags are cleared (R37) and every WAITING record
retires with QUEUED (R36). -/
def State.rescanRetirement (s : State) : State := (s.clearDeferred).retireWhere DueRecord.isWaiting .queued

/-- A rescan request, by what is live when it comes (R31). Passes are requested only in RUNNING and PAUSED (R29). -/
def State.rescanRequest (s : State) : State :=
  if !s.nightOn then s
  else if s.sweep.live .opening then s.setSweep { s.sweep with rescanPending := true }
  else if s.sweep.live .rescan then
    (s.setSweep { s.sweep with running := s.sweep.running.map (s.fullCircle .rescan),
                               suspended := s.sweep.suspended.map (s.fullCircle .rescan) }).rescanRetirement
  else
    match s.sweep.running with
    | none => (s.setSweep { s.sweep with running := some (s.newPass .rescan) }).rescanRetirement
    | some p =>
      if p.kind = .refill then
        (s.setSweep { s.sweep with running := some (s.newPass .rescan) }).rescanRetirement
      else (s.setSweep { s.sweep with suspended := some (s.newPass .rescan) }).rescanRetirement

/-- A refill begins: all four deferred flags are cleared (R37). -/
def State.beginRefill (s : State) : State :=
  (s.setSweep { s.sweep with running := some (s.newPass .refill) }).clearDeferred

/-- A refill request begins a refill when no pass is live; a live refill absorbs it, and any other live pass sets it
aside without trace (R32). -/
def State.refillRequest (s : State) : State :=
  if s.nightOn && !s.sweep.anyLive then s.beginRefill else s

/-- A changeover request for a flipped group (R30). -/
def State.changeoverRequest (s : State) (g : GroupId) : State :=
  if !s.nightOn then s
  else if s.sweep.live .changeover then
    s.setSweep { s.sweep with
      groupSet := if g ∈ s.sweep.groupSet then s.sweep.groupSet else s.sweep.groupSet ++ [g],
      running := s.sweep.running.map (s.fullCircle .changeover),
      suspended := s.sweep.suspended.map (s.fullCircle .changeover) }
  else
    s.setSweep { s.sweep with running := some (s.newPass .changeover), suspended := s.sweep.running,
                              groupSet := [g] }

/-- A cell whose deferred flag is set has room for a refill (R33). -/
def State.wantsRefill (s : State) (c : CellId) : Bool :=
  cellAt s.deferred c && decide ((s.dueAt c).length ≤ Config.refillMark)

/-- The refill check of R33. -/
def State.refillCheck (s : State) : State := if allCells.any s.wantsRefill then s.refillRequest else s

/-- The slot of the pass of a kind is emptied. -/
def Sweep.dropPass (w : Sweep) (k : PassKind) : Sweep :=
  { w with running := w.running.filter fun p => decide (p.kind ≠ k),
           suspended := w.suspended.filter fun p => decide (p.kind ≠ k) }

/-- What follows a pass whose remaining count has reached 0 (R33). -/
def State.passComplete (s : State) (k : PassKind) : State :=
  match k with
  | .changeover =>
    (s.setSweep { s.sweep with running := s.sweep.suspended, suspended := none, groupSet := [] }).refillCheck
  | .opening =>
    let t := (s.setSweep (s.sweep.dropPass .opening)).raise .sweepDone
    if t.sweep.rescanPending then (t.setSweep { t.sweep with rescanPending := false }).rescanRequest
    else t.refillCheck
  | .rescan => ((s.setSweep (s.sweep.dropPass .rescan)).raise .sweepDone).refillCheck
  | .refill => (s.setSweep (s.sweep.dropPass .refill)).refillCheck

/-- The pass of a kind has no entry left to visit. -/
def Sweep.exhausted (w : Sweep) (k : PassKind) : Bool :=
  let spent := fun (p : Pass) => decide (p.kind = k) && decide (p.remaining = 0)
  w.running.any spent || w.suspended.any spent

/-- The cursor moves to the next index, or to 0 after the last entry, and the remaining count goes down by one (R29). -/
def Pass.advance (entryCount : Nat) (p : Pass) : Pass :=
  { p with cursor := if p.cursor + 1 < entryCount then p.cursor + 1 else 0, remaining := p.remaining - 1 }

def Pass.advanceIf (entryCount : Nat) (k : PassKind) (p : Pass) : Pass :=
  if p.kind = k then p.advance entryCount else p

/-- A visit of the pass of this kind is over, in whichever slot the pass now stands; a pass with nothing left is complete
(R29, R33). -/
def State.advancePass (s : State) (k : PassKind) : State :=
  let t := s.setSweep { s.sweep with
    running := s.sweep.running.map (Pass.advanceIf s.settings.entryCount k),
    suspended := s.sweep.suspended.map (Pass.advanceIf s.settings.entryCount k) }
  if t.sweep.exhausted k then t.passComplete k else t

/-- The head notice's entry is dealt with: its progress moves on, or the notice leaves the queue (R26). -/
def advanceNotice : List Notice → List Notice
  | [] => []
  | n :: rest =>
    if n.progress + 1 < n.first + n.span then { n with progress := n.progress + 1 } :: rest else rest

/-- The entry in hand is finished: its source moves on and the entry reader is free (R27). -/
def State.finishHand (s : State) : State :=
  match s.sweep.hand with
  | none => s
  | some h =>
    match h.source with
    | .reread | .detached => s.setSweep { s.sweep with hand := none }
    | .notice => (s.setSweep { s.sweep with hand := none }).setNotices (advanceNotice s.notices)
    | .pass k => (s.setSweep { s.sweep with hand := none }).advancePass k

/-! ### The re-read list -/

/-- An index joins the re-read list, which holds it once; one handed in while the list is full asks for a rescan, whatever the list
holds (R27). -/
def State.joinReread (s : State) (index : Nat) : State :=
  if Config.rereadCapacity ≤ s.sweep.reread.length then s.rescanRequest
  else if index ∈ s.sweep.reread then s
  else s.setSweep { s.sweep with reread := s.sweep.reread ++ [index] }

/-- The entries at or beyond the cursor of a live opening pass have not had their per-night resets (R35). -/
def Sweep.aheadOfOpening (w : Sweep) (index : Nat) : Bool :=
  let ahead := fun (p : Pass) => decide (p.kind = .opening) && decide (p.cursor ≤ index)
  w.running.any ahead || w.suspended.any ahead

end Sys2Proof.Machine
end

