-- ==== Sys2Proof/Machine/NightRecord.lean ====
section
/-! DEFINITION. Night record writes: snapshots falling due, the bursts of a write, and its end (R172, R173). -/

namespace Sys2Proof.Machine

/-- A write of a snapshot begins: the write count goes up by one, wrapping, both copies take it (DEDUCED,
notes/assumptions/11.md), and the first burst of 8 words is offered (R172). -/
def State.beginNightWrite (s : State) (snap : Snapshot) : State :=
  let count := s.night.writeCount + 1
  let words := nightRecordWords count snap.words
  (s.setNight { s.night with
      writeCount := count,
      current := some { snapshot := { snap with words := words }, offered := Config.burstWords,
                        complete := false, cut := false } }).offer
    .night (.write snap.base.toNat (words.take Config.burstWords))

/-- A write falls due: a snapshot of every field is taken; it begins at once when no write is in progress, and otherwise
waits in place of any snapshot waiting (R172). -/
def State.nightDue (s : State) (awaited : Bool) : State :=
  let snap : Snapshot := { base := s.settings.nightBase, words := nightFieldWords s, awaited := awaited }
  match s.night.current with
  | none => s.beginNightWrite snap
  | some _ => s.setNight { s.night with waiting := some snap }

/-- The write in progress is over; a waiting snapshot begins at once (R172). -/
def State.endNightWrite (s : State) : State :=
  let t := s.setNight { s.night with current := none, waiting := none }
  match s.night.waiting with
  | none => t
  | some snap => t.beginNightWrite snap

/-- A burst of the write has completed: the write ends if it was cut, otherwise the next burst is offered, or its last word
has been written (R172, R173; when the next burst is offered is a DESIGN CHOICE, notes/assumptions/9.md). -/
def State.nightBurstDone (s : State) : State :=
  match s.night.current with
  | none => s
  | some w =>
    if w.cut then s.endNightWrite
    else if w.offered < w.snapshot.words.length then
      (s.setNight { s.night with current := some { w with offered := w.offered + Config.burstWords } }).offer
        .night (.write (w.snapshot.base.toNat + 4 * w.offered)
          ((w.snapshot.words.drop w.offered).take Config.burstWords))
    else s.setNight { s.night with current := some { w with complete := true } }

/-- ABORT's own write replaces a write in progress, which ends with its current burst, and any waiting snapshot (R173). -/
def State.nightAbort (s : State) : State :=
  let snap : Snapshot := { base := s.settings.nightBase, words := nightFieldWords s, awaited := true }
  match s.night.current with
  | none => s.beginNightWrite snap
  | some w =>
    if s.bus.serves .night then
      s.setNight { s.night with
        current := some { w with cut := true, snapshot := { w.snapshot with awaited := false } },
        waiting := some snap }
    else if w.complete then
      s.setNight { s.night with
        current := some { w with snapshot := { w.snapshot with awaited := false } }, waiting := some snap }
    else
      ((s.setBus (s.bus.setWaiting .night none)).setNight
        { s.night with current := none, waiting := none }).beginNightWrite snap

/-! ### The end of a STOP drain (R65, R184) -/

/-- The drain is over: the due lists and the write-back list are empty, every standing window has ended, and the entry in hand is
finished (R65, R123, R184; that the last two are waited for is DEDUCED, notes/assumptions/23.md). -/
def State.drainOver (s : State) : Bool :=
  allCells.all (fun c => (s.dueAt c).isEmpty && (s.seqAt c).standing.isNone) && s.wb.list.isEmpty &&
    s.sweep.hand.isNone

/-- A STOP in progress whose drain is over (R184). -/
def State.drainDue (s : State) : Bool :=
  decide (s.cmd.inProgress = some (.stop false)) && s.stopping && s.drainOver

/-- When the drain has ended, the night record write of STOP falls due, once (R172, R184). -/
def State.checkDrain (s : State) : State :=
  if s.drainDue then (s.setCmd { s.cmd with inProgress := some (.stop true) }).nightDue true else s

end Sys2Proof.Machine
end

