-- ==== Sys2Proof/Machine/DueLists.lean ====
section
/-! DEFINITION. What the due list manager does with the changes other blocks submit (R48): admission (R47), refresh (R50),
item results (R52), the content checks (R62), removal after a write-back (R64) and the flip (R135). -/

namespace Sys2Proof.Machine

/-! ### Admission (R47) -/

/-- A record may be admitted: the night runs and the list holds fewer than 1,024 records. A record handed over while
STOPPING is deferred whatever the list holds (R47). -/
def State.canAdmit (s : State) (c : CellId) : Bool :=
  s.nightOn && decide ((s.dueAt c).length < Config.dueCapacity)

/-- The number of the next beacon the timer will send (R47). -/
def State.nextBeaconNo (s : State) : BeaconNo := s.timer.now + 1

/-- A record is admitted at the tail of its class in the list of the entry's cell (R44, R47). -/
def State.admitRecord (s : State) (index : Nat) (e : Entry) (kind : ItemKind) (mode : Mode) : State :=
  s.modDue e.host.cell fun l => joinClass l (newRecord s.settings index e kind mode s.nextBeaconNo)

/-- The cell's deferred flag is set (R16, R37). -/
def State.deferCell (s : State) (c : CellId) : State := s.setDeferred (cellPut s.deferred c true)

/-! ### Refresh (R50) -/

/-- A refresh in place; a changed urgent flag moves the record to the tail of its new class (R44, R51). -/
def refreshInList (l : List DueRecord) (index : Nat) (h : HostHalf) : List DueRecord :=
  match l.find? fun r => r.index == index with
  | none => l
  | some r =>
    if h.urgent = r.urgent then l.map fun q => if q.index = index then q.refreshed h else q
    else joinClass (l.filter fun q => q.index != index) (r.refreshed h)

/-- A read routed to a WAITING record (R49, R50). -/
def State.refreshRecord (s : State) (c : CellId) (r : DueRecord) (e : Entry) : State :=
  match refreshFate s.settings (s.groupDone e.host.group) r e with
  | .retires st => s.retireRecord c r.index st fun q => { q with target := e.host.requested }
  | .requeues => s.retireRecord c r.index .queued fun q =>
      { q with target := e.host.requested, reEvaluate := true }
  | .stays => s.modDue c fun l => refreshInList l r.index e.host

/-- A read of an entry that a record holds is routed by the record's state (R18). -/
def State.routeRead (s : State) (c : CellId) (r : DueRecord) (e : Entry) : State :=
  match r.state with
  | .waiting => s.refreshRecord c r e
  | .planned | .inAir => s.modRecord c r.index fun q => { q with refreshPending := true }
  | .retiring => s.modRecord c r.index fun q => { q with reEvaluate := true }

/-! ### Item results (R52) -/

/-- Steps 6 and 7 of R52 on a record judged by steps 1 to 5. Under STOPPING a working record goes straight to DEFERRED and
a pending refresh is dropped (R65). -/
def State.settleResult (s : State) (c : CellId) (r : DueRecord) : State :=
  let done := { r with refreshPending := false }
  if s.stopping then
    s.retireRecord c r.index (r.outcome.getD .deferred) fun _ => done
  else
    match r.outcome with
    | some o => s.retireRecord c r.index o fun _ => { done with reEvaluate := r.reEvaluate || r.refreshPending }
    | none =>
      let t := s.modRecord c r.index fun _ => { done with state := .waiting }
      if r.refreshPending then t.joinReread r.index else t

/-- An item result for beacon b, applied to a PLANNED or IN_AIR record (R46, R52). -/
def State.itemResult (s : State) (c : CellId) (index : Nat) (b : BeaconNo) (res : ItemResult) : State :=
  match s.recordIn c index with
  | none => s
  | some r =>
    if r.state = .planned ∨ r.state = .inAir then
      s.settleResult c (r.afterResult s.settings (s.groupDone r.group) b res)
    else s

/-! ### The fetch engine's changes (R62) -/

/-- A full fetch's check value is stored (R62). -/
def State.storeCheck (s : State) (c : CellId) (index : Nat) (value : BitVec 16) : State :=
  s.modRecord c index fun r => { r with check := some value }

/-- CONTENT_BAD: uncharged, not an item result; a set refresh-pending flag becomes the re-evaluate flag (R62). -/
def State.contentBad (s : State) (c : CellId) (index : Nat) : State :=
  match s.recordIn c index with
  | none => s
  | some _ =>
    s.retireRecord c index .contentBad fun r =>
      { r with refreshPending := false, reEvaluate := r.reEvaluate || r.refreshPending }

/-- A content restart makes every segment needed and the content check value absent (R62, R96). -/
def State.contentRestart (s : State) (c : CellId) (index : Nat) : State :=
  s.modRecord c index fun r => { r with needed := r.allSegments, check := none }

/-! ### The flip (R135) -/

def DueRecord.stagesFor (g : BitVec 4) (r : DueRecord) : Bool :=
  r.isWaiting && decide (r.group = g) && decide (r.kind = .deliver) && decide (r.mode = .stage)

/-- A PLANNED or IN_AIR record of the group gets the late-at-flip flag; under SHOW_ON_ARRIVAL a WAITING record that
stages changes its mode to SHOW (R135). The flag is how the part treats a label that stages its page in the window of beacon B itself, or
later, as late (R61, R131): a record still PLANNED or IN_AIR at the flip stages at B at the earliest. -/
def DueRecord.meetsFlip (policy : LatePolicy) (g : BitVec 4) (r : DueRecord) : DueRecord :=
  if r.group ≠ g then r
  else
    match r.state with
    | .planned | .inAir => { r with lateAtFlip := true }
    | .waiting => if policy = .showOnArrival ∧ r.stagesFor g then { r with mode := .display } else r
    | .retiring => r

/-- The flip unit's changes to the records of a flipped group (R135). Under HOLD_OLD the WAITING records that stage retire
as LATE. -/
def State.flipRecords (s : State) (g : BitVec 4) : State :=
  let t := forCells (fun u c => u.modDue c (List.map (DueRecord.meetsFlip u.settings.policy g))) s
  if s.settings.policy = .holdOld then t.retireWhere (DueRecord.stagesFor g) .late else t

/-! ### STOP drain (R65) -/

/-- Every WAITING record retires at once with DEFERRED (R65). -/
def State.drainWaiting (s : State) : State := s.retireWhere DueRecord.isWaiting .deferred

/-! ### Discarding (R66) -/

def State.discardRecords (s : State) : State :=
  (s.setDue (Vector.replicate 4 [])).setWb { list := [], phase := .idle }

end Sys2Proof.Machine
end

