-- ==== Sys2Proof/Machine/Planning.lean ====
section
/-! DEFINITION. The plan of one cell: slot times and costs (R75), eligibility (R73), selection (R77), the wake filters (R79 to
R81), the removals for the spread (R82), and the finished plan with its buffer claims (R84, R97). -/

namespace Sys2Proof.Machine

/-! ### Costs (R75) -/

/-- Segment slot in µs: 62 bytes at the rate plus 480 µs. -/
def Rate.segmentSlot : Rate → Nat
  | .k50 => 10400
  | .k100 => 5440
  | .k200 => 2960

/-- Reply slot in µs: 20 bytes at the rate plus 480 µs. -/
def Rate.replySlot : Rate → Nat
  | .k50 => 3680
  | .k100 => 2080
  | .k200 => 1280

/-- The segment slots of an item: one per needed segment of a DELIVER, one control frame otherwise. -/
def DueRecord.slots (r : DueRecord) : Nat := if r.kind = .deliver then r.needed.length else 1

def DueRecord.cost (rate : Rate) (r : DueRecord) : Nat := r.slots * rate.segmentSlot + rate.replySlot

/-- Only a DELIVER item claims buffers, one per needed segment. -/
def DueRecord.claim (r : DueRecord) : Nat := if r.kind = .deliver then r.needed.length else 0

/-! ### Eligibility (R73) -/

/-- The conditions that belong to the record; the cell and the controller are tested for the whole plan (R71). -/
def DueRecord.eligibleAt (b : BeaconNo) (r : DueRecord) : Bool :=
  r.isWaiting && decide (b.toNat % 2 ^ r.k.toNat = r.phase.toNat) && atOrAfter b r.eligible

/-! ### Selection (R77) -/

/-- What a selection works with: the budget in µs, the buffer limit and the rate. -/
structure Limits where
  budget : Nat
  buffers : Nat
  rate : Rate
  deriving DecidableEq, Repr

/-- The running values of the walk; `picked` is in plan order. -/
structure Walk where
  picked : List DueRecord
  airtime : Nat
  buffers : Nat
  deriving DecidableEq, Repr

/-- The four tests of R77 on one eligible record. They look only at the items admitted to this plan, so the second of two records with
one label ID can be planned while the first is IN_AIR or RETIRING, although R78's last sentence puts it at a wake after the first has
returned to WAITING or left the list (DESIGN CHOICE, notes/assumptions/44.md). -/
def Walk.fits (m : Limits) (w : Walk) (r : DueRecord) : Bool :=
  decide (w.picked.length < Config.planItems) && decide (w.airtime + r.cost m.rate ≤ m.budget) &&
    decide (w.buffers + r.claim ≤ m.buffers) && w.picked.all fun q => q.label != r.label

/-- One record of the walk: taken when it is eligible and fits, skipped otherwise. -/
def Walk.visit (m : Limits) (b : BeaconNo) (w : Walk) (r : DueRecord) : Walk :=
  if r.eligibleAt b && w.fits m r then
    { picked := w.picked ++ [r], airtime := w.airtime + r.cost m.rate, buffers := w.buffers + r.claim }
  else w

/-- The records admitted by the walk over the due list in its order (R77). -/
def selection (m : Limits) (b : BeaconNo) (l : List DueRecord) : List DueRecord :=
  (l.foldl (Walk.visit m b) { picked := [], airtime := 0, buffers := 0 }).picked

/-! ### The cover (R79 to R81) -/

/-- A run of consecutive IDs: lowest, highest, and width f (R79). -/
structure IdGroup where
  low : Nat
  high : Nat
  width : Nat
  deriving DecidableEq, Repr

/-- The position of the highest set bit plus one (R79); IDs have 28 bits. -/
def bitLength (v : Nat) : Nat := (List.range 28).foldl (fun n i => if v.testBit i then i + 1 else n) 0

/-- The group a pair of adjacent groups would make (R79). -/
def IdGroup.join (a b : IdGroup) : IdGroup :=
  { low := a.low, high := b.high, width := bitLength (a.low ^^^ b.high) }

/-- The smallest f over the adjacent pairs. -/
def smallestWidth : List IdGroup → Option Nat
  | a :: b :: rest =>
    match smallestWidth (b :: rest) with
    | none => some (a.join b).width
    | some w => some (min (a.join b).width w)
  | _ => none

/-- The lowest pair with a given f is merged. -/
def mergePair (w : Nat) : List IdGroup → List IdGroup
  | a :: b :: rest => if (a.join b).width = w then a.join b :: rest else a :: mergePair w (b :: rest)
  | l => l

/-- Pair merges while there are more than four groups (R79); n merges are more than enough for n groups. -/
def pairMerges : Nat → List IdGroup → List IdGroup
  | 0, l => l
  | n + 1, l =>
    if l.length ≤ Config.maxFilters then l
    else
      match smallestWidth l with
      | none => l
      | some w => pairMerges n (mergePair w l)

/-- The first ID of a group's block: its lowest ID with the low f bits cleared. -/
def IdGroup.base (g : IdGroup) : Nat := g.low / 2 ^ g.width * 2 ^ g.width

/-- The block of one group contains the block of another. -/
def IdGroup.contains (a b : IdGroup) : Bool :=
  decide (a.base ≤ b.base) && decide (b.base + 2 ^ b.width ≤ a.base + 2 ^ a.width)

/-- The merged group takes the larger block with its f, the lower of the lowest IDs and the higher of the highest
(R80). -/
def IdGroup.absorb (a b : IdGroup) : IdGroup :=
  { low := min a.low b.low, high := max a.high b.high, width := max a.width b.width }

/-- The first group of a list that contains, or lies inside, a given one is merged with it. -/
def absorbInto (a : IdGroup) : List IdGroup → Option (List IdGroup)
  | [] => none
  | b :: rest =>
    if a.contains b || b.contains a then some (a.absorb b :: rest)
    else (absorbInto a rest).map (b :: ·)

/-- One merge of R80, if any pair of blocks is nested. -/
def absorbOnce : List IdGroup → Option (List IdGroup)
  | [] => none
  | a :: rest =>
    match absorbInto a rest with
    | some l => some l
    | none => (absorbOnce rest).map (a :: ·)

def absorbMerges : Nat → List IdGroup → List IdGroup
  | 0, l => l
  | n + 1, l =>
    match absorbOnce l with
    | none => l
    | some m => absorbMerges n m

def insertId (a : Nat) : List Nat → List Nat
  | [] => [a]
  | b :: rest => if a ≤ b then a :: b :: rest else b :: insertId a rest

/-- Label IDs in ascending order. -/
def sortIds (l : List Nat) : List Nat := l.foldr insertId []

/-- The groups that cover the given IDs (R79, R80). -/
def coverGroups (ids : List Nat) : List IdGroup :=
  let singles := (sortIds ids).map fun a => { low := a, high := a, width := 0 }
  absorbMerges ids.length (pairMerges ids.length singles)

/-- The filter of a group: value and 28-bit mask (R81). -/
def IdGroup.filter (g : IdGroup) : Filter :=
  { value := BitVec.ofNat 28 g.base, mask := BitVec.allOnes 28 <<< g.width }

/-- The spans of the blocks, less the number of items (R81). -/
def spreadOf (groups : List IdGroup) (n : Nat) : Nat := (groups.map fun g => 2 ^ g.width).sum - n

def labelIds (l : List DueRecord) : List Nat := l.map fun r => r.label.toNat

/-- While the spread exceeds L, the last item leaves the plan and the cover is made again (R82). -/
def withinSpread (limit : Nat) : Nat → List DueRecord → List DueRecord
  | 0, l => l
  | n + 1, l =>
    if spreadOf (coverGroups (labelIds l)) l.length ≤ limit then l
    else withinSpread limit n l.dropLast

/-! ### The finished plan (R84, R97) -/

/-- The FREE buffers of a store, lowest number first. -/
def freeBuffers (store : List SegBuffer) : List Nat :=
  (List.range Config.storeBuffers).filter fun n => store.all fun b => b.number != n

/-- The items of a plan in order: their slot start offsets are the costs before them, and each DELIVER item takes the
lowest-numbered FREE buffers, one per needed segment (R84, R97). -/
def layItems (rate : Rate) : Nat → List Nat → List DueRecord → List PlanItem
  | _, _, [] => []
  | offset, free, r :: rest =>
    { index := r.index, kind := r.kind, mode := r.mode, label := r.label, target := r.target,
      needed := r.needed, cost := r.cost rate, offset := offset, buffers := free.take r.claim,
      length := r.length, group := r.group,
      status := if r.kind = .deliver then .unready else .ready } ::
      layItems rate (offset + r.cost rate) (free.drop r.claim) rest

/-- The buffers an item claims, CLAIMED and empty (R97). -/
def PlanItem.claimed (i : PlanItem) : List SegBuffer :=
  (i.buffers.zip i.needed).map fun p =>
    { number := p.1, index := i.index, segment := p.2, filled := false, data := [] }

/-- The records a plan serves: the selection with the removals for the spread (R77, R82). -/
def plannedRecords (m : Limits) (b : BeaconNo) (spread : Nat) (l : List DueRecord) : List DueRecord :=
  let picked := selection m b l
  withinSpread spread picked.length picked

/-- The plan made over a due list and a segment store (R72). -/
def makePlan (t : Settings) (c : CellId) (b : BeaconNo) (l : List DueRecord) (store : List SegBuffer) : Plan :=
  let rate := (cellAt t.cells c).rate
  let free := freeBuffers store
  let records := plannedRecords { budget := t.window * 1000, buffers := free.length, rate := rate } b t.spread l
  { beacon := b, cell := c, items := layItems rate 0 free records,
    filters := (coverGroups (labelIds records)).map IdGroup.filter }

def emptyPlan (c : CellId) (b : BeaconNo) : Plan := { beacon := b, cell := c, items := [], filters := [] }

end Sys2Proof.Machine
end

