-- ==== Sys2Proof/Machine/Links.lean ====
section
/-! DEFINITION. The radio port's link: which exchange it begins next, frames handed to it, frame pulls, cuts, and changes of the
cell state (R146 to R151, R154). -/

namespace Sys2Proof.Machine

/-! ### The next exchange -/

/-- While frame-ready is raised, a pull is made when the receive FIFO has room and the port is not blocked; in a state
other than ACTIVE every announced frame is pulled (R150). -/
def RadioPort.canPull (p : RadioPort) : Bool :=
  p.frameReady && (decide (p.state ≠ .active) || (decide (p.fifo.length < Config.fifoFrames) && !p.blocked))

/-- The next frame that waits at the cell sequencer goes into the empty holding buffer (R111, R149). -/
def RadioPort.refill (p : RadioPort) : RadioPort :=
  match p.holding, p.behind with
  | none, h :: rest => { p with holding := some h, behind := rest }
  | _, _ => p

/-- The free link takes the exchanges that have fallen due in their order (R146). A pull is made only if it can still be
made; a held frame's SEND begins and the holding buffer is empty again (R149). -/
def RadioPort.serveDue (p : RadioPort) : List Due → RadioPort
  | [] => { p with exchange := if p.canPull then some (.pull false) else none, due := [] }
  | .command c purpose :: rest => { p with exchange := some (.command c purpose false false), due := rest }
  | .held :: rest =>
    match p.holding with
    | some h =>
      { p with exchange := some (.command (.send h.frame) (.window h.beacon) false false), holding := none,
               due := rest }.refill
    | none => p.serveDue rest
  | .pull :: rest => if p.canPull then { p with exchange := some (.pull false), due := rest } else p.serveDue rest
  | .overrunPull :: rest => { p with exchange := some (.pull true), due := rest }

/-- The exchange in progress is a command of the port's probe. -/
def RadioPort.probeCommandOut (p : RadioPort) : Bool :=
  match p.exchange with
  | some (.command _ .probe _ _) => true
  | _ => false

/-- A new clock idle level comes into use between exchanges: with the first exchange of a probe, and as soon as the link is
free where the port makes none (R146; a port that makes no probe is a DESIGN CHOICE, notes/assumptions/33.md). -/
def RadioPort.takeClock (p : RadioPort) : RadioPort :=
  match p.clockNext with
  | none => p
  | some level =>
    if p.probe.isNone || p.probeCommandOut then { p with clockHigh := level, clockNext := none } else p

/-- The clock idle level of the port's next exchange. -/
def RadioPort.clockLevel (p : RadioPort) : Bool := p.clockNext.getD p.clockHigh

/-- A pull that falls due while a command is in progress waits for it (R150). -/
def RadioPort.notePull (p : RadioPort) : RadioPort :=
  match p.exchange with
  | some (.command _ _ _ _) => if p.canPull && !p.due.contains .pull then { p with due := p.due ++ [.pull] } else p
  | _ => p

/-- A link goes on: when it is free it begins its next exchange. -/
def RadioPort.goOn (p : RadioPort) : RadioPort :=
  match p.exchange with
  | some _ => p.notePull
  | none => (p.serveDue p.due).takeClock.notePull

/-- The link of one cell goes on. -/
def State.kick (s : State) (c : CellId) : State := s.modPort c RadioPort.goOn

/-- The four links go on; they work independently (R146). -/
def State.kickAll (s : State) : State := forCells State.kick s

/-! ### Frames and commands handed to the port -/

/-- A link command falls due. -/
def RadioPort.issue (p : RadioPort) (c : LinkCommand) (purpose : Purpose) : RadioPort :=
  { p with due := p.due ++ [.command c purpose] }

/-- An item's frames are handed over at its slot start: the first one's SEND falls due, through the holding buffer, and the
others wait behind it (R111, R149). Frames of the item before that have not gone yet stay ahead (DESIGN CHOICE,
notes/assumptions/32.md). -/
def RadioPort.handFrames (p : RadioPort) (b : BeaconNo) (frames : List Frame) : RadioPort :=
  let queued := frames.map fun f => ({ frame := f, beacon := b } : HeldFrame)
  RadioPort.refill { p with behind := p.behind ++ queued, due := p.due ++ [Due.held] }

/-! ### Cuts -/

/-- An exchange of a beacon, a window or a probe that waits for the link; an announced frame's pull and an IDLE are not
such work. -/
def Due.isWork : Due → Bool
  | .held => true
  | .command _ purpose => decide (purpose ≠ .port)
  | .pull | .overrunPull => false

/-- A command in progress is carried to its answer or timeout with no second issue and reports to nobody (R124, R149,
R153, R158). -/
def Exchange.cut : Exchange → Exchange
  | .command c _ second _ => .command c .orphan second true
  | .pull d => .pull d

/-- A probe goes no further: its command in progress is carried to its answer or timeout, and an exchange of another block goes on
as it is (R158; DEDUCED, notes/assumptions/28.md). -/
def Exchange.endProbe : Exchange → Exchange
  | .command c purpose second last =>
    if purpose = .probe then (Exchange.command c purpose second last).cut else .command c purpose second last
  | .pull d => .pull d

/-- What a cut leaves of a port: the holding buffer is empty, and no frame waits for it (R149). -/
def RadioPort.dropWork (p : RadioPort) : RadioPort :=
  { p with holding := none, behind := [], due := p.due.filter fun d => !d.isWork }

/-- What waits for the block whose command has ended in a link fault: the frames handed over and its other commands. A probe's
command, and one of another beacon, waits on (R146). -/
def Due.endsWith (purpose : Purpose) : Due → Bool
  | .held => true
  | .command _ p => decide (p = purpose)
  | .pull | .overrunPull => false

/-- What a link fault leaves of a port: the holding buffer is empty, and the block told of the fault has nothing waiting
(R125, R149). A beacon that waits behind a window's late SEND stays and is sent (DESIGN CHOICE, notes/assumptions/41.md). -/
def RadioPort.dropFaulted (p : RadioPort) (purpose : Purpose) : RadioPort :=
  { p with holding := none, behind := [], due := p.due.filter fun d => !d.endsWith purpose }

/-- ABORT and entry into FAULTED: FIFO and holding buffer emptied, the command in progress carried to its end (R159). That an
overrun's block ends with the FIFO emptied, in a cell that stays ACTIVE, is a DESIGN CHOICE (notes/assumptions/34.md): R151
names frames taken, a cell that leaves ACTIVE, and the resets. -/
def RadioPort.cut (p : RadioPort) : RadioPort :=
  { p.dropWork with fifo := [], blocked := false, exchange := p.exchange.map Exchange.cut }

/-! ### Cell states (R154) -/

def CellState.inUse : CellState → Bool
  | .active | .probing => true
  | _ => false

/-- The FIFO and the block are cleared when a cell leaves ACTIVE (R150, R151). R120 counts a frame pulled outside every reply slot
as stray, and R150 has the FIFO emptied; of a frame still in it when the cell leaves ACTIVE neither says whether it is counted. That
it is dropped uncounted is a DESIGN CHOICE (notes/assumptions/47.md). -/
def RadioPort.clearReceive (p : RadioPort) : RadioPort := { p with fifo := [], blocked := false }

/-- What a port drops when its cell leaves ACTIVE or begins a probe: what waits for the link, the FIFO, and a probe in progress, which
goes no further after its command in progress (R149, R150, R151, R158). -/
def RadioPort.dropAll (p : RadioPort) : RadioPort :=
  { p.dropWork.clearReceive with probe := none, exchange := p.exchange.map Exchange.endProbe }

/-- A cell goes to OFF, QUIET or FAILED; from ACTIVE or PROBING the port issues one IDLE (R154). A SEND or LISTEN in progress stays:
at its first issue it may still have its second by R148, which R154 leaves open (DEDUCED, notes/assumptions/28.md). -/
def RadioPort.leave (p : RadioPort) (st : CellState) : RadioPort :=
  let q := { p.dropAll with state := st }
  if p.state.inUse then q.issue .rest .port else q

/-- The cell goes OFF and holds no off-pending flag (R122). -/
def State.cellOff (s : State) (c : CellId) : State :=
  (s.modPort c fun p => p.leave .off).modSeq c fun q => { q with offPending := false }

/-- A probe begins: the cell is PROBING and IDENT falls due (R152, R154). -/
def RadioPort.beginProbe (p : RadioPort) (reason : ProbeReason) (cell : CellSettings) : RadioPort :=
  { p.dropAll with
    state := .probing,
    probe := some { reason := reason, channel := cell.channel, rate := cell.rate, tries := [], tuning := false }
  }.issue .ident .probe

/-- The third consecutive link fault: QUIET, with restart count 0 and countdown 16 and CELL attention; an off-pending cell
goes OFF instead, with no attention (R155). -/
def State.goQuiet (s : State) (c : CellId) : State :=
  if (s.seqAt c).offPending then s.cellOff c
  else
    (s.modPort c fun p =>
      { p.leave .quiet with restartCount := 0, countdown := Config.restartBeacons }).raise .cell

end Sys2Proof.Machine
end

