-- ==== Sys2Proof/Machine/Stores.lean ====
section
/-! DEFINITION. The items of a plan between its plan point and their end: the fetch list (R91), abandoning a fetch (R92, R103),
releasing buffers (R100), dropping items and ending a plan (R86, R101, R109, R125). -/

namespace Sys2Proof.Machine

/-! ### The fetch list (R91) -/

/-- The order of the fetch list: window start of the beacon, then cell, then place in plan order. -/
def FetchElem.ranksAhead (a b : FetchElem) : Bool :=
  if a.beacon = b.beacon then
    if a.cell = b.cell then decide (a.place < b.place) else decide (a.cell < b.cell)
  else beforeBeacon a.beacon b.beacon

def insertElem (e : FetchElem) : List FetchElem → List FetchElem
  | [] => [e]
  | f :: rest => if e.ranksAhead f then e :: f :: rest else f :: insertElem e rest

/-- The fetch element of a DELIVER item (R91), from its record. -/
def fetchElemOf (c : CellId) (b : BeaconNo) (place : Nat) (i : PlanItem) (r : DueRecord) : FetchElem :=
  { cell := c, beacon := b, place := place, index := i.index, target := i.target, reference := r.reference,
    length := r.length, segments := r.segments, needed := i.needed, buffers := i.buffers }

def FetchElem.isItem (e : FetchElem) (c : CellId) (b : BeaconNo) (place : Nat) : Bool :=
  decide (e.cell = c) && decide (e.beacon = b) && decide (e.place = place)

/-- The fetch of an item is abandoned if it is in progress, and its element removed if it waits; words still to come of a
burst already begun are discarded (R92, R100). -/
def State.abandonFetch (s : State) (c : CellId) (b : BeaconNo) (place : Nat) : State :=
  let rest := s.fetch.list.filter fun e => !e.isItem c b place
  match s.fetch.current with
  | none => s.setFetch { s.fetch with list := rest }
  | some f =>
    if f.elem.isItem c b place then
      (s.setFetch { list := rest, current := none }).setBus
        ((s.bus.setWaiting .fetch none).orphan .fetch)
    else s.setFetch { s.fetch with list := rest }

/-! ### Items -/

def Plan.modItem (p : Plan) (place : Nat) (f : PlanItem → PlanItem) : Plan :=
  { p with items := p.items.modify place f }

/-- The plan of a beacon, coming or standing, in a sequencer. -/
def Sequencer.planOf (q : Sequencer) (b : BeaconNo) : Option Plan :=
  match q.standing with
  | some p => if p.beacon = b then some p else q.coming.filter fun c => c.beacon = b
  | none => q.coming.filter fun c => c.beacon = b

/-- One change to an item of the plan of beacon b. -/
def State.modItem (s : State) (c : CellId) (b : BeaconNo) (place : Nat) (f : PlanItem → PlanItem) : State :=
  s.modSeq c fun q =>
    let g := fun (p : Plan) => if p.beacon = b then p.modItem place f else p
    { q with coming := q.coming.map g, standing := q.standing.map g }

def State.itemAt (s : State) (c : CellId) (b : BeaconNo) (place : Nat) : Option PlanItem :=
  ((s.seqAt c).planOf b).bind fun p => p.items[place]?

/-- The whole of an item's claim is released at once (R100). -/
def State.releaseBuffers (s : State) (c : CellId) (numbers : List Nat) : State :=
  s.modStore c fun l => l.filter fun b => !numbers.contains b.number

/-- An item still to be ended: its record has had no result and has not been retired by the fetch engine. -/
def PlanItem.live (i : PlanItem) : Bool :=
  match i.status with
  | .dropped | .ended => false
  | _ => true

/-- An item is dropped: its fetch is abandoned, its buffers are FREE, and its slot time stays idle (R86, R100, R101). -/
def State.dropItem (s : State) (c : CellId) (b : BeaconNo) (place : Nat) : State :=
  match s.itemAt c b place with
  | none => s
  | some i =>
    ((s.abandonFetch c b place).releaseBuffers c i.buffers).modItem c b place
      fun j => { j with status := .dropped }

/-- A live item is dropped with NOT_SENT for beacon b (R60, R86). -/
def State.notSent (s : State) (c : CellId) (b : BeaconNo) (place : Nat) : State :=
  match s.itemAt c b place with
  | none => s
  | some i => if i.live then (s.dropItem c b place).itemResult c i.index b .notSent else s

/-- Every live item of a plan ends as NOT_SENT (R86, R109, R123, R125). No rule says in what order the items get it, which is the
order in which they may join the re-read and write-back lists: plan order, and at STOP cell 0's plan first, is a DESIGN CHOICE
(notes/assumptions/35.md). -/
def State.notSentAll (s : State) (c : CellId) (p : Plan) : State :=
  (List.range p.items.length).foldl (fun t place => t.notSent c p.beacon place) s

end Sys2Proof.Machine
end

