-- ==== Sys2Proof/Machine/Flip.lean ====
section
/-! DEFINITION. The flip unit: the notices of a beacon (R130), the cells' reports (R133), and the flip (R134). -/

namespace Sys2Proof.Machine

/-- The group number 1 to 15 of a record. -/
def groupNumber (g : GroupId) : BitVec 4 := BitVec.ofNat 4 (g.val + 1)

def State.groupRec (s : State) (g : GroupId) : GroupRecord := groupAt s.flip.groups g

def State.modGroup (s : State) (g : GroupId) (f : GroupRecord → GroupRecord) : State :=
  s.setFlip { s.flip with groups := groupPut s.flip.groups g (f (s.groupRec g)) }

/-- The notice of one group in beacon b, if it has one (R130). -/
def GroupRecord.notice (r : GroupRecord) (g : GroupId) (b : BeaconNo) : Option FlipNotice :=
  match r.state with
  | .announced =>
    if afterBeacon b r.announce && atOrAfter r.flipBeacon b then
      some { group := g, cancel := false, beacon := r.flipBeacon }
    else none
  | .cancelling =>
    if afterBeacon b r.cancel && beforeBeacon b r.flipBeacon then
      some { group := g, cancel := true, beacon := r.flipBeacon }
    else none
  | .opened | .done => none

/-- The notices of beacon b, at most one per group, in ascending group order (R130). -/
def State.flipNotices (s : State) (b : BeaconNo) : List FlipNotice :=
  allGroups.filterMap fun g => (s.groupRec g).notice g b

def cellBit (c : CellId) : BitVec 4 := BitVec.ofNat 4 (2 ^ c.val)

/-- A flip is announced or being withdrawn. -/
def GroupState.pending : GroupState → Bool
  | .announced | .cancelling => true
  | .opened | .done => false

/-- A missed beacon in the span of the group's announcement adds the cell to its gap set (R133). -/
def GroupRecord.missed (c : CellId) (b : BeaconNo) (r : GroupRecord) : GroupRecord :=
  if r.state.pending && afterBeacon b r.announce && atOrAfter r.flipBeacon b then
    { r with gap := r.gap ||| cellBit c }
  else r

/-- The flip of one group when its beacon has passed in all four cells: an ANNOUNCED group becomes DONE with FLIP attention,
the changes to its records and a changeover request; a CANCELLING group returns to OPEN (R134). -/
def State.takeFlip (b : BeaconNo) (s : State) (g : GroupId) : State :=
  let r := s.groupRec g
  if r.flipBeacon ≠ b then s
  else
    match r.state with
    | .announced =>
      ((((s.modGroup g fun q => { q with state := .done }).raise .flip).flipRecords
        (groupNumber g)).changeoverRequest g)
    | .cancelling => s.modGroup g fun q => { q with state := .opened }
    | .opened | .done => s

/-- Several groups that share one B are taken in ascending group number (R134). -/
def State.takeFlips (s : State) (b : BeaconNo) : State := allGroups.foldl (State.takeFlip b) s

/-- A cell sequencer's report of beacon b, sent or missed (R133); the report that completes the four is the moment of the
flip (R134). -/
def State.reportBeacon (s : State) (c : CellId) (b : BeaconNo) (sent : Bool) : State :=
  let groups := if sent then s.flip.groups else tableMap (GroupRecord.missed c b) s.flip.groups
  if b = s.timer.now then
    let t := s.setFlip { groups := groups, reported := s.flip.reported ||| cellBit c }
    if t.flip.reported = 0xF then t.takeFlips b else t
  else s.setFlip { s.flip with groups := groups }

/-- Every group OPEN again; everything else of the records stays (R144). -/
def State.reopenGroups (s : State) : State :=
  s.setFlip { s.flip with groups := tableMap (fun r => { r with state := .opened }) s.flip.groups }

/-- The number of groups ANNOUNCED or CANCELLING (R144). -/
def State.pendingGroups (s : State) : Nat := s.flip.groups.toArray.toList.countP fun r => r.state.pending

end Sys2Proof.Machine
end

