-- ==== Sys2Proof/Machine/Windows.lean ====
section
/-! DEFINITION. The cell sequencer's beacons and windows: a beacon sent or missed (R107, R109), the end of a window (R110, R122),
a port fault (R125), and the judgement of frames (R118, R120). -/

namespace Sys2Proof.Machine

/-- A pending CELL_OFF takes effect (R122). -/
def State.takeOffPending (s : State) (c : CellId) : State :=
  if (s.seqAt c).offPending then s.cellOff c else s

/-- The sequencer holds no standing plan any more and is before any window. -/
def Sequencer.noPlan (q : Sequencer) : Sequencer :=
  { q with standing := none, position := .noWindow, upNext := 0, slotsLeft := 0, obs := noObservations }

/-- The plan stops standing at its window's end, or at the end of the SEND of a beacon with no window, and a pending
CELL_OFF takes effect (R110, R122). -/
def State.endWindow (s : State) (c : CellId) : State := (s.modSeq c Sequencer.noPlan).takeOffPending c

/-- The beacon's SEND was answered: it counts as sent; with the window-present flag the window counts as sent and runs
(R109). -/
def State.beaconSent (s : State) (c : CellId) (b : BeaconNo) : State :=
  match (s.seqAt c).standing with
  | none => s.reportBeacon c b true
  | some plan =>
    if plan.hasWindow then
      (s.modSeq c fun q => { q with position := .before, windowsSent := countUp q.windowsSent }).reportBeacon
        c b true
    else (s.reportBeacon c b true).endWindow c

/-- The beacon's SEND ended in a link fault: missed, and the plan's items end as NOT_SENT (R109). -/
def State.beaconFault (s : State) (c : CellId) (b : BeaconNo) : State :=
  let t := s.reportBeacon c b false
  match (s.seqAt c).standing with
  | none => t
  | some plan =>
    let u := (t.notSentAll c plan).modSeq c Sequencer.noPlan
    if u.stopping then u.takeOffPending c else u

/-- A cell that sends no beacon at the beacon event: missed, and the plan made for it ends as NOT_SENT (R107, R109). -/
def State.beaconMissed (s : State) (c : CellId) (b : BeaconNo) : State :=
  let t := s.reportBeacon c b false
  match (s.seqAt c).coming with
  | none => t
  | some plan => (t.notSentAll c plan).modSeq c fun q => { q with coming := none }

/-- The exchange in progress is the SEND of a beacon. -/
def RadioPort.beaconOut (p : RadioPort) : Bool :=
  match p.exchange with
  | some (.command _ (.beacon _) _ _) => true
  | _ => false

/-- A beacon that still waits for the link of a cell that has left ACTIVE is never sent: it is missed (R107, R109; DEDUCED,
notes/assumptions/28.md). -/
def State.missWaiting (s : State) (c : CellId) : State :=
  match (s.seqAt c).standing with
  | none => s
  | some plan =>
    if (s.seqAt c).position = .beaconSend ∧ (s.portAt c).beaconOut = false then s.beaconFault c plan.beacon else s

/-- A port fault ends the rest of the window of beacon b (R125); its slots stay idle to the planned end (R110). -/
def State.portFault (s : State) (c : CellId) (b : BeaconNo) : State :=
  match (s.seqAt c).standing with
  | none => s
  | some plan =>
    if plan.beacon = b then
      (s.notSentAll c plan).modSeq c fun q =>
        { q with position := .between, upNext := plan.items.length, slotsLeft := 0, obs := noObservations }
    else s

/-- The plan coming for a beacon that STOP has cancelled ends as NOT_SENT (R123). -/
def State.dropComing (s : State) (c : CellId) : State :=
  match (s.seqAt c).coming with
  | none => s
  | some plan => (s.notSentAll c plan).modSeq c fun q => { q with coming := none }

/-- The item whose frames or reply slot are under way: the one taken up last (R110). -/
def Sequencer.currentItem (q : Sequencer) : Option PlanItem :=
  match q.standing with
  | none => none
  | some plan => if q.upNext = 0 then none else plan.items[q.upNext - 1]?

/-- The stray count, unless frames are dropped uncounted after a cut window (R120, R124). -/
def Sequencer.countStray (q : Sequencer) : Sequencer :=
  if q.cut then q else { q with stray := countUp q.stray }

/-- The observations of a slot after one more frame (R118). A frame taken while the good reply is held changes nothing but,
for a stray, the stray count. -/
def Sequencer.observe (q : Sequencer) (j : Judgement) : Sequencer :=
  match j with
  | .good y =>
    if q.obs.good.isSome then q.countStray else { q with obs := { q.obs with good := some y } }
  | .damaged =>
    if q.obs.good.isSome then q else { q with obs := { q.obs with damaged := true } }
  | .stray => q.countStray

/-- The sequencer judges a frame taken from the FIFO: by R118 when it was pulled during the reply slot in progress, and
otherwise as a stray, whatever its CRC (R120). For a frame that was pulled during a slot and is taken after a port fault has
ended that slot (R125), R118, R120 and R192 do not say which: that it is a stray is a DESIGN CHOICE
(notes/assumptions/29.md). -/
def Sequencer.takeFrame (network : BitVec 16) (q : Sequencer) (f : RxFrame) : Sequencer :=
  if f.inSlot && decide (q.position = .inReply) then
    match q.standing, q.currentItem with
    | some plan, some i => q.observe (judge network plan.beacon i.label f.bytes)
    | _, _ => q.countStray
  else q.countStray

/-- The frames a reply slot's end takes: up to the last one pulled during the slot; the rest stay in the FIFO (R113). -/
def slotFrames (fifo : List RxFrame) : List RxFrame := if fifo.any (·.inSlot) then fifo else []

/-- The classification of an item at its reply slot's end (R119). -/
def Observations.classify (o : Observations) : ItemResult :=
  match o.good with
  | some y => .good y
  | none => if o.damaged then .damaged else if o.overrun then .lostAtPort else .noReply

/-- The block of an overrun ends when the FIFO is empty (R151). -/
def RadioPort.unblock (p : RadioPort) : RadioPort := if p.fifo.isEmpty then { p with blocked := false } else p

end Sys2Proof.Machine
end

