-- ==== Sys2Proof/Machine/Probes.lean ====
section
/-! DEFINITION. Probes and what their ends bring: the cell state, LOAD's settings put in force, CELL_ON's completion, restarts
(R152, R153, R156, R157, R180). -/

namespace Sys2Proof.Machine

/-- None of the three IDENT tries was answered: LINE_STUCK if all were stuck at the same value, NO_ANSWER otherwise
(R152). -/
def silentStatus (tries : List DataIn) : ProbeStatus :=
  if tries.all (· == .allZeros) || tries.all (· == .allOnes) then .lineStuck else .noAnswer

/-- The cell becomes ACTIVE with its link fault run count at 0 (R148, R153, R156). -/
def RadioPort.activate (p : RadioPort) : RadioPort := { p with state := .active, probe := none, runCount := 0 }

def RadioPort.clearRestarts (p : RadioPort) : RadioPort := { p with restartCount := 0 }

/-- A port that LOAD is still probing. -/
def RadioPort.loadProbing (p : RadioPort) : Bool :=
  match p.probe with
  | some q => decide (q.reason = .load)
  | none => false

/-- When every LOAD probe has ended, the settings held aside are put into force together, the controller becomes LOADED and
a night record write falls due (R180). -/
def State.checkLoadProbes (s : State) : State :=
  match s.cmd.inProgress with
  | some (.load before (.probing aside clamps _)) =>
    if allCells.any fun c => (s.portAt c).loadProbing then s
    else
      let t := ((s.setSettings aside).setInForce true).setController .loaded
      (t.setCmd { t.cmd with inProgress := some (.load before (.recording clamps)) }).nightDue true
  | _ => s

/-- CELL_ON completes when its probe ends, with the cell's probe status as value; in LOADED a night record write falls due
(R157, R172, R183). -/
def State.finishCellOn (s : State) (c : CellId) (ok : Bool) : State :=
  if s.cmd.inProgress = some (.cellOn c) then
    let t := s.finish (if ok then .ok else .probeFailed) (s.portAt c).status.code
    if t.cmd.controller = .loaded then t.nightDue false else t
  else s

/-- A probe ends with its status, and the cell becomes ACTIVE, OFF, QUIET or FAILED (R152 to R157). -/
def State.probeEnd (s : State) (c : CellId) (status : ProbeStatus) (ok : Bool) : State :=
  match (s.portAt c).probe with
  | none => s
  | some probe =>
    let t := s.modPort c fun p => { p with status := status }
    match probe.reason with
    | .load =>
      (t.modPort c fun p => (if ok then p.activate else p.leave .off).clearRestarts).checkLoadProbes
    | .cellOn before =>
      if ok then
        let u := t.modPort c RadioPort.activate
        (if before = .off then u else u.raise .cell).finishCellOn c true
      else (t.modPort c fun p => p.leave .off).finishCellOn c false
    | .restart true =>
      if ok then ((t.modPort c fun p => p.activate.clearRestarts).raise .cell).finishCellOn c true
      else (t.modPort c fun p => (p.leave .off).clearRestarts).finishCellOn c false
    | .restart false =>
      if ok then (t.modPort c RadioPort.activate).raise .cell
      else if (s.portAt c).restartCount + 1 < Config.restartLimit then
        t.modPort c fun p => { p.leave .quiet with restartCount := p.restartCount + 1,
                                                   countdown := Config.restartBeacons }
      else
        (t.modPort c fun p => { p.leave .failed with restartCount := p.restartCount + 1 }).raise .cell

/-- An IDENT try that was answered: the kind codes are compared; when they are equal TUNE is issued, otherwise the probe
fails with WRONG_KIND (R152). -/
def State.identAnswered (s : State) (c : CellId) (kind : BitVec 8) : State :=
  match (s.portAt c).probe with
  | none => s
  | some probe =>
    if kind = Config.transceiverKind then
      s.modPort c fun p =>
        { p with probe := some { probe with tuning := true } }.issue (.tune probe.channel probe.rate) .probe
    else s.probeEnd c .wrongKind false

/-- An IDENT try that was not answered: the next try, or after three the probe fails (R152). -/
def State.identSilent (s : State) (c : CellId) (seen : DataIn) : State :=
  match (s.portAt c).probe with
  | none => s
  | some probe =>
    let tries := probe.tries ++ [seen]
    if tries.length < 3 then
      s.modPort c fun p => { p with probe := some { probe with tries := tries } }.issue .ident .probe
    else s.probeEnd c (silentStatus tries) false

/-! ### Ports at the cut of a night or of a command (R153, R158, R159, R185) -/

/-- A probe for CELL_ON goes no further and the cell goes OFF; a restart probe, adopted or not, is cut short: QUIET,
countdown 16, not counted. The probe status stays as it stood (R159, R185). A probe of LOAD is left to `RadioPort.restore`
(R153). -/
def RadioPort.cutProbe (p : RadioPort) : RadioPort :=
  match p.probe with
  | none => p
  | some probe =>
    match probe.reason with
    | .restart _ => { p.leave .quiet with countdown := Config.restartBeacons }
    | .cellOn _ => p.leave .off
    | .load => p

/-- What a port holds before LOAD's probes, for a LOAD that ABORT ends (R153). -/
def RadioPort.saved (p : RadioPort) : SavedPort :=
  { state := p.state, status := p.status, runCount := p.runCount, restartCount := p.restartCount,
    countdown := p.countdown, clockHigh := p.clockLevel }

/-- A LOAD ended during its probes: the cell returns to the state, status and restart count it held (R153). A restart probe
that LOAD had displaced counts as cut short (DEDUCED, notes/assumptions/15.md). The clock idle level is again the one before LOAD,
from the next exchange on. -/
def RadioPort.restore (p : RadioPort) (v : SavedPort) : RadioPort :=
  let cut := v.state = .probing
  let q := { p.cut with
    state := if cut then .quiet else v.state, status := v.status, runCount := v.runCount,
    restartCount := v.restartCount, countdown := if cut then Config.restartBeacons else v.countdown,
    clockNext := some v.clockHigh, probe := none }
  if p.state.inUse && !q.state.inUse then q.issue .rest .port else q

end Sys2Proof.Machine
end

