-- ==== Sys2Proof/Machine/Commands.lean ====
section
/-! DEFINITION. The command unit: taking and completing commands (R175, R176), what each command does (R129, R132, R178 to
R186), the cut of a night shared by ABORT and entry into FAULTED, and the resets. -/

namespace Sys2Proof.Machine

/-! ### Cutting a night (R41, R66, R88, R105, R124, R159, R185) -/

/-- The entry in hand at ABORT: a part-half write that has begun is finished with its marks, and otherwise the entry is
dropped (R41). -/
def InHand.atAbort (bus : MemoryPort) (h : InHand) : Option InHand :=
  let kept := fun (w : SweepWrite) => { w with poll := none }
  let detached := { h with source := .detached }
  match h.phase with
  | .reading | .read _ | .awaitingRemoval => none
  | .writing w => if bus.serves .entry then some { detached with phase := .writing (kept w) } else none
  | .written w => some { detached with phase := .written (kept w) }
  | .entryMark w => some { detached with phase := .entryMark (kept w) }
  | .entryMarked w => some { detached with phase := .entryMarked (kept w) }
  | .groupMark w => some { detached with phase := .groupMark (kept w) }
  | .groupMarked w => some { detached with phase := .groupMarked (kept w) }

/-- Passes ended, notice queue and re-read list emptied, rescan-pending flag cleared (R41). -/
def State.endSweep (s : State) (hand : Option InHand) : State :=
  (s.setSweep { running := none, suspended := none, groupSet := [], rescanPending := false, reread := [],
                hand := hand }).setNotices []

/-- A cell at the cut: FIFO and holding buffer emptied, an off-pending cell OFF, a probe cut short, no plan (R88, R124,
R159). -/
def State.cutCell (s : State) (c : CellId) : State :=
  let t := ((s.modPort c fun p => p.cut.cutProbe).modSeq c fun q =>
    { q.noPlan with coming := none, cut := true })
  t.takeOffPending c

/-- The blocks withdraw the work of a night. Records, plans and flip announcements are discarded, the beacon timer stopped,
every segment buffer freed (R66, R88, R105, R106, R144). -/
def State.cutNight (s : State) (hand : Option InHand) : State :=
  let t := forCells State.cutCell ((s.endSweep hand).discardRecords.reopenGroups)
  ((t.setFetch { list := [], current := none }).setStore (Vector.replicate 4 [])).setTimer
    { t.timer with schedule := none }

/-- Requests are withdrawn with the work of their blocks, and a transfer in progress is carried to its end without its
requester; the sweep engine's go on when its entry is being finished (R166). -/
def MemoryPort.atAbort (p : MemoryPort) (handKept : Bool) : MemoryPort :=
  let q := (((p.setWaiting .fetch none).setWaiting .writeBack none).setWaiting .anchor none).orphan .fetch
  let r := (q.orphan .writeBack).orphan .anchor
  if handKept then r else (r.setWaiting .entry none).orphan .entry

/-! ### Taking commands -/

/-- A refusal or a completion at once. -/
def State.wrongState (s : State) : State := s.finish .wrongState 0

/-- LOAD (R179): refused at once with BAD_ANCHOR when ANCHOR is not a multiple of 64, otherwise LOADING, and the first burst
of the anchor block is offered; what the ports hold is kept for a LOAD that ABORT ends (R153). -/
def State.takeLoad (s : State) : State :=
  match s.cmd.controller with
  | .unloaded | .loaded | .faulted =>
    if s.cmd.anchor.toNat % 64 ≠ 0 then s.finish .badAnchor 0
    else
      let phase := LoadPhase.reading s.cmd.anchor [] (tableMap RadioPort.saved s.port)
      ((s.setRunning (.load s.cmd.controller phase)).setController .loading).offer .anchor
        (.read s.cmd.anchor.toNat Config.burstWords)
  | _ => s.wrongState

/-- START (R181). -/
def State.takeStart (s : State) : State :=
  if s.cmd.controller ≠ .loaded then s.wrongState
  else
    let number := s.cmd.nightNumber + 1
    let t := s.setCmd { s.cmd with nightNumber := number, controller := .running }
    let u := (t.setFlip { t.flip with groups := tableMap (fun _ => groupReset) t.flip.groups }).clearDeferred
    let v := (u.setSeq (tableMap (fun q => { q with windowsSent := 0, itemsSent := 0, fetchLate := 0, stray := 0,
                                                     cut := false }) u.seq)).setPort
      (tableMap (fun p => { p with overrun := 0 }) u.port)
    let w := (v.setCounts countsReset).setSweep { v.sweep with running := some (v.newPass .opening) }
    let x := w.setTimer { w.timer with
      schedule := some { nextBeacon := w.settings.period, nextPlan := some (w.settings.period - w.settings.lead) } }
    x.finish .ok number.toNat

/-- PAUSE (R182). -/
def State.takePause (s : State) : State :=
  if s.cmd.controller = .running then (s.setController .paused).finish .ok 0 else s.wrongState

/-- RESUME (R182). -/
def State.takeResume (s : State) : State :=
  if s.cmd.controller = .paused then (s.setController .running).finish .ok 0 else s.wrongState

/-- The entry in hand at STOP is finished whole, detached from the passes that end (R41). -/
def InHand.atStop (groups : List GroupId) (h : InHand) : InHand :=
  { h with source := .detached, groups := if h.visit = .changeover ∧ h.source ≠ .detached then groups else h.groups }

/-- No window runs in the cell and none follows a beacon of it: no plan stands, or only the plan of a beacon with no window
(R108, R110). -/
def Sequencer.noWindow (q : Sequencer) : Bool :=
  match q.standing with
  | none => true
  | some plan => !plan.hasWindow

/-- An off-pending cell in which no window runs goes OFF at once when the controller leaves RUNNING and PAUSED, also while the SEND
of a beacon with no window is still out (R122). Such a SEND goes on to its end, and one that still waits for the link is missed
(DEDUCED, notes/assumptions/28.md). -/
def State.offIfNoWindow (s : State) (c : CellId) : State :=
  if (s.seqAt c).noWindow && (s.seqAt c).offPending then (s.cellOff c).missWaiting c else s

/-- STOP (R184, R65). -/
def State.takeStop (s : State) : State :=
  if !s.nightOn then s.wrongState
  else if s.pendingGroups ≠ 0 then s.finish .flipPending 0
  else
    let t := ((s.setController .stopping).setDrained 0).setRunning (.stop false)
    let u := forCells State.dropComing (t.setTimer { t.timer with schedule := none })
    let v := u.endSweep (u.sweep.hand.map (InHand.atStop u.sweep.groupSet))
    forCells State.offIfNoWindow v.drainWaiting

/-- RESCAN (R183). -/
def State.takeRescan (s : State) : State :=
  if s.nightOn then s.rescanRequest.finish .ok 0 else s.wrongState

/-- FLIP_AT (R129): the tests in order, then the announcement. -/
def State.takeFlipAt (s : State) (group : BitVec 4) (delta : BitVec 20) : State :=
  if !s.nightOn then s.wrongState
  else
    match groupIndex group with
    | none => s.finish .badArgument 0
    | some g =>
      match (s.groupRec g).state with
      | .done => s.finish .groupDone 0
      | .announced | .cancelling => s.finish .flipPending 0
      | .opened =>
        let least := 2 ^ s.settings.bigK
        let distance := max delta.toNat least
        let t := s.modGroup g fun r =>
          { r with state := .announced, flipBeacon := s.timer.now + BitVec.ofNat 32 distance,
                   announce := s.timer.now, gap := 0 }
        t.finish (if delta.toNat < least then .clamped else .ok) distance

/-- CANCEL_FLIP (R132). -/
def State.takeCancelFlip (s : State) (group : BitVec 4) : State :=
  if !s.nightOn then s.wrongState
  else
    match groupIndex group with
    | none => s.finish .badArgument 0
    | some g =>
      let r := s.groupRec g
      let distance := (r.flipBeacon - s.timer.now).toNat
      match r.state with
      | .done => s.finish .groupDone 0
      | .opened | .cancelling => s.finish .noFlip 0
      | .announced =>
        if atOrAfter r.flipBeacon (s.timer.now + BitVec.ofNat 32 (2 ^ s.settings.bigK + 1)) then
          (s.modGroup g fun q => { q with state := .cancelling, cancel := s.timer.now }).finish .ok distance
        else s.finish .tooLate distance

/-- CELL_ON and CELL_OFF are taken in LOADED, RUNNING and PAUSED (R178, R183). -/
def State.takesCells (s : State) : Bool := s.nightOn || decide (s.cmd.controller = .loaded)

/-- A CELL_ON or CELL_OFF that completes while the controller is LOADED causes a night record write (R172, R183). -/
def State.nightIfLoaded (s : State) : State := if s.cmd.controller = .loaded then s.nightDue false else s

/-- CELL_ON (R157). A cell number above 3 is refused with BAD_ARGUMENT and changes nothing (R183), so in LOADED that refusal makes no
night record write, although R172 names each CELL_ON that completes there (DESIGN CHOICE, notes/assumptions/45.md). -/
def State.takeCellOn (s : State) (cell : BitVec 8) : State :=
  if !s.takesCells then s.wrongState
  else
    match cellArgument cell with
    | none => s.finish .badArgument 0
    | some c =>
      match (s.portAt c).state with
      | .active =>
        ((s.modSeq c fun q => { q with offPending := false }).finish .ok
          (s.portAt c).status.code).nightIfLoaded
      | .off => (s.modPort c fun p => p.beginProbe (.cellOn .off) (s.cellSettings c)).setRunning (.cellOn c)
      | .quiet =>
        (s.modPort c fun p => { p with countdown := 0, restartCount := 0 }.beginProbe (.cellOn .quiet)
          (s.cellSettings c)).setRunning (.cellOn c)
      | .failed =>
        (s.modPort c fun p => { p with countdown := 0, restartCount := 0 }.beginProbe (.cellOn .failed)
          (s.cellSettings c)).setRunning (.cellOn c)
      | .probing =>
        (s.modPort c fun p =>
          { p with probe := p.probe.map fun q => { q with reason := .restart true } }).setRunning (.cellOn c)

/-- CELL_OFF (R158). A cell number above 3 is refused as for CELL_ON, with no night record write in LOADED (DESIGN CHOICE,
notes/assumptions/45.md). -/
def State.takeCellOff (s : State) (cell : BitVec 8) : State :=
  if !s.takesCells then s.wrongState
  else
    match cellArgument cell with
    | none => s.finish .badArgument 0
    | some c =>
      let t :=
        match (s.portAt c).state with
        | .active => if s.nightOn then s.modSeq c fun q => { q with offPending := true } else s.cellOff c
        | .quiet | .failed | .probing => s.cellOff c
        | .off => s
      (t.finish .ok 0).nightIfLoaded

/-- SET_ATTN_MASK is taken in every state (R183). -/
def State.takeSetAttnMask (s : State) (mask : BitVec 9) : State :=
  (s.setCmd { s.cmd with mask := mask }).finish .ok 0

/-! ### ABORT (R176, R180, R185) -/

/-- A night's ABORT: LOADED at once, the night cut, and its night record write due; RESULT will give the announcements cut
(R185). R172 has that write fall due when ABORT has discarded the night's work, R185 after the transfer in progress is carried to its
end. That the snapshot is taken in ABORT's own step, so that what the carried transfer or the entry finished by R41 adds to the counts
afterwards is not in it, is a DESIGN CHOICE (notes/assumptions/48.md). -/
def State.abortNight (s : State) : State :=
  let cutFlips := s.pendingGroups
  let hand := s.sweep.hand.bind (InHand.atAbort s.bus)
  let t := (s.cutNight hand).setBus (s.bus.atAbort hand.isSome)
  ((t.setController .loaded).setRunning (.abort .ok cutFlips)).nightAbort

/-- ABORT of a CELL_ON in LOADED completes once the probe has gone no further (R185). R159's ABORT row empties every FIFO and cuts
every restart probe; R185 has this ABORT end only the CELL_ON. That the other ports stay as they are is a DESIGN CHOICE
(notes/assumptions/49.md). -/
def State.abortCellOn (s : State) (c : CellId) : State :=
  let t := s.modPort c RadioPort.cutProbe
  if (s.portAt c).probeCommandOut then t.setRunning (.abortProbe c)
  else (t.finish .ok 0).nightIfLoaded

/-- ABORT of a LOAD during LOADING: everything as before LOAD, completing at once with ABORTED (R153, R180). That an ABORT in the
anchor read empties no FIFO and cuts no restart probe, which R159's ABORT row does and R180 does not name, is a DESIGN CHOICE
(notes/assumptions/49.md). -/
def State.abortLoad (s : State) (before : ControllerState) (phase : LoadPhase) : State :=
  let t := s.setController before
  let u :=
    match phase with
    | .probing _ _ saved =>
      forCells (fun v c => v.modPort c fun p => p.restore (cellAt saved c)) t
    | _ => t.setBus ((t.bus.setWaiting .anchor none).orphan .anchor)
  u.finish .aborted 0

/-- ABORT by controller state and command in progress (R180, R185). During LOAD's night record write it only waits for that write;
that it leaves the ports as they are is a DESIGN CHOICE (notes/assumptions/49.md). -/
def State.takeAbort (s : State) : State :=
  match s.cmd.controller with
  | .running | .paused | .stopping => s.abortNight
  | .loading =>
    match s.cmd.inProgress with
    | some (.load before phase) => s.abortLoad before phase
    | _ => s.wrongState
  | .loaded =>
    match s.cmd.inProgress with
    | some (.cellOn c) => s.abortCellOn c
    | some (.load _ _) => s.setRunning (.abort .aborted 0)
    | _ => s.wrongState
  | .unloaded | .faulted => s.wrongState

/-! ### Resets (R186) -/

/-- Power-on and the reset pin: every on-chip state takes its power-on value; shared memory is left as it stands
(R186). -/
def State.powerOnState (s : State) : State := { State.reset with shared := s.shared, pending := s.pending }

/-- What RESET leaves: as power-on, with ANCHOR kept and RESULT as R176 gives. -/
def State.resetState (s : State) (busy : Bool) : State :=
  let t := s.powerOnState
  t.setCmd { t.cmd with anchor := s.cmd.anchor, resultCode := if busy then .aborted else .nothing }

/-- RESET takes effect once a transfer already begun on the memory port has been carried to its end; until then RESET is in
progress and every other block is in its reset state (R166, R176, R186; DEDUCED, notes/assumptions/8.md). -/
def State.takeReset (s : State) : State :=
  let busy := s.cmd.inProgress.isSome
  match s.bus.current with
  | none => s.resetState busy
  | some t =>
    let u := (s.resetState busy).setRunning (.reset busy)
    u.setBus { s.bus.withdrawn with current := some { t with orphan := true } }

/-! ### The CMD register (R175, R176) -/

/-- The command unit takes a command when none is in progress (R175). -/
def State.takeCommand (s : State) : HostCommand → State
  | .load => s.takeLoad
  | .start => s.takeStart
  | .pause => s.takePause
  | .resume => s.takeResume
  | .stop => s.takeStop
  | .abort => s.takeAbort
  | .reset => s.takeReset
  | .rescan => s.takeRescan
  | .flipAt group delta => s.takeFlipAt group delta
  | .cancelFlip group => s.takeCancelFlip group
  | .cellOn cell => s.takeCellOn cell
  | .cellOff cell => s.takeCellOff cell
  | .setAttnMask mask => s.takeSetAttnMask mask
  | .bad _ _ => s.finish .badCommand 0

/-- An ABORT, or a RESET that waits for a transfer, is in progress. -/
def Running.isAbort : Running → Bool
  | .abort _ _ | .abortProbe _ | .reset _ => true
  | _ => false

/-- A written command waits behind the one in progress, is lost with CMD_LOST behind a waiting one, or is taken (R175). -/
def State.queueCommand (s : State) (c : HostCommand) : State :=
  if s.cmd.waiting.isSome then s.raise .cmdLost
  else if s.cmd.inProgress.isSome then s.setCmd { s.cmd with waiting := some c }
  else s.takeCommand c

/-- A write to CMD. RESET is taken in every case; ABORT is taken at once unless an ABORT is in progress (R175, R176). -/
def State.writeCommand (s : State) (c : HostCommand) : State :=
  match c with
  | .reset => s.takeReset
  | .abort => if s.cmd.inProgress.any Running.isAbort then s.queueCommand c else s.takeAbort
  | _ => s.queueCommand c

/-- What the part does by itself at once: a drain that is over is noticed, the free links go on, and the idle memory port makes its
choice (R146, R165, R184). -/
def State.proceed (s : State) : State := s.checkDrain.kickAll.arbitrate

/-- The end of a step. When no command is in progress any more and a command is waiting, the command unit takes it in the state that
the step leaves (R175); that the free links and the idle memory port have gone on before it is taken is a DESIGN CHOICE
(notes/assumptions/46.md). -/
def State.conclude (s : State) : State :=
  match s.cmd.inProgress, s.cmd.waiting with
  | none, some c => (((s.setCmd { s.cmd with waiting := none }).proceed).takeCommand c).proceed
  | _, _ => s.proceed

/-! ### Entry into FAULTED (R164, R185) -/

/-- A transfer error: the controller is FAULTED, the blocks withdraw their work, no night record write is made, and the
command in progress completes with FAULT. A RESET in progress takes effect instead. -/
def State.enterFaulted (s : State) : State :=
  match s.cmd.inProgress with
  | some (.reset busy) => s.resetState busy
  | running =>
    let t := (s.cutNight none).setBus memoryPortReset
    let u := t.setNight { t.night with current := none, waiting := none }
    let v :=
      match running with
      | some (.load _ (.probing _ _ saved)) =>
        forCells (fun w c => w.modPort c fun p => p.restore (cellAt saved c)) u
      | _ => u
    let w := (v.setController .faulted).raise .faulted
    if running.isSome then w.finish .fault 0 else w

end Sys2Proof.Machine
end

