-- ==== Sys2Proof/Machine/HostCommands.lean ====
section
/-! DEFINITION. The meanings of the resets and of the writes to CMD (R129, R132, R157, R158, R174 to R186). -/

namespace Sys2Proof.Machine

/-- What a meaning answers. -/
abbrev Outcome := Host.Outcome State Fault Refusal

/-- Power-on (R186). -/
def execPowerOn (s : State) : Outcome := .next s.powerOnState

/-- The reset pin (R186). -/
def execResetPin (s : State) : Outcome := .next s.powerOnState

/-- LOAD (R179). -/
def execLoad (s : State) : Outcome := .next (s.writeCommand .load).conclude

/-- START (R181). -/
def execStart (s : State) : Outcome := .next (s.writeCommand .start).conclude

/-- PAUSE (R182). -/
def execPause (s : State) : Outcome := .next (s.writeCommand .pause).conclude

/-- RESUME (R182). -/
def execResume (s : State) : Outcome := .next (s.writeCommand .resume).conclude

/-- STOP (R184). -/
def execStop (s : State) : Outcome := .next (s.writeCommand .stop).conclude

/-- ABORT (R176, R185). -/
def execAbort (s : State) : Outcome := .next (s.writeCommand .abort).conclude

/-- RESET (R176, R186). -/
def execReset (s : State) : Outcome := .next (s.writeCommand .reset).conclude

/-- RESCAN (R183). -/
def execRescan (s : State) : Outcome := .next (s.writeCommand .rescan).conclude

/-- FLIP_AT (R129). -/
def execFlipAt (group : BitVec 4) (delta : BitVec 20) (s : State) : Outcome :=
  .next (s.writeCommand (.flipAt group delta)).conclude

/-- CANCEL_FLIP (R132). -/
def execCancelFlip (group : BitVec 4) (s : State) : Outcome :=
  .next (s.writeCommand (.cancelFlip group)).conclude

/-- CELL_ON (R157). -/
def execCellOn (cell : BitVec 8) (s : State) : Outcome := .next (s.writeCommand (.cellOn cell)).conclude

/-- CELL_OFF (R158). -/
def execCellOff (cell : BitVec 8) (s : State) : Outcome := .next (s.writeCommand (.cellOff cell)).conclude

/-- SET_ATTN_MASK ignores the bits of its argument above the nine (R183). -/
def execSetAttnMask (argument : BitVec 24) (s : State) : Outcome :=
  .next (s.writeCommand (.setAttnMask (argument.setWidth 9))).conclude

/-- A command word, by its code and argument (R175); a code that names no command gives BAD_COMMAND. -/
def execBadCommand (code : BitVec 8) (argument : BitVec 24) (s : State) : Outcome :=
  .next (s.writeCommand (commandOf code argument)).conclude

/-- Any word written to CMD; while a command is waiting it is lost, ABORT and RESET excepted (R175, R176). -/
def execCmdLost (word : Word) (s : State) : Outcome := .next (s.writeCommand (decodeCommand word)).conclude

end Sys2Proof.Machine
end

