-- ==== Sys2Proof/Machine/FetchEvents.lean ====
section
/-! DEFINITION. The meanings of the fetch engine's steps: beginning a fetch, the header's checks, and payload bursts (R91 to R98,
R101). -/

namespace Sys2Proof.Machine

/-! ### Beginning a fetch (R92, R93) -/

/-- A fetch is full when every segment is needed or the record holds no content check value (R93). -/
def fetchIsFull (e : FetchElem) (check : Option (BitVec 16)) : Bool :=
  decide (e.needed.length = e.segments) || check.isNone

/-- The free fetch engine takes the head element and offers the header burst (R92, R94). -/
def State.beginFetch (s : State) : State :=
  match s.fetch.current, s.fetch.list with
  | none, e :: rest =>
    let check := (s.recordIn e.cell e.index).bind (·.check)
    (s.setFetch { list := rest,
                  current := some { elem := e, full := fetchIsFull e check, known := check, headerTaken := false,
                                    headerCheck := 0, crc := crcStart, toOffer := [], offered := [],
                                    delivered := [] } }).offer .fetch (.read e.reference.toNat 4)
  | _, _ => s

/-- FETCH_START (R92). -/
def execFetchStart (s : State) : Outcome := .next s.beginFetch.conclude

/-! ### Runs and bursts (R94) -/

/-- The bursts of one run: its bytes from `start`, its words left over in the last burst. `fuel` is the run's words, more
than it has bursts. -/
def runBursts : Nat → Nat → Nat → List Burst
  | 0, _, _ => []
  | fuel + 1, start, words =>
    if words = 0 then []
    else { offset := start, words := min Config.burstWords words } ::
      runBursts fuel (start + 4 * Config.burstWords) (words - Config.burstWords)

/-- The maximal stretches of consecutive segment numbers of an ascending list: first segment and length. -/
def segmentRuns : List Nat → List (Nat × Nat)
  | [] => []
  | a :: rest =>
    match segmentRuns rest with
    | (b, n) :: more => if a + 1 = b then (a, n + 1) :: more else (a, 1) :: (b, n) :: more
    | [] => [(a, 1)]

/-- The payload bursts of a fetch that reads the given segments of a payload (R94). -/
def payloadBursts (length : Nat) (segments : List Nat) : List Burst :=
  (segmentRuns segments).flatMap fun r =>
    let start := Config.segmentBytes * r.1
    let stop := min (start + Config.segmentBytes * r.2) length
    runBursts ((stop - start + 3) / 4) start ((stop - start + 3) / 4)

/-- The segments a fetch reads: every one for a full fetch, the needed ones for a resend (R94). -/
def Fetch.reads (f : Fetch) : List Nat := if f.full then List.range f.elem.segments else f.elem.needed

/-- The address of a payload burst: the payload begins at the reference + 16 (R89). -/
def Fetch.burstAction (f : Fetch) (b : Burst) : Action :=
  .read (f.elem.reference.toNat + 16 + b.offset) b.words

def State.setFetching (s : State) (f : Option Fetch) : State := s.setFetch { s.fetch with current := f }

/-- The next payload burst of a fetch is offered, if one is left (R92). -/
def State.offerNext (s : State) (f : Fetch) : State :=
  match f.toOffer with
  | [] => s.setFetching (some f)
  | b :: rest =>
    (s.setFetching (some { f with toOffer := rest, offered := f.offered ++ [b] })).offer .fetch (f.burstAction b)

/-! ### The ends of a fetch (R62, R95, R96, R101) -/

/-- The item is dropped and its record retired as CONTENT_BAD (R62, R101). -/
def State.fetchBad (s : State) (e : FetchElem) : State :=
  (s.dropItem e.cell e.beacon e.place).contentBad e.cell e.index

/-- The content restart: every segment needed, no check value, and the item dropped with NOT_SENT (R96). -/
def State.fetchRestart (s : State) (e : FetchElem) : State :=
  (s.contentRestart e.cell e.index).notSent e.cell e.beacon e.place

/-- The item is ready; a full fetch's check value is stored (R95, R96). -/
def State.fetchReady (s : State) (f : Fetch) : State :=
  let t := if f.full then s.storeCheck f.elem.cell f.elem.index f.headerCheck else s
  (t.setFetching none).modItem f.elem.cell f.elem.beacon f.elem.place fun i => { i with status := .ready }

/-! ### The header (R95, R96) -/

/-- The header names the record's target version and content length. -/
def headerMatches (e : FetchElem) (ws : List Word) : Bool :=
  decide (headerVersion ws = e.target) && decide (headerLength ws = e.length)

def State.takeHeader (s : State) : State :=
  match s.fetch.current with
  | none => s
  | some f =>
    match f.headerTaken, f.delivered with
    | false, ws :: rest =>
      let g := { f with headerTaken := true, headerCheck := headerCheckValue ws, delivered := rest,
                        toOffer := payloadBursts f.elem.length.toNat f.reads }
      if f.full then
        if headerMatches f.elem ws then s.offerNext g else s.fetchBad f.elem
      else if headerMatches f.elem ws && f.known == some (headerCheckValue ws) then s.offerNext g
      else s.fetchRestart f.elem
    | _, _ => s

/-- FETCH_HEADER_READ (R95). -/
def execFetchHeaderRead (s : State) : Outcome := .next s.takeHeader.conclude

/-! ### Payload bursts (R94, R95, R97, R98) -/

/-- The bytes of a payload, from byte `offset` of it, that belong to a segment (R89). -/
def segmentBytesOf (length offset segment : Nat) (bytes : List Byte) : List Byte :=
  let first := Config.segmentBytes * segment
  let last := min (first + Config.segmentBytes) length
  (bytes.zip (List.range bytes.length)).filterMap fun p =>
    if first ≤ offset + p.2 ∧ offset + p.2 < last then some p.1 else none

/-- How many payload bytes a segment holds (R89). -/
def segmentSize (length segment : Nat) : Nat :=
  min (Config.segmentBytes * segment + Config.segmentBytes) length - Config.segmentBytes * segment

/-- Bytes are written into a claimed buffer; it becomes FILLED with its segment's last byte, the rest zero (R98). -/
def SegBuffer.write (length : Nat) (bytes : List Byte) (b : SegBuffer) : SegBuffer :=
  let data := b.data ++ bytes
  if segmentSize length b.segment ≤ data.length then
    { b with filled := true, data := data ++ List.replicate (Config.segmentBytes - data.length) 0 }
  else { b with data := data }

/-- A burst's bytes go into the claimed buffers of the needed segments they belong to (R98). -/
def fillStore (e : FetchElem) (offset : Nat) (bytes : List Byte) (store : List SegBuffer) : List SegBuffer :=
  store.map fun b =>
    if e.buffers.contains b.number && !b.filled then
      b.write e.length.toNat (segmentBytesOf e.length.toNat offset b.segment bytes)
    else b

/-- The bytes of a burst that are payload; those of the last word beyond it are ignored (R94, R193). -/
def payloadBytes (length : Nat) (b : Burst) (ws : List Word) : List Byte :=
  (unpackBytes ws).take (length - b.offset)

/-- The last word has been read: a full fetch compares the CRC with the header's check value (R95); a resend fetch makes no
check (R96). -/
def State.fetchOver (s : State) (f : Fetch) : State :=
  if f.full && f.crc != f.headerCheck then s.fetchBad f.elem else s.fetchReady f

def State.takeBurst (s : State) : State :=
  match s.fetch.current with
  | none => s
  | some f =>
    match f.headerTaken, f.delivered, f.offered with
    | true, ws :: rest, b :: later =>
      let bytes := payloadBytes f.elem.length.toNat b ws
      let g := { f with delivered := rest, offered := later,
                        crc := if f.full then crcOver f.crc bytes else f.crc }
      let t := (s.modStore f.elem.cell (fillStore f.elem b.offset bytes)).setFetching (some g)
      if later.isEmpty && f.toOffer.isEmpty then t.fetchOver g else t
    | _, _, _ => s

/-- FETCH_BURST_READ (R94). -/
def execFetchBurstRead (s : State) : Outcome := .next s.takeBurst.conclude

end Sys2Proof.Machine
end

