-- ==== Sys2Proof/Machine/SweepEvents.lean ====
section
/-! DEFINITION. The meanings of the entry reader's and the sweep engine's steps: taking an entry, dealing with its read, and
the steps of a part-half write with its marks (R15 to R18, R26 to R28, R34 to R40, R136 to R139). -/

namespace Sys2Proof.Machine

/-! ### Taking an entry (R27) -/

/-- What the entry reader does with an entry of a pass (2.3). -/
def PassKind.visit : PassKind → Visit
  | .changeover => .changeover
  | .opening => .opening
  | .rescan => .plain
  | .refill => .refill

/-- The entry reader has taken an entry and its read waits for the memory port (R2, R27). -/
def State.beginVisit (s : State) (index : Nat) (source : HandSource) (visit : Visit) : State :=
  (s.setSweep { s.sweep with
      hand := some { index := index, source := source, visit := visit, groups := [], phase := .reading } }).offer
    .entry (.read (entryAddress s.settings index) 8)

/-- The oldest index of the re-read list: read, or passed by ahead of a live opening pass (R27, R35). -/
def State.takeReread (s : State) (index : Nat) (rest : List Nat) : State :=
  let t := s.setSweep { s.sweep with reread := rest }
  if s.sweep.aheadOfOpening index then t else t.beginVisit index .reread .plain

/-- The head notice's next entry: read, or passed by unread ahead of a live opening pass (R26). -/
def State.takeNoticeEntry (s : State) (n : Notice) : State :=
  if s.sweep.aheadOfOpening n.progress then s.setNotices (advanceNotice s.notices)
  else s.beginVisit n.progress .notice .plain

/-- The first source that has an entry: the re-read list, the notice queue, the running pass (R27). -/
def State.takeEntry (s : State) : State :=
  match s.sweep.hand with
  | some _ => s
  | none =>
    match s.sweep.reread with
    | index :: rest => s.takeReread index rest
    | [] =>
      match s.notices with
      | n :: _ => s.takeNoticeEntry n
      | [] =>
        match s.sweep.running with
        | some p => s.beginVisit p.cursor (.pass p.kind) p.kind.visit
        | none => s

/-- ENTRY_READER_TAKE (R27). -/
def execEntryReaderTake (s : State) : Outcome := .next s.takeEntry.conclude

/-! ### Part-half writes of the sweep engine (R28) -/

def State.setPhase (s : State) (phase : HandPhase) : State :=
  s.setSweep { s.sweep with hand := s.sweep.hand.map fun h => { h with phase := phase } }

/-- The part half is offered as one 4-word write (R3, R28). -/
def State.beginWrite (s : State) (index : Nat) (written : PartHalf) (w : SweepWrite) : State :=
  (s.setPhase (.writing w)).offer .entry (.write (partHalfAddress s.settings index) (partHalfWords written))

/-- After an evaluation the part half is written when any field differs from what was read (R17). -/
def State.writeIfChanged (s : State) (index : Nat) (read written : PartHalf) : State :=
  if written = read then s.finishHand
  else s.beginWrite index written
    { written := written.state, reportable := reportable read written, poll := none }

/-! ### Evaluation of an entry with no record (R15 to R17) -/

/-- The verdict on an entry is carried out: a state is written, or an item is admitted with its admission write, or the
entry is DEFERRED and its cell's deferred flag set (R16, R17). `read` is the part half as read; `e` carries the per-night
resets where they apply. -/
def State.carryOut (s : State) (index : Nat) (read : PartHalf) (e : Entry) (v : Verdict) : State :=
  match v with
  | .state st => s.writeIfChanged index read (e.part.record st e.host.requested)
  | .item kind mode =>
    if s.canAdmit e.host.cell then
      (s.admitRecord index e kind mode).writeIfChanged index read (e.part.record .queued e.host.requested)
    else
      (s.deferCell e.host.cell).writeIfChanged index read (e.part.record .deferred e.host.requested)

/-- A notice, a re-read, a rescan or a refill evaluates the entry (R15). -/
def State.plainVisit (s : State) (index : Nat) (e : Entry) : State :=
  s.carryOut index e.part e (evaluate s.settings (plainInput (s.groupDone e.host.group) e))

/-- The opening pass applies the per-night resets and then evaluates (R34). -/
def State.openingVisit (s : State) (index : Nat) (e : Entry) : State :=
  let fresh : Entry := { e with part := e.part.openNight }
  s.carryOut index e.part fresh
    (evaluate s.settings (openingInput s.settings.threshold (s.groupDone e.host.group) e))

/-! ### The changeover pass (R136 to R139) -/

/-- The group set a changeover visit acts on: the pass's, or the one kept when STOP ended the pass (R39, R41). -/
def State.visitGroups (s : State) (h : InHand) : List GroupId :=
  if h.source = .detached then h.groups else s.sweep.groupSet

/-- A LATE that an evaluation recorded ahead of the changeover pass (R138). -/
def settledAhead (flipBeacon : BeaconNo) (e : Entry) : Bool :=
  decide (e.part.state = .late) && decide (e.part.staged = e.host.requested) &&
    decide (e.part.outcome = e.host.requested) && decide (e.host.requested ≠ 0) &&
    beforeBeacon e.part.lastContact flipBeacon

/-- An entry whose cell missed a beacon of the announcement is written UNSURE, with a POLL to follow unless the opening
pass will reach it (R35, R139) or the entry is invalid, so that no record is admitted for it and nothing is sent to its label (R10;
that it is written UNSURE all the same is DEDUCED, notes/assumptions/27.md). That a set hold flag keeps neither the write nor the
POLL back is a DESIGN CHOICE (notes/assumptions/39.md). -/
def State.makeUnsure (s : State) (index : Nat) (e : Entry) : State :=
  let unsure := e.part.record .unsure e.host.requested
  let poll := if s.sweep.aheadOfOpening index || !entryValid s.settings e.host then none
    else some { e with part := unsure }
  s.beginWrite index unsure { written := .unsure, reportable := reportable e.part unsure, poll := poll }

/-- A STAGED entry whose requested version has moved on is evaluated with the group DONE; ahead of the opening pass an item
is left to that pass (R35, R136). -/
def State.movedOn (s : State) (index : Nat) (e : Entry) : State :=
  match evaluate s.settings (plainInput true e) with
  | .state st => s.carryOut index e.part e (.state st)
  | .item kind mode =>
    if s.sweep.aheadOfOpening index then s.finishHand else s.carryOut index e.part e (.item kind mode)

/-- A changeover's action on an entry of its groups that no record holds (R136). R4 and R5 have a held entry left alone and
recorded HELD from its next read on, and R136 names no hold: that the action goes by the state as read, whatever the hold flag, is
a DESIGN CHOICE (notes/assumptions/39.md). An evaluation (`State.movedOn`) tests hold as R15 does. -/
def State.changeoverEntry (s : State) (g : GroupId) (index : Nat) (e : Entry) : State :=
  let r := s.groupRec g
  let gap := r.gap &&& cellBit e.host.cell != 0
  if (e.part.state = .staged ∧ e.part.staged = e.host.requested) ∨ settledAhead r.flipBeacon e then
    if gap then s.makeUnsure index e
    else s.writeIfChanged index e.part (e.part.assumeShown e.host.requested)
  else if e.part.state = .staged then s.movedOn index e
  else if e.part.state = .deferred ∧ s.settings.policy = .holdOld then
    s.writeIfChanged index e.part (e.part.record .late e.host.requested)
  else s.finishHand

/-- A changeover visit (R39, R136, R137): a RETIRING record holds the entry back, any other record is left alone. -/
def State.changeoverVisit (s : State) (h : InHand) (e : Entry) : State :=
  match groupIndex e.host.group with
  | none => s.finishHand
  | some g =>
    if g ∈ s.visitGroups h then
      match s.findRecord h.index with
      | some (_, r) => if r.state = .retiring then s.setPhase .awaitingRemoval else s.finishHand
      | none => s.changeoverEntry g h.index e
    else s.finishHand

/-! ### The read (R15, R18) -/

/-- An entry that a record holds is routed to the record; otherwise it is evaluated (R18, R34). -/
def State.routeOr (s : State) (index : Nat) (e : Entry) (act : State → State) : State :=
  match s.findRecord index with
  | some (c, r) => (s.routeRead c r e).finishHand
  | none => act s

/-- The entry in hand has been read (R15 to R18, R34, R36, R38, R39). -/
def State.dealWith (s : State) (h : InHand) (e : Entry) : State :=
  match h.visit with
  | .plain => s.routeOr h.index e fun t => t.plainVisit h.index e
  | .opening => s.routeOr h.index e fun t => t.openingVisit h.index e
  | .refill =>
    if e.part.state = .deferred ∨ e.part.state = .unsure then
      s.routeOr h.index e fun t => t.plainVisit h.index e
    else s.finishHand
  | .changeover => s.changeoverVisit h e

def State.entryRead (s : State) : State :=
  match s.sweep.hand with
  | none => s
  | some h =>
    match h.phase with
    | .read words => s.dealWith h (decodeEntry words)
    | _ => s

/-- ENTRY_READ_DONE (R15). -/
def execEntryReadDone (s : State) : Outcome := .next s.entryRead.conclude

/-! ### The steps after the part-half write (R28, R139, R170) -/

/-- The pair that sets entry i's bit in the entry mark map (R170). -/
def entryMarkPair (t : Settings) (index : Nat) : Action :=
  .pair (t.entryMarkBase.toNat + 4 * (index / 32)) (index % 32)

/-- The pair that sets the group mark of entry i's word (R170). -/
def groupMarkPair (t : Settings) (index : Nat) : Action :=
  .pair (t.groupMarkBase.toNat + 4 * (index / 32 / 32)) (index / 32 % 32)

/-- An UNSURE entry's POLL: admitted with its admission write, or, with no room, UNSURE stays and the cell's deferred flag
is set (R139). -/
def State.followPoll (s : State) (index : Nat) (e : Entry) : State :=
  if s.canAdmit e.host.cell then
    (s.admitRecord index e .poll .display).beginWrite index (e.part.record .queued e.host.requested)
      { written := .queued, reportable := false, poll := none }
  else (s.deferCell e.host.cell).finishHand

/-- The entry in hand has its write and its marks. -/
def State.afterMarks (s : State) (index : Nat) (w : SweepWrite) : State :=
  match w.poll with
  | some e => s.followPoll index e
  | none => s.finishHand

/-- The part-half write has completed: a reportable change goes on to its entry mark (R28). -/
def State.sweepWritten (s : State) : State :=
  match s.sweep.hand with
  | none => s
  | some h =>
    match h.phase with
    | .written w =>
      if w.reportable then (s.setPhase (.entryMark w)).offer .entry (entryMarkPair s.settings h.index)
      else s.afterMarks h.index w
    | _ => s

/-- SWEEP_PART_HALF_WRITTEN (R28). -/
def execSweepPartHalfWritten (s : State) : Outcome := .next s.sweepWritten.conclude

/-- A mark pair has completed: the group mark follows the entry mark, and REPORT and the count follow the group mark
(R28). -/
def State.sweepMarked (s : State) : State :=
  match s.sweep.hand with
  | none => s
  | some h =>
    match h.phase with
    | .entryMarked w => (s.setPhase (.groupMark w)).offer .entry (groupMarkPair s.settings h.index)
    | .groupMarked w => (s.report w.written).afterMarks h.index w
    | _ => s

/-- SWEEP_MARK_SET (R28). -/
def execSweepMarkSet (s : State) : Outcome := .next s.sweepMarked.conclude

end Sys2Proof.Machine
end

