-- ==== Sys2Proof/Machine/WriteBackEvents.lean ====
section
/-! DEFINITION. The meanings of the write-back engine's steps, of the end of a night record write and of the end of LOAD's anchor
read (R64, R65, R168, R172, R179, R180, R184, R185). -/

namespace Sys2Proof.Machine

/-! ### Write-backs (R168) -/

def State.setWbPhase (s : State) (phase : WriteBackPhase) : State := s.setWb { s.wb with phase := phase }

/-- The sweep engine is writing this entry's part half: the two engines' writes never reach one entry at once (R28). -/
def State.sweepWrites (s : State) (index : Nat) : Bool :=
  match s.sweep.hand with
  | none => false
  | some h =>
    decide (h.index = index) &&
      match h.phase with
      | .writing _ | .written _ | .entryMark _ | .entryMarked _ | .groupMark _ | .groupMarked _ => true
      | .reading | .read _ | .awaitingRemoval => false

/-- The record of the head item, with its outcome. -/
def State.headRecord (s : State) : Option (CellId × DueRecord × EntryState) :=
  match s.wb.list with
  | [] => none
  | index :: _ => (s.findRecord index).bind fun p => p.2.outcome.map fun o => (p.1, p.2, o)

/-- The engine takes the head item and offers the part-half write of its record (R8, R168). -/
def State.beginWriteBack (s : State) : State :=
  match s.wb.phase, s.headRecord with
  | .idle, some (_, r, o) =>
    if s.sweepWrites r.index then s
    else (s.setWbPhase .partHalf).offer .writeBack
      (.write (partHalfAddress s.settings r.index) (partHalfWords (r.writeBack s.settings o)))
  | _, _ => s

/-- WRITE_BACK_START (R168). -/
def execWriteBackStart (s : State) : Outcome := .next s.beginWriteBack.conclude

/-- A changeover visit that waited for this record reads its entry anew (R137). -/
def State.resumeVisit (s : State) (index : Nat) : State :=
  match s.sweep.hand with
  | none => s
  | some h =>
    if h.index = index ∧ h.phase = .awaitingRemoval then
      (s.setPhase .reading).offer .entry (.read (entryAddress s.settings index) 8)
    else s

/-- The refill request of a removal (R37, R64). -/
def State.refillAfterRemoval (s : State) (c : CellId) : State := if s.wantsRefill c then s.refillRequest else s

/-- A removed record's re-evaluate flag hands its index to the re-read list, which is closed when no night runs (R64,
R65). -/
def State.rereadAfterRemoval (s : State) (r : DueRecord) : State :=
  if r.reEvaluate && s.nightOn then s.joinReread r.index else s

/-- The write-back has ended: the record leaves its due list and the item the head of the write-back list (R64, R168). -/
def State.removeRecord (s : State) (c : CellId) (r : DueRecord) : State :=
  let t := (s.modDue c fun l => l.filter fun q => q.index != r.index).setWb
    { list := s.wb.list.tail, phase := .idle }
  ((t.refillAfterRemoval c).rereadAfterRemoval r).resumeVisit r.index

/-- A final state is reportable; QUEUED and DEFERRED are not (R20, R168). -/
def EntryState.final (e : EntryState) : Bool := decide (e ≠ .queued) && decide (e ≠ .deferred)

/-- The part-half write has completed (R168). -/
def State.partHalfDone (s : State) : State :=
  match s.wb.phase, s.headRecord with
  | .partHalfWritten, some (c, r, o) =>
    if o.final then (s.setWbPhase .entryMark).offer .writeBack (entryMarkPair s.settings r.index)
    else s.removeRecord c r
  | _, _ => s

/-- WRITE_BACK_PART_HALF_WRITTEN (R168). -/
def execWriteBackPartHalfWritten (s : State) : Outcome := .next s.partHalfDone.conclude

/-- A mark pair has completed: the group mark follows the entry mark; REPORT, the count and the removal follow the group
mark (R168). -/
def State.markDone (s : State) : State :=
  match s.wb.phase, s.headRecord with
  | .entryMarked, some (_, r, _) =>
    (s.setWbPhase .groupMark).offer .writeBack (groupMarkPair s.settings r.index)
  | .groupMarked, some (c, r, o) => (s.report o).removeRecord c r
  | _, _ => s

/-- WRITE_BACK_MARK_SET (R168). -/
def execWriteBackMarkSet (s : State) : Outcome := .next s.markDone.conclude

/-! ### The end of a night record write (R172, R173, R180, R184, R185) -/

/-- The command that waited for the write completes. -/
def State.nightWritten (s : State) : State :=
  match s.cmd.inProgress with
  | some (.load _ (.recording clamps)) =>
    if clamps = 0 then s.finish .ok 0 else s.finish .clamped clamps
  | some (.stop true) => (s.setController .loaded).finish .ok s.drained
  | some (.abort code value) => s.finish code value
  | _ => s

/-- The last burst of a write has completed: the write ends, a waiting snapshot begins, and a command that waited for this
write completes. -/
def State.nightDone (s : State) : State :=
  match s.night.current with
  | some w =>
    if w.complete then
      if w.snapshot.awaited then s.endNightWrite.nightWritten else s.endNightWrite
    else s
  | none => s

/-- NIGHT_RECORD_WRITE_DONE (R172). -/
def execNightRecordWriteDone (s : State) : Outcome := .next s.nightDone.conclude

/-! ### The end of LOAD's anchor read (R153, R179, R180) -/

/-- LOAD is refused: the controller returns to its state before it, and nothing else changes (R179). -/
def State.refuseLoad (s : State) (before : ControllerState) : State := (s.setController before).finish .badAnchor 0

/-- A port at the beginning of LOAD's probes: an enabled cell probes; any other is made OFF, its status NOT_CHECKED and its
restart count 0. Each port has its new clock idle level from its next exchange on, in an enabled cell the probe's first (R146,
R153). -/
def RadioPort.atLoad (p : RadioPort) (cell : CellSettings) : RadioPort :=
  let q := if cell.enabled then p.beginProbe .load cell
    else { p.leave .off with status := .notChecked, restartCount := 0 }
  { q with clockNext := some cell.clockHigh }

/-- The checks passed: the new settings are held aside while the enabled cells probe (R153, R180). -/
def State.probeForLoad (s : State) (before : ControllerState) (aside : Settings) (clamps : Nat)
    (saved : PerCell SavedPort) : State :=
  let t := s.setCmd { s.cmd with inProgress := some (.load before (.probing aside clamps saved)) }
  (forCells (fun u c => u.modPort c fun p => p.atLoad (cellAt aside.cells c)) t).checkLoadProbes

/-- The anchor block has been read: it is checked and clamped, or LOAD is refused (R179). -/
def State.anchorRead (s : State) : State :=
  match s.cmd.inProgress with
  | some (.load before (.read words saved)) =>
    if anchorAccepted words then s.probeForLoad before (anchorSettings words) (anchorClamps words) saved
    else s.refuseLoad before
  | _ => s

/-- ANCHOR_READ_DONE (R179). -/
def execAnchorReadDone (s : State) : Outcome := .next s.anchorRead.conclude

end Sys2Proof.Machine
end

