-- ==== Sys2Proof/Machine/BusEvents.lean ====
section
/-! DEFINITION. The meanings of the events of the memory bus: grant, word, backoff and its withdrawal, transfer error (R160 to
R166). An event that the port does not await leaves the state unchanged. -/

namespace Sys2Proof.Machine

/-! ### Grant and backoff (R160 to R162) -/

/-- The grant: the port holds the bus and issues the words. -/
def MemoryPort.grant (p : MemoryPort) : MemoryPort :=
  if p.bus = .requesting then { p with bus := .holding } else p

/-- BUS_GRANT (R160). -/
def execBusGrant (s : State) : Outcome := .next (s.setBus s.bus.grant)

/-- The current transfer is a locked pair. -/
def MemoryPort.inPair (p : MemoryPort) : Bool :=
  match p.current with
  | some t => t.action.isPair
  | none => false

/-- Backoff: the bus is released and the transfer kept with its first incomplete word; a locked pair gives up the lock and
will restart from its read (R161, R162). -/
def MemoryPort.backOff (p : MemoryPort) : MemoryPort :=
  if p.bus = .holding then
    if p.inPair then { p with bus := .backedOff, lock := false, nextWord := 0, got := [] }
    else { p with bus := .backedOff }
  else p

/-- BACKOFF (R161). -/
def execBackoff (s : State) : Outcome := .next (s.setBus s.bus.backOff)

/-- The backoff is withdrawn: the port requests the bus again, with the lock for a pair (R161, R162). -/
def MemoryPort.resume (p : MemoryPort) : MemoryPort :=
  if p.bus = .backedOff then { p with bus := .requesting, lock := p.inPair } else p

/-- BACKOFF_WITHDRAWN (R161). -/
def execBackoffWithdrawn (s : State) : Outcome := .next (s.setBus s.bus.resume)

/-! ### Delivering a transfer -/

/-- The hand's transfer has completed (R28). -/
def HandPhase.delivered (words : List Word) : HandPhase → HandPhase
  | .reading => .read words
  | .writing w => .written w
  | .entryMark w => .entryMarked w
  | .groupMark w => .groupMarked w
  | other => other

/-- The write-back engine's transfer has completed, or its mark pair has failed and leaves its mark unset (R168, R169). -/
def WriteBackPhase.delivered : WriteBackPhase → WriteBackPhase
  | .partHalf => .partHalfWritten
  | .entryMark => .entryMarked
  | .groupMark => .groupMarked
  | other => other

def State.deliverEntry (s : State) (words : List Word) : State :=
  s.setSweep { s.sweep with hand := s.sweep.hand.map fun h => { h with phase := h.phase.delivered words } }

def State.deliverWriteBack (s : State) : State := s.setWbPhase s.wb.phase.delivered

/-- A fetch burst's words are handed over, and the fetch's next payload burst is offered (R92, R165). It is offered before the port
makes its choice, and no requester ranks higher, so no part-half write comes between the payload bursts of one fetch, where R165 says
that some may: a DESIGN CHOICE (notes/assumptions/9.md). -/
def State.deliverFetch (s : State) (words : List Word) : State :=
  match s.fetch.current with
  | none => s
  | some f =>
    let g := { f with delivered := f.delivered ++ [words] }
    if f.headerTaken then s.offerNext g else s.setFetching (some g)

/-- A burst of the anchor read: the second follows the first, and then the block has been read (R179; when the second
is offered is a DESIGN CHOICE, notes/assumptions/9.md). -/
def State.deliverAnchor (s : State) (words : List Word) : State :=
  match s.cmd.inProgress with
  | some (.load before (.reading address got saved)) =>
    if got.isEmpty then
      (s.setCmd { s.cmd with inProgress := some (.load before (.reading address words saved)) }).offer .anchor
        (.read (address.toNat + 4 * Config.burstWords) Config.burstWords)
    else s.setCmd { s.cmd with inProgress := some (.load before (.read (got ++ words) saved)) }
  | _ => s

/-- The words of a completed transfer reach its requester. -/
def State.deliver (s : State) (r : Requester) (words : List Word) : State :=
  match r with
  | .fetch => s.deliverFetch words
  | .writeBack => s.deliverWriteBack
  | .entry => s.deliverEntry words
  | .night => s.nightBurstDone
  | .anchor => s.deliverAnchor words

/-! ### A word of the current transfer (R160 to R163) -/

/-- A requester's read has failed on its parity repeat (R163, R19, R26, R40, R102): the re-read is abandoned, the notice
dropped, the pass's entry passed by, a failed mark pair leaves its mark unset and the remaining steps go on. -/
def State.entryFailed (s : State) : State :=
  match s.sweep.hand with
  | none => s
  | some h =>
    match h.phase with
    | .reading =>
      if h.source = .notice then (s.setSweep { s.sweep with hand := none }).setNotices s.notices.tail
      else s.finishHand
    | _ => s.deliverEntry []

/-- The fetch fails and its item is dropped with NOT_SENT (R102). -/
def State.fetchFailed (s : State) : State :=
  match s.fetch.current with
  | none => s
  | some f => s.notSent f.elem.cell f.elem.beacon f.elem.place

/-- LOAD's anchor read fails: LOAD is refused (R163, R179). -/
def State.anchorFailed (s : State) : State :=
  match s.cmd.inProgress with
  | some (.load before _) => s.refuseLoad before
  | _ => s

/-- The failure is handed to the requester (R163). -/
def State.failed (s : State) (r : Requester) : State :=
  match r with
  | .fetch => s.fetchFailed
  | .writeBack => s.deliverWriteBack
  | .entry => s.entryFailed
  | .night => s
  | .anchor => s.anchorFailed

/-- A RESET that waited for the transfer takes effect; otherwise the step goes on (R166, R186). -/
def State.afterTransfer (s : State) (go : State → State) : State :=
  match s.cmd.inProgress with
  | some (.reset busy) => s.resetState busy
  | _ => (go s).conclude

/-- The transfer is complete: the port is idle, and the words reach the requester, unless a cut has left the transfer
without one. -/
def State.transferDone (s : State) (t : Transfer) (words : List Word) : State :=
  (s.setBus s.bus.release).afterTransfer fun u => if t.orphan then u else u.deliver t.requester words

/-- The transfer fails on parity: MEM_FAULT, the count, and the requester's handling (R163). -/
def State.transferFailed (s : State) (t : Transfer) : State :=
  (s.setBus s.bus.release).memFault.afterTransfer fun u => if t.orphan then u else u.failed t.requester

/-- The present word is read: every word of a read burst, and the first of a locked pair. -/
def Action.readsAt (a : Action) (i : Nat) : Bool :=
  match a with
  | .read _ _ => true
  | .write _ _ => false
  | .pair _ _ => decide (i = 0)

/-- The address of word i of a transfer; both words of a pair have the one address (R160, R162). -/
def Action.wordAddress (a : Action) (i : Nat) : Word :=
  match a with
  | .read start _ => busAddress (start + 4 * i)
  | .write start _ => busAddress (start + 4 * i)
  | .pair start _ => busAddress start

/-- What the present word writes, if it is a write: a pair writes the word as read with its one bit forced to one (R162). -/
def Action.writesAt (a : Action) (got : List Word) (i : Nat) : Option Word :=
  match a with
  | .read _ _ => none
  | .write _ words => some (wordOf words i)
  | .pair _ bit => if i = 0 then none else some (wordOf got 0 ||| BitVec.ofNat 32 (2 ^ bit))

/-- Shared memory takes a written word. -/
def State.storeWord (s : State) (t : Transfer) : State :=
  match t.action.writesAt s.bus.got s.bus.nextWord with
  | some w => s.setShared (writeWord s.shared (t.action.wordAddress s.bus.nextWord) w)
  | none => s

/-- A read word fails its parity check (R163). -/
def Transfer.wordBad (t : Transfer) (i : Nat) (data : Word) (parity : BitVec 4) : Bool :=
  t.checked && t.action.readsAt i && !parityGood data parity

/-- The words read, after the present one. -/
def Transfer.gather (t : Transfer) (i : Nat) (got : List Word) (data : Word) : List Word :=
  if t.action.readsAt i then got ++ [data] else got

/-- The port after a word that is not the last. A pair's repeat has passed once its read has (R163). -/
def MemoryPort.nextOf (p : MemoryPort) (t : Transfer) (data : Word) : MemoryPort :=
  { p with nextWord := p.nextWord + 1, got := t.gather p.nextWord p.got data,
           retry := p.retry && !t.action.isPair }

/-- The repeat of a transfer, from its first word (R163). -/
def MemoryPort.repeated (p : MemoryPort) : MemoryPort := { p with retry := true, nextWord := 0, got := [] }

/-- The memory side completes the present word of the transfer: it takes a written word, or returns a read word with its
parity (R160, R163). -/
def State.completeWord (s : State) (t : Transfer) (data : Word) (parity : BitVec 4) : State :=
  if t.wordBad s.bus.nextWord data parity then
    if s.bus.retry then s.transferFailed t else s.setBus s.bus.repeated
  else if s.bus.nextWord + 1 < t.action.words then (s.storeWord t).setBus (s.bus.nextOf t data)
  else (s.storeWord t).transferDone t (t.gather s.bus.nextWord s.bus.got data)

/-- The transfer whose words the port is issuing. -/
def MemoryPort.issuing (p : MemoryPort) : Option Transfer := if p.bus = .holding then p.current else none

/-- The mark of a burst's last word, on the word that the port is issuing (R160); a burst resumed after a backoff has it on the
same word (R161). -/
def MemoryPort.burstLast (p : MemoryPort) : Bool :=
  match p.issuing with
  | some t => decide (p.nextWord + 1 = t.action.words)
  | none => false

/-- WORD_COMPLETE (R160). -/
def execWordComplete (data : Word) (parity : BitVec 4) (s : State) : Outcome :=
  .next (match s.bus.issuing with
    | some t => s.completeWord t data parity
    | none => s)

/-- No target answers the present word: the transfer ends and the controller is FAULTED (R164). -/
def execTransferError (s : State) : Outcome :=
  .next (match s.bus.issuing with
    | some _ => s.enterFaulted.conclude
    | none => s)

end Sys2Proof.Machine
end

