-- ==== Sys2Proof/Machine/AirEvents.lean ====
section
/-! DEFINITION. The meanings of the beacon timer's events and of the events of a window: beacon event, plan point, slot starts
and ends, window end (R70, R99, R107 to R113, R119). An event that the state does not await leaves it unchanged. -/

namespace Sys2Proof.Machine

/-! ### Beacon event (R106 to R109, R155, R172) -/

/-- The next pair of timer events: one effective period on, the plan point lead_eff before it (R70, R106). -/
def Settings.nextSchedule (t : Settings) (last : Nat) : Schedule :=
  { nextBeacon := last + t.period, nextPlan := some (last + t.period - t.lead) }

/-- The beacon number goes up by one, the next events are scheduled, and no report of the new beacon has been taken. -/
def State.countBeacon (s : State) : State :=
  (s.setTimer { now := s.timer.now + 1,
                schedule := s.timer.schedule.map fun e => s.settings.nextSchedule e.nextBeacon }).setFlip
    { s.flip with reported := 0 }

/-- While a cell is QUIET each beacon event lowers its countdown by one (R155). -/
def RadioPort.countDown (p : RadioPort) : RadioPort :=
  if p.state = .quiet then { p with countdown := p.countdown - 1 } else p

/-- The sequencer takes up its plan with the beacon. -/
def Sequencer.takeUp (q : Sequencer) (plan : Plan) : Sequencer :=
  { q with coming := none, standing := some plan, position := .beaconSend, upNext := 0, slotsLeft := 0,
           obs := noObservations }

/-- What one cell does at a beacon event: it hands its beacon to its port as one SEND, or reports the beacon missed
(R107, R109). That a beacon handed over while a late SEND of the window before is in progress waits beside the holding buffer, and
not in it, is a DESIGN CHOICE (notes/assumptions/41.md). -/
def State.cellBeacon (b : BeaconNo) (notices : List FlipNotice) (s : State) (c : CellId) : State :=
  if s.nightOn ∧ (s.portAt c).state = .active then
    let plan := ((s.seqAt c).coming).getD (emptyPlan c b)
    let paused := decide (s.cmd.controller = .paused)
    (s.modSeq c fun q => q.takeUp plan).modPort c fun p =>
      p.issue (.send (beaconFrame s.settings c b paused plan notices)) (.beacon b)
  else s.beaconMissed c b

/-- A beacon event is awaited: the timer has one scheduled whose plan point has been taken, and every window has ended
(R68, R70). -/
def State.beaconDue (s : State) : Bool :=
  (match s.timer.schedule with
    | some e => e.nextPlan.isNone
    | none => false) && allCells.all fun c => (s.seqAt c).standing.isNone

/-- The beacon event: number, notices and the night record's snapshot first, then the countdowns and the four cells
(R107, R172). -/
def State.takeBeacon (s : State) : State :=
  let t := s.countBeacon
  let b := t.timer.now
  let notices := t.flipNotices b
  let u := t.nightDue false
  let v := u.setPort (tableMap RadioPort.countDown u.port)
  (forCells (State.cellBeacon b notices) v).conclude

/-- BEACON_EVENT (R107). -/
def execBeaconEvent (s : State) : Outcome := .next (if s.beaconDue then s.takeBeacon else s)

/-! ### Plan point (R70 to R72, R85, R91) -/

/-- The records of a plan's items become PLANNED (R72). -/
def planRecords (plan : Plan) (l : List DueRecord) : List DueRecord :=
  l.map fun r =>
    if r.isWaiting && plan.items.any (fun i => i.index == r.index) then { r with state := .planned } else r

/-- The fetch elements of a plan's DELIVER items, in plan order (R91). -/
def planElems (plan : Plan) (l : List DueRecord) : List FetchElem :=
  (plan.items.zip (List.range plan.items.length)).filterMap fun p =>
    if p.1.kind = .deliver then
      (l.find? fun r => r.index == p.1.index).map (fetchElemOf plan.cell plan.beacon p.2 p.1)
    else none

/-- A finished plan is applied to its due list and store, its DELIVER items join the fetch list, and the sequencer holds
it (R72, R85, R91, R97). -/
def State.handPlan (s : State) (c : CellId) (plan : Plan) : State :=
  let elems := planElems plan (s.dueAt c)
  let t := (s.modDue c (planRecords plan)).modStore c fun l => l ++ plan.items.flatMap PlanItem.claimed
  (t.setFetch { t.fetch with list := elems.foldl (fun l e => insertElem e l) t.fetch.list }).modSeq c
    fun q => { q with coming := some plan }

/-- The plan of one cell: by selection when the controller is RUNNING and the cell ACTIVE, otherwise empty (R71). -/
def State.planCell (b : BeaconNo) (s : State) (c : CellId) : State :=
  if s.cmd.controller = .running ∧ (s.portAt c).state = .active then
    s.handPlan c (makePlan s.settings c b (s.dueAt c) (s.storeAt c))
  else s.modSeq c fun q => { q with coming := some (emptyPlan c b) }

/-- A plan point is awaited. -/
def State.planDue (s : State) : Bool :=
  match s.timer.schedule with
  | some e => e.nextPlan.isSome
  | none => false

/-- A plan point: the plans of the next beacon are handed over to the four cells. In what order, and whether a fetch may begin
between two of them, R70, R72 and R91 leave open (R91's own instance begins a fetch of cell 2 before cell 0's plan has come): that
all four are handed over in one step, cell 0 first, before any fetch begins, is a DESIGN CHOICE
(notes/assumptions/31.md). -/
def State.takePlanPoint (s : State) : State :=
  let t := forCells (State.planCell (s.timer.now + 1)) s
  t.setTimer { t.timer with schedule := t.timer.schedule.map fun e => { e with nextPlan := none } }

/-- PLAN_POINT (R70). -/
def execPlanPoint (s : State) : Outcome := .next (if s.planDue then s.takePlanPoint else s)

/-! ### The slots of a window (R99, R110 to R113, R119) -/

/-- The sequencer awaits an item's slot start: its window runs and no item is in progress. -/
def Sequencer.betweenItems (q : Sequencer) : Bool :=
  decide (q.position = .before) || decide (q.position = .between)

/-- The item whose slot start comes next, if one is left. -/
def Sequencer.nextItem (q : Sequencer) : Option (Plan × PlanItem) :=
  match q.standing with
  | none => none
  | some plan => if q.betweenItems then (plan.items[q.upNext]?).map fun i => (plan, i) else none

/-- The bytes of the FILLED buffer that holds a segment of an item. -/
def bufferData (store : List SegBuffer) (number : Nat) : List Byte :=
  match store.find? fun b => b.number == number with
  | some b => b.data
  | none => []

/-- The segment frames of a DELIVER item, in ascending segment order, the last with the last-in-window flag (R111). -/
def segmentFrames (t : Settings) (store : List SegBuffer) (i : PlanItem) : List Frame :=
  ((i.needed.zip i.buffers).zip (List.range i.needed.length)).map fun p =>
    segmentFrame t i p.1.1 (decide (p.2 + 1 = i.needed.length)) (bufferData store p.1.2)

/-- The frames of a ready item (R111, R112). -/
def itemFrames (t : Settings) (store : List SegBuffer) (i : PlanItem) : List Frame :=
  if i.kind = .deliver then segmentFrames t store i else [controlFrame t i]

/-- An item passes with its whole cost idle (R99, R110). -/
def Sequencer.idleItem (q : Sequencer) : Sequencer := { q with position := .between, upNext := q.upNext + 1 }

/-- A ready item's frames are handed over, its record is IN_AIR and the items-sent count goes up (R111, R112). -/
def State.sendItem (s : State) (c : CellId) (plan : Plan) (i : PlanItem) : State :=
  let frames := itemFrames s.settings (s.storeAt c) i
  let place := (s.seqAt c).upNext
  let t := (s.modRecord c i.index fun r => if r.state = .planned then { r with state := .inAir } else r).modItem
    c plan.beacon place fun j => { j with status := .inAir }
  let u := t.modSeq c fun q =>
    { q with position := .inFrames, upNext := place + 1, slotsLeft := frames.length - 1,
             itemsSent := countUp q.itemsSent }
  u.modPort c fun p => p.handFrames plan.beacon frames

/-- A DELIVER item that is not ready has missed its fetch deadline: NOT_SENT, its buffers released, fetch-late counted
(R99). -/
def State.fetchLate (s : State) (c : CellId) (plan : Plan) : State :=
  (s.notSent c plan.beacon (s.seqAt c).upNext).modSeq c fun q => { q.idleItem with fetchLate := countUp q.fetchLate }

/-- An item's slot start (R99, R110). -/
def State.slotStart (s : State) (c : CellId) : State :=
  match (s.seqAt c).nextItem with
  | none => s
  | some (plan, i) =>
    match i.status with
    | .ready => s.sendItem c plan i
    | .unready => s.fetchLate c plan
    | .inAir | .dropped | .ended => s.modSeq c Sequencer.idleItem

/-- ITEM_SLOT_START (R99). -/
def execItemSlotStart (c : CellId) (s : State) : Outcome := .next (s.slotStart c).conclude

/-- A later segment slot of the item in progress starts: the SEND of the frame in the holding buffer falls due (R149). -/
def State.frameSlot (s : State) (c : CellId) : State :=
  let q := s.seqAt c
  if q.position = .inFrames ∧ 0 < q.slotsLeft then
    (s.modSeq c fun q => { q with slotsLeft := q.slotsLeft - 1 }).modPort c fun p => { p with due := p.due ++ [.held] }
  else s

/-- FRAME_SLOT_START (R149). -/
def execFrameSlotStart (c : CellId) (s : State) : Outcome := .next (s.frameSlot c).conclude

/-- Frames pulled before a reply slot starts belong to no slot (R113, R120). -/
def RadioPort.outsideSlot (p : RadioPort) : RadioPort :=
  { p with fifo := p.fifo.map fun f => { f with inSlot := false } }

/-- A reply slot starts: the observations are cleared, and a LISTEN for the length of the slot falls due (R113). -/
def State.replyStart (s : State) (c : CellId) : State :=
  let q := s.seqAt c
  match q.standing with
  | none => s
  | some plan =>
    if q.position = .inFrames ∧ q.slotsLeft = 0 then
      (s.modSeq c fun q => { q with position := .inReply, obs := noObservations }).modPort c fun p =>
        p.outsideSlot.issue (.listen (s.cellSettings c).rate.replySlot) (.window plan.beacon)
    else s

/-- REPLY_SLOT_START (R113). -/
def execReplySlotStart (c : CellId) (s : State) : Outcome := .next (s.replyStart c).conclude

/-- The frames still held at a reply slot's end are taken and judged (R113). -/
def State.takeSlotFrames (s : State) (c : CellId) : State :=
  let taken := slotFrames (s.portAt c).fifo
  (s.modSeq c fun q => taken.foldl (Sequencer.takeFrame s.settings.network) q).modPort c fun p =>
    { p with fifo := p.fifo.drop taken.length }.unblock

/-- The item of an ended slot: its result is reported, it is ended, and its buffers are FREE (R100, R119). -/
def State.endItem (s : State) (c : CellId) (plan : Plan) (i : PlanItem) (res : ItemResult) : State :=
  let place := (s.seqAt c).upNext - 1
  let t := (s.itemResult c i.index plan.beacon res).modItem c plan.beacon place fun j => { j with status := .ended }
  (t.releaseBuffers c i.buffers).modSeq c fun q => { q with position := .between, obs := noObservations }

/-- A reply slot ends (R113, R119). -/
def State.replyEnd (s : State) (c : CellId) : State :=
  let q := s.seqAt c
  match q.standing, q.currentItem with
  | some plan, some i =>
    if q.position = .inReply then
      let t := s.takeSlotFrames c
      t.endItem c plan i (t.seqAt c).obs.classify
    else s
  | _, _ => s

/-- REPLY_SLOT_END (R119). -/
def execReplySlotEnd (c : CellId) (s : State) : Outcome := .next (s.replyEnd c).conclude

/-- A window may end: it runs, no item is in progress and none is left to take up (R110). -/
def Sequencer.windowOver (q : Sequencer) : Bool :=
  match q.standing with
  | none => false
  | some plan => q.betweenItems && decide (plan.items.length ≤ q.upNext)

/-- WINDOW_END (R110, R122). -/
def execWindowEnd (c : CellId) (s : State) : Outcome :=
  .next (if (s.seqAt c).windowOver then (s.endWindow c).conclude else s)

end Sys2Proof.Machine
end

