-- ==== Sys2Proof/Machine/LinkEvents.lean ====
section
/-! DEFINITION. The meanings of the events of a transceiver link: restart countdown, answers and timeouts, frame-ready, frame
pulls, and frames taken from the receive FIFO (R118, R120, R147 to R157). -/

namespace Sys2Proof.Machine

/-! ### Restart countdown (R155) -/

/-- A QUIET cell whose countdown has reached 0 begins a restart probe. -/
def State.countdownOver (s : State) (c : CellId) : State :=
  let p := s.portAt c
  if p.state = .quiet ∧ p.countdown = 0 then
    s.modPort c fun q => q.beginProbe (.restart false) (s.cellSettings c)
  else s

/-- RESTART_COUNTDOWN_EXPIRY (R155). -/
def execRestartCountdownExpiry (c : CellId) (s : State) : Outcome := .next (s.countdownOver c).conclude

/-! ### Answers and timeouts (R147, R148) -/

/-- SEND and LISTEN move the run count; IDLE changes nothing and a probe's commands decide the probe (R148). -/
def LinkCommand.moves : LinkCommand → Bool
  | .send _ | .listen _ => true
  | .tune _ _ | .rest | .ident => false

/-- The command in progress has ended. -/
def State.endExchange (s : State) (c : CellId) : State := s.modPort c fun p => { p with exchange := none }

/-- An answered command of an ACTIVE cell sets its run count to 0 (R148). -/
def RadioPort.heard (p : RadioPort) (k : LinkCommand) : RadioPort :=
  if k.moves ∧ p.state = .active then { p with runCount := 0 } else p

/-- A link fault of an ACTIVE cell adds one to its run count (R148). -/
def RadioPort.faulted (p : RadioPort) (k : LinkCommand) : RadioPort :=
  if k.moves ∧ p.state = .active then { p with runCount := p.runCount + 1 } else p

/-- An ABORT that waits for a probe's command completes when that command has ended (R185). -/
def State.cutCommandOver (s : State) (c : CellId) : State :=
  if s.cmd.inProgress = some (.abortProbe c) then (s.finish .ok 0).nightIfLoaded else s

/-- What an answered command brings to the block it was issued for (R109, R148, R152). -/
def State.answered (s : State) (c : CellId) (k : LinkCommand) (purpose : Purpose) (kind : BitVec 8) : State :=
  match purpose with
  | .beacon b => s.beaconSent c b
  | .window _ => s
  | .probe =>
    match k with
    | .ident => s.identAnswered c kind
    | .tune _ _ => s.probeEnd c .present true
    | .send _ | .listen _ | .rest => s
  | .port => s
  | .orphan => s.cutCommandOver c

/-- What a link fault brings to the block the command was issued for (R109, R125, R152). -/
def State.reportFault (s : State) (c : CellId) (k : LinkCommand) (purpose : Purpose) : State :=
  match purpose with
  | .beacon b => s.beaconFault c b
  | .window b => s.portFault c b
  | .probe =>
    match k with
    | .tune _ _ => s.probeEnd c .noAnswer false
    | .ident | .send _ | .listen _ | .rest => s
  | .port => s
  | .orphan => s.cutCommandOver c

/-- The third consecutive link fault makes an ACTIVE cell QUIET (R155); a beacon that waits for its link is missed. -/
def State.quietCheck (s : State) (c : CellId) : State :=
  let p := s.portAt c
  if p.state = .active ∧ 3 ≤ p.runCount then (s.goQuiet c).missWaiting c else s

/-- A link fault: the holding buffer is emptied with what waits behind it, the run count goes up, the block is told, and
the third fault in a row makes the cell QUIET (R148, R149, R155). What waits for another block, a probe's IDENT or a later
beacon, waits on (R146). -/
def State.linkFault (s : State) (c : CellId) (k : LinkCommand) (purpose : Purpose) : State :=
  let t := s.modPort c fun p => { (p.dropFaulted purpose).faulted k with exchange := none }
  (t.reportFault c k purpose).quietCheck c

/-- An unanswered command: IDLE is issued once, an IDENT of a probe is one of its tries, a cut command gets no second issue,
and any other is issued a second time or is a link fault (R148, R149, R152). -/
def State.unanswered (s : State) (c : CellId) (k : LinkCommand) (purpose : Purpose) (second last : Bool)
    (seen : DataIn) : State :=
  if k = .rest then s.endExchange c
  else if k = .ident ∧ purpose = .probe then (s.endExchange c).identSilent c seen
  else if second then s.linkFault c k purpose
  else if last then (s.endExchange c).cutCommandOver c
  else s.modPort c fun p => { p with exchange := some (.command k purpose true false) }

/-- An answer word is taken within the port timeout. A word that does not answer the command leaves it unanswered; for an
IDENT try such a line was not stuck. -/
def State.takeAnswer (s : State) (c : CellId) (answer : Word) : State :=
  match (s.portAt c).exchange with
  | some (.command k purpose second last) =>
    if answers k answer then
      (s.modPort c fun p => { p.heard k with exchange := none }).answered c k purpose (answerKind answer)
    else s.unanswered c k purpose second last .varied
  | _ => s

/-- The port timeout runs out with no answer word taken. -/
def State.takeTimeout (s : State) (c : CellId) (seen : DataIn) : State :=
  match (s.portAt c).exchange with
  | some (.command k purpose second last) => s.unanswered c k purpose second last seen
  | _ => s

/-- LINK_ANSWER (R147). -/
def execLinkAnswer (c : CellId) (answer : Word) (s : State) : Outcome := .next (s.takeAnswer c answer).conclude

/-- LINK_TIMEOUT (R148). -/
def execLinkTimeout (c : CellId) (seen : DataIn) (s : State) : Outcome := .next (s.takeTimeout c seen).conclude

/-! ### Receiving (R150, R151) -/

/-- Frame-ready raised while the FIFO holds 2 frames and the port is not blocked is an overrun (R151). -/
def RadioPort.overruns (p : RadioPort) : Bool :=
  decide (p.state = .active) && decide (Config.fifoFrames ≤ p.fifo.length) && !p.blocked

/-- The announced frame is pulled to be discarded, the overrun is counted and the port is blocked (R151). -/
def RadioPort.overrunNow (p : RadioPort) : RadioPort :=
  { p with overrun := countUp p.overrun, blocked := true, due := p.due ++ [.overrunPull] }

/-- An overrun during a reply slot sets the slot's overrun observation (R151). -/
def Sequencer.seeOverrun (q : Sequencer) : Sequencer :=
  if q.position = .inReply then { q with obs := { q.obs with overrun := true } } else q

def State.raiseFrameReady (s : State) (c : CellId) : State :=
  if (s.portAt c).overruns then
    (s.modPort c fun p => { p.overrunNow with frameReady := true }).modSeq c Sequencer.seeOverrun
  else s.modPort c fun p => { p with frameReady := true }

/-- FRAME_READY (R150). -/
def execFrameReady (c : CellId) (s : State) : Outcome := .next (s.raiseFrameReady c).conclude

/-- A completed pull places its frame at the tail of the FIFO, or discards it when the cell is not ACTIVE or the pull was
an overrun's (R150, R151). The transceiver holds no frame any more. For a pull during which the cell has become or ceased to be
ACTIVE (an aborted LOAD can return a PROBING cell to ACTIVE) R150 does not say which: that the state at the pull's end decides is a
DESIGN CHOICE (notes/assumptions/42.md). -/
def RadioPort.pullDone (p : RadioPort) (frame : Frame) (inSlot discard : Bool) : RadioPort :=
  let q := { p with exchange := none, frameReady := false }
  if p.state = .active ∧ !discard then { q with fifo := p.fifo ++ [{ bytes := frame, inSlot := inSlot }] } else q

def State.takePull (s : State) (c : CellId) (lengthWord : Word) (words : List Word) : State :=
  match (s.portAt c).exchange with
  | some (.pull discard) =>
    s.modPort c fun p =>
      p.pullDone (pulledFrame lengthWord words) (decide ((s.seqAt c).position = .inReply)) discard
  | _ => s

/-- FRAME_PULL_DONE (R150). -/
def execFramePullDone (c : CellId) (lengthWord : Word) (words : List Word) (s : State) : Outcome :=
  .next (s.takePull c lengthWord words).conclude

/-- The sequencer takes the head frame of the FIFO and judges it; an overrun's block ends with the FIFO empty (R118, R120,
R151). -/
def State.takeHeadFrame (s : State) (c : CellId) : State :=
  match (s.portAt c).fifo with
  | [] => s
  | f :: rest =>
    (s.modSeq c fun q => q.takeFrame s.settings.network f).modPort c fun p => { p with fifo := rest }.unblock

/-- FIFO_FRAME_TAKEN (R118). -/
def execFifoFrameTaken (c : CellId) (s : State) : Outcome := .next (s.takeHeadFrame c).conclude

end Sys2Proof.Machine
end

