-- ==== Sys2Proof/Machine/Registers.lean ====
section
/-! DEFINITION. The meanings of the writes to NOTICE, ATTN and the other addresses of the register window (R23 to R25, R174,
R187). -/

namespace Sys2Proof.Machine

/-- A notice that arrives while the queue holds 8 is lost: NOTICE_LOST, the count, and a rescan request (R25). -/
def State.loseNotice (s : State) : State :=
  ((s.setCounts { s.counts with noticesLost := countUp s.counts.noticesLost }).raise .noticeLost).rescanRequest

/-- A write to NOTICE: ignored when no night runs, discarded for its range, queued, or lost (R23, R25). -/
def State.takeNotice (s : State) (first spanMinusOne : BitVec 16) : State :=
  if !s.nightOn then s
  else
    match noticeRange s.settings.entryCount first spanMinusOne with
    | none => s
    | some n =>
      if s.notices.length < Config.noticeCapacity then s.setNotices (s.notices ++ [n]) else s.loseNotice

/-- A write to ATTN clears each cause written as one (R174, R187). -/
def State.clearCauses (s : State) (value : Word) : State :=
  s.setCmd { s.cmd with attn := s.cmd.attn &&& ~~~(value.setWidth 9) }

/-- A write to ANCHOR is held for the next LOAD (R174). -/
def State.writeAnchor (s : State) (value : Word) : State := s.setCmd { s.cmd with anchor := value }

/-- A write to the register window, by its offset (11.3): STATUS, RESULT and the addresses between and beyond the six
registers ignore it (R174). -/
def State.writeRegister (s : State) (offset value : Word) : State :=
  if offset = 0x00 then s.writeAnchor value
  else if offset = 0x04 then (s.writeCommand (decodeCommand value)).conclude
  else if offset = 0x08 then s.takeNotice (value.extractLsb' 0 16) (value.extractLsb' 16 16)
  else if offset = 0x14 then s.clearCauses value
  else s

/-- NOTICE (R23). -/
def execNotice (first spanMinusOne : BitVec 16) (s : State) : Outcome := .next (s.takeNotice first spanMinusOne)

/-- ATTN_CLEAR (R187). -/
def execAttnClear (value : Word) (s : State) : Outcome := .next (s.clearCauses value)

/-- OTHER_REGISTER_WRITE (R174). -/
def execOtherRegisterWrite (offset value : Word) (s : State) : Outcome := .next (s.writeRegister offset value)

end Sys2Proof.Machine
end

