-- ==== Sys2Proof/Machine/Dispatch.lean ====
section
/-! DEFINITION. exec: one arm per command and event of the opcode table, each a direct call of its meaning. -/

namespace Sys2Proof.Machine

def exec (i : Instr) (s : State) : Host.Outcome State Fault Refusal :=
  match i with
  | .powerOn => Sys2Proof.Machine.execPowerOn s
  | .resetPin => Sys2Proof.Machine.execResetPin s
  | .load => Sys2Proof.Machine.execLoad s
  | .start => Sys2Proof.Machine.execStart s
  | .pause => Sys2Proof.Machine.execPause s
  | .resume => Sys2Proof.Machine.execResume s
  | .stop => Sys2Proof.Machine.execStop s
  | .abort => Sys2Proof.Machine.execAbort s
  | .reset => Sys2Proof.Machine.execReset s
  | .rescan => Sys2Proof.Machine.execRescan s
  | .flipAt a b => Sys2Proof.Machine.execFlipAt a b s
  | .cancelFlip a => Sys2Proof.Machine.execCancelFlip a s
  | .cellOn a => Sys2Proof.Machine.execCellOn a s
  | .cellOff a => Sys2Proof.Machine.execCellOff a s
  | .setAttnMask a => Sys2Proof.Machine.execSetAttnMask a s
  | .badCommand a b => Sys2Proof.Machine.execBadCommand a b s
  | .cmdLost a => Sys2Proof.Machine.execCmdLost a s
  | .notice a b => Sys2Proof.Machine.execNotice a b s
  | .attnClear a => Sys2Proof.Machine.execAttnClear a s
  | .otherRegisterWrite a b => Sys2Proof.Machine.execOtherRegisterWrite a b s
  | .beaconEvent => Sys2Proof.Machine.execBeaconEvent s
  | .planPoint => Sys2Proof.Machine.execPlanPoint s
  | .itemSlotStart a => Sys2Proof.Machine.execItemSlotStart a s
  | .frameSlotStart a => Sys2Proof.Machine.execFrameSlotStart a s
  | .replySlotStart a => Sys2Proof.Machine.execReplySlotStart a s
  | .replySlotEnd a => Sys2Proof.Machine.execReplySlotEnd a s
  | .windowEnd a => Sys2Proof.Machine.execWindowEnd a s
  | .restartCountdownExpiry a => Sys2Proof.Machine.execRestartCountdownExpiry a s
  | .linkAnswer a b => Sys2Proof.Machine.execLinkAnswer a b s
  | .linkTimeout a b => Sys2Proof.Machine.execLinkTimeout a b s
  | .frameReady a => Sys2Proof.Machine.execFrameReady a s
  | .framePullDone a b c => Sys2Proof.Machine.execFramePullDone a b c s
  | .fifoFrameTaken a => Sys2Proof.Machine.execFifoFrameTaken a s
  | .busGrant => Sys2Proof.Machine.execBusGrant s
  | .wordComplete a b => Sys2Proof.Machine.execWordComplete a b s
  | .backoff => Sys2Proof.Machine.execBackoff s
  | .backoffWithdrawn => Sys2Proof.Machine.execBackoffWithdrawn s
  | .transferError => Sys2Proof.Machine.execTransferError s
  | .entryReaderTake => Sys2Proof.Machine.execEntryReaderTake s
  | .entryReadDone => Sys2Proof.Machine.execEntryReadDone s
  | .sweepPartHalfWritten => Sys2Proof.Machine.execSweepPartHalfWritten s
  | .sweepMarkSet => Sys2Proof.Machine.execSweepMarkSet s
  | .fetchStart => Sys2Proof.Machine.execFetchStart s
  | .fetchHeaderRead => Sys2Proof.Machine.execFetchHeaderRead s
  | .fetchBurstRead => Sys2Proof.Machine.execFetchBurstRead s
  | .writeBackStart => Sys2Proof.Machine.execWriteBackStart s
  | .writeBackPartHalfWritten => Sys2Proof.Machine.execWriteBackPartHalfWritten s
  | .writeBackMarkSet => Sys2Proof.Machine.execWriteBackMarkSet s
  | .nightRecordWriteDone => Sys2Proof.Machine.execNightRecordWriteDone s
  | .anchorReadDone => Sys2Proof.Machine.execAnchorReadDone s

end Sys2Proof.Machine
end

