-- ==== Sys2Proof/Machine/Step.lean ====
section
/-! DEFINITION. The step: the command at the front of the queue is taken and run; on an empty queue the part idles. -/

namespace Sys2Proof.Machine

/-- One step. The queue is the model's own (notes/assumptions/1.md): what the outside does to the part, in the order in
which it does it. -/
def step (s : State) : Host.Outcome State Fault Refusal :=
  match s.pending with
  | [] => .next s
  | i :: rest => exec i (s.setPending rest)

/-- The command that a word of the opcode table spells, put at the front of the queue; the table gives no row any bits, so
no word spells one (notes/assumptions/2.md). -/
def State.withFetchWord (s : State) (nbits w : Nat) : State :=
  match decodeTableWord nbits w with
  | some i => s.setPending (i :: s.pending)
  | none => s

end Sys2Proof.Machine
end

