-- ==== Sys2Proof/Safety.lean ====
section
/-! DEFINITION. What the statements say of a state: settled, free for a command, within its capacities, and a controller state
that fits the command in progress and the beacon timer; and of two states: what a retirement, a rescan request, the end of a
drain, an evaluation, an item result, a dropped item, a flip, a beacon's report or a cut has made of the first. -/

namespace Sys2Proof.Machine

/-! ### Settled: nothing that can begin is left waiting (R146, R165, R175) -/

/-- A free link has nothing due, nothing to pull and no clock idle level to take over, a probe's apart; behind a command an
announced frame's pull is noted (R146, R150). -/
def RadioPort.settled (p : RadioPort) : Bool :=
  match p.exchange with
  | none => p.due.isEmpty && !p.canPull && (p.clockNext.isNone || p.probe.isSome)
  | some (.command _ _ _ _) => !p.canPull || p.due.contains .pull
  | some (.pull _) => true

/-- A port that is idle with no transfer has no requester waiting (R165). -/
def MemoryPort.settled (p : MemoryPort) : Bool :=
  !(decide (p.bus = .idle) && p.current.isNone) || p.highest.isNone

/-- A command waits only behind one in progress, no drain that is over waits for its night record write, every link is settled,
and so is the memory port. -/
def State.settled (s : State) : Bool :=
  (s.cmd.inProgress.isSome || s.cmd.waiting.isNone) && !s.drainDue &&
    allCells.all (fun c => (s.portAt c).settled) && s.bus.settled

/-- The command unit is free: no command in progress and none waiting, in a settled state. -/
def State.free (s : State) : Bool := s.cmd.inProgress.isNone && s.cmd.waiting.isNone && s.settled

/-- A settled state in which no command waits behind the one in progress. -/
def State.quiet (s : State) : Bool := s.cmd.waiting.isNone && s.settled

/-- A requester has asked the memory port for a transfer: it waits, or the port has begun it and it has its requester. -/
def MemoryPort.asked (p : MemoryPort) (r : Requester) (a : Action) : Prop :=
  p.waitingOf r = some a ∨
    ∃ checked, p.current = some { requester := r, action := a, orphan := false, checked := checked }

/-- A link command stands on a link: its exchange is in progress at the first issue, or it waits for the link. -/
def RadioPort.issued (p : RadioPort) (c : LinkCommand) (purpose : Purpose) : Prop :=
  p.exchange = some (.command c purpose false false) ∨ Due.command c purpose ∈ p.due

/-- A cell's link is free and nothing is due on it. -/
def RadioPort.idle (p : RadioPort) : Bool :=
  p.exchange.isNone && p.due.isEmpty && !p.canPull && p.clockNext.isNone

/-! ### Capacities (R24, R27, R42) -/

/-- At most 8 notices, 4,096 re-read indices held once each, and 1,024 records in each due list. -/
def State.withinCapacity (s : State) : Bool :=
  decide (s.notices.length ≤ Config.noticeCapacity) && decide (s.sweep.reread.length ≤ Config.rereadCapacity) &&
    decide s.sweep.reread.Nodup && allCells.all fun c => decide ((s.dueAt c).length ≤ Config.dueCapacity)

/-! ### The controller, the command in progress and the beacon timer (R106, R178, R183) -/

/-- The states LOAD is taken in (R178). -/
def ControllerState.takesLoad (c : ControllerState) : Bool :=
  decide (c = .unloaded) || decide (c = .loaded) || decide (c = .faulted)

/-- Which controller state goes with a command in progress (R178, R180, R184, R185). -/
def Running.fits (c : ControllerState) : Running → Bool
  | .load before (.recording _) => before.takesLoad && decide (c = .loaded)
  | .load before _ => before.takesLoad && decide (c = .loading)
  | .stop _ => decide (c = .stopping)
  | .abort _ _ | .abortProbe _ => decide (c = .loaded)
  | .cellOn _ => decide (c = .loaded) || decide (c = .running) || decide (c = .paused)
  | .reset _ => decide (c = .unloaded)

/-- In LOADING and STOPPING a command is always in progress (R183), a command in progress fits the controller state, and the
beacon timer has an event scheduled exactly while a night runs (R106). -/
def State.controllerFits (s : State) : Bool :=
  (match s.cmd.inProgress with
    | some r => r.fits s.cmd.controller
    | none => decide (s.cmd.controller ≠ .loading) && decide (s.cmd.controller ≠ .stopping)) &&
    (s.timer.schedule.isSome == s.nightOn)

/-! ### Retirements and night record writes, as the statements say them -/

/-- The indices of the records that satisfy a test, cell 0 first, each cell's in due-list order (R36, R65). -/
def State.inListOrder (s : State) (p : DueRecord → Bool) : List Nat :=
  allCells.flatMap fun c => ((s.dueAt c).filter p).map (·.index)

/-- Between s and t the records that satisfy a test have retired with an outcome and joined the tail of the write-back list
(R63). -/
def State.retiresInto (s t : State) (p : DueRecord → Bool) (outcome : EntryState) : Prop :=
  (∀ c : CellId, t.dueAt c = (s.dueAt c).map fun r => if p r then r.retire outcome else r) ∧
    t.wb = { s.wb with list := s.wb.list ++ s.inListOrder p }

/-- A command waits for a night record write that is in progress or for the waiting snapshot (R180, R184, R185). -/
def NightWriter.awaited (n : NightWriter) : Bool :=
  n.waiting.any (·.awaited) || n.current.any (·.snapshot.awaited)

/-- Between s and t a night record write has fallen due: it begins, or its snapshot waits (R172). -/
def State.recordDue (s t : State) : Prop :=
  (s.night.current = none → t.night.writeCount = s.night.writeCount + 1 ∧ t.night.current.isSome = true) ∧
    (s.night.current.isSome = true →
      t.night = { s.night with waiting := t.night.waiting } ∧ t.night.waiting.isSome = true)

/-- What a step that has made u of the state before it answers: u, or, when that has ended the drain of a STOP, u with the night
record write of STOP due (R65, R172, R184). -/
def State.drainedInto (u t : State) : Prop :=
  if u.cmd.inProgress = some (.stop false) ∧ u.cmd.controller = .stopping ∧
      (∀ c : CellId, u.dueAt c = [] ∧ (u.seqAt c).standing = none) ∧ u.wb.list = [] ∧ u.sweep.hand = none then
    t = { u with cmd := { u.cmd with inProgress := some (.stop true) }, night := t.night, bus := t.bus } ∧
      u.recordDue t ∧ t.night.awaited = true
  else t = u

/-! ### Passes, as the statements say them -/

/-- How a rescan request that comes in s is taken in t, by what is live: under a live opening pass only the rescan-pending flag
is set; a rescan begins when nothing is live, in place of a refill, or in the empty slot under a changeover, and a live rescan
is given a full circle; to begin or to extend one retires every WAITING record with QUEUED, in list order, and clears the
deferred flags (R31, R36, R37). -/
def State.takesRescan (s t : State) : Prop :=
  let begun : Pass := { kind := .rescan, cursor := 0, remaining := s.settings.entryCount }
  let circle := s.settings.entryCount + if s.sweep.visiting .rescan then 1 else 0
  (s.sweep.live .opening = true →
    t.sweep = { s.sweep with rescanPending := true } ∧ t.due = s.due ∧ t.deferred = s.deferred ∧ t.wb = s.wb) ∧
  (s.sweep.live .opening = false →
    s.retiresInto t DueRecord.isWaiting .queued ∧ ∀ c : CellId, cellAt t.deferred c = false) ∧
  (s.sweep.anyLive = false → t.sweep = { s.sweep with running := some begun }) ∧
  (∀ p, s.sweep.running = some p → s.sweep.suspended = none →
    (p.kind = .refill → t.sweep = { s.sweep with running := some begun }) ∧
    (p.kind = .changeover → t.sweep = { s.sweep with suspended := some begun }) ∧
    (p.kind = .rescan → t.sweep = { s.sweep with running := some { p with remaining := circle } })) ∧
  ∀ p q, s.sweep.running = some p → p.kind = .changeover → s.sweep.suspended = some q →
    (q.kind = .refill → t.sweep = { s.sweep with suspended := some begun }) ∧
    (q.kind = .rescan → t.sweep = { s.sweep with suspended := some { q with remaining := circle } })

/-- A refill pass has begun: all four deferred flags are cleared (R32, R37). -/
def State.refilling (s : State) : State :=
  { s with sweep := { s.sweep with running := some { kind := .refill, cursor := 0, remaining := s.settings.entryCount } },
           deferred := Vector.replicate 4 false }

/-- A cell whose deferred flag is set has a list of 768 or fewer records (R33, R37). -/
def State.hasRefillCause (s : State) : Prop :=
  ∃ c : CellId, cellAt s.deferred c = true ∧ (s.dueAt c).length ≤ 768

/-- The refill check on u has made t: a refill begins when a night runs, no pass is live and a cell asks for one (R32, R33). -/
def State.refillCheckedInto (u t : State) : Prop :=
  (u.nightOn = true ∧ u.sweep.anyLive = false ∧ u.hasRefillCause → t = u.refilling) ∧
  (¬(u.nightOn = true ∧ u.sweep.anyLive = false ∧ u.hasRefillCause) → t = u)

/-- How a changeover request for group g that comes in s is taken in t: a live changeover pass has the group in its set and, in
whichever slot it stands, goes a full circle from its cursor; when none is live, a changeover pass begins with the group as its set
and the running pass moves to the suspended slot as it stands. With no night running there is no request (R29, R30). -/
def State.takesChangeover (s t : State) (g : GroupId) : Prop :=
  let w := s.sweep
  let circle := s.settings.entryCount + if w.visiting .changeover then 1 else 0
  let full := fun (p : Pass) => if p.kind = .changeover then { p with remaining := circle } else p
  (s.nightOn = false → t.sweep = w) ∧
  (s.nightOn = true → w.live .changeover = true → t.sweep = { w with
    groupSet := if g ∈ w.groupSet then w.groupSet else w.groupSet ++ [g],
    running := w.running.map full, suspended := w.suspended.map full }) ∧
  (s.nightOn = true → w.live .changeover = false → t.sweep = { w with
    running := some { kind := .changeover, cursor := 0, remaining := s.settings.entryCount },
    suspended := w.running, groupSet := [g] })

/-- Between u and v an entry index has been handed to the re-read list, which holds it once; a full list asks for a rescan in its
place, while a night runs (R27, R29). -/
def State.handsOn (u v : State) (index : Nat) : Prop :=
  let listed := u.sweep.reread
  (listed.length < 4096 → v = { u with
    sweep := { u.sweep with reread := if index ∈ listed then listed else listed ++ [index] } }) ∧
  (4096 ≤ listed.length → u.nightOn = false → v = u) ∧
  (4096 ≤ listed.length → u.nightOn = true → u.takesRescan v ∧
    v = { u with sweep := v.sweep, due := v.due, deferred := v.deferred, wb := v.wb })

/-! ### Item results, dropped items and ended plans, as the statements say them -/

/-- A list in which a record has taken the place of the one with its index. -/
def withRecord (l : List DueRecord) (q : DueRecord) : List DueRecord := l.map fun r => if r.index = q.index then q else r

/-- Between s and t the record of cell c that steps 1 to 5 of R52 have left as `after` has gone through steps 6 and 7. One with an
outcome retires, a pending refresh becoming the re-evaluate flag; one still working is WAITING again, a pending refresh handing its
index to the re-read list. Under STOPPING a working record retires as DEFERRED and a pending refresh is dropped. Nothing else
changes (R52, R63, R65). -/
def State.settlesResult (s t : State) (c : CellId) (after : DueRecord) : Prop :=
  let settled : DueRecord := { after with refreshPending := false }
  let holding := fun (q : DueRecord) => ({ s with due := cellPut s.due c (withRecord (s.dueAt c) q) } : State)
  let retires := fun (q : DueRecord) (o : EntryState) =>
    { holding { q with outcome := some o, state := .retiring, lateAtFlip := false } with
      wb := { s.wb with list := s.wb.list ++ [after.index] } }
  (s.stopping = true → t = { retires settled (after.outcome.getD .deferred) with drained := s.drained + 1 }) ∧
  (s.stopping = false → ∀ o, after.outcome = some o →
    t = retires { settled with reEvaluate := after.reEvaluate || after.refreshPending } o) ∧
  (s.stopping = false → after.outcome = none →
    let works := holding { settled with state := .waiting }
    (after.refreshPending = false → t = works) ∧ (after.refreshPending = true → works.handsOn t after.index))

/-- Between s and t item i at a place of a plan of cell c and beacon b has been dropped: it is marked, its buffers are FREE, and its
fetch is abandoned or its element removed; words still to come for an abandoned fetch have no requester (R86, R92, R100, R101). -/
def State.dropsItem (s t : State) (c : CellId) (b : BeaconNo) (place : Nat) (i : PlanItem) : Prop :=
  let its := fun (x : FetchElem) => x.cell = c ∧ x.beacon = b ∧ x.place = place
  let marked := fun (p : Plan) =>
    if p.beacon = b then { p with items := p.items.modify place fun j => { j with status := .dropped } } else p
  let q := s.seqAt c
  t = { s with
    seq := cellPut s.seq c { q with coming := q.coming.map marked, standing := q.standing.map marked },
    store := cellPut s.store c ((s.storeAt c).filter fun x => !i.buffers.contains x.number),
    fetch := { list := s.fetch.list.filter fun x => !decide (its x), current := t.fetch.current }, bus := t.bus } ∧
  (∀ f, s.fetch.current = some f → its f.elem → t.fetch.current = none ∧ t.bus = { s.bus with
    fetchReq := none,
    current := s.bus.current.map fun tr => if tr.requester = .fetch then { tr with orphan := true } else tr }) ∧
  ((∀ f, s.fetch.current = some f → ¬its f.elem) → t.fetch.current = s.fetch.current ∧ t.bus = s.bus)

/-- Between s and t an item of the plan of beacon b has ended as NOT_SENT: a live one is dropped, and its record, if it is PLANNED or
IN_AIR, has its item result; one that has ended before is left alone (R52, R60, R86). -/
def State.endsNotSent (s t : State) (c : CellId) (b : BeaconNo) (place : Nat) : Prop :=
  (∀ i, s.itemAt c b place = some i → i.live = true → ∃ u : State, s.dropsItem u c b place i ∧
    (∀ r, s.recordIn c i.index = some r →
      (r.state = .planned ∨ r.state = .inAir →
        u.settlesResult t c (r.afterResult s.settings (s.groupDone r.group) b .notSent)) ∧
      (r.state = .waiting ∨ r.state = .retiring → t = u)) ∧
    (s.recordIn c i.index = none → t = u)) ∧
  ((∀ i, s.itemAt c b place = some i → i.live = false) → t = s)

/-- The same for some places of a plan, one after the other. -/
def State.endsItems (c : CellId) (b : BeaconNo) : List Nat → State → State → Prop
  | [], s, t => t = s
  | place :: rest, s, t => ∃ u : State, s.endsNotSent u c b place ∧ State.endsItems c b rest u t

/-- Between s and t every item of a plan that was live has ended as NOT_SENT, in plan order, which is a DESIGN CHOICE
(notes/assumptions/35.md). -/
def State.endsPlan (s t : State) (c : CellId) (plan : Plan) : Prop :=
  State.endsItems c plan.beacon (List.range plan.items.length) s t

/-! ### Flips and the reports of a beacon, as the statements say them -/

/-- Between s and t the flip of one group has been taken for beacon b: ANNOUNCED with that B, the group becomes DONE with FLIP raised,
its records change, and a changeover is requested; CANCELLING, it returns to OPEN; any other group stays as it is (R134, R135). -/
def State.flipsGroup (b : BeaconNo) (s t : State) (g : GroupId) : Prop :=
  let r := s.groupRec g
  let becomes := fun (state : GroupState) =>
    ({ s.flip with groups := groupPut s.flip.groups g { r with state := state } } : FlipUnit)
  let changed := s.flipRecords (BitVec.ofNat 4 (g.val + 1))
  (r.flipBeacon = b → r.state = .announced →
    t = { s with cmd := { s.cmd with attn := s.cmd.attn ||| 16 }, flip := becomes .done, sweep := t.sweep,
                 due := changed.due, wb := changed.wb, drained := changed.drained } ∧
    s.takesChangeover t g) ∧
  (r.flipBeacon = b → r.state = .cancelling → t = { s with flip := becomes .opened }) ∧
  (r.flipBeacon ≠ b ∨ r.state = .opened ∨ r.state = .done → t = s)

/-- The same for several groups, one after the other. -/
def State.flipsGroups (b : BeaconNo) : List GroupId → State → State → Prop
  | [], s, t => t = s
  | g :: rest, s, t => ∃ u : State, s.flipsGroup b u g ∧ State.flipsGroups b rest u t

/-- Between s and t a cell's report of beacon b has been taken. A miss adds the cell to the gap set of every group whose announcement
spans the beacon, and the report that completes the four for the present beacon is the flip of its groups, in ascending order
(R133, R134). -/
def State.takesReport (s t : State) (c : CellId) (b : BeaconNo) (sent : Bool) : Prop :=
  let spans := fun (r : GroupRecord) => (r.state = .announced ∨ r.state = .cancelling) ∧
    (b - r.announce).toNat < 2 ^ 31 ∧ b ≠ r.announce ∧ (r.flipBeacon - b).toNat < 2 ^ 31
  let gapped := fun (r : GroupRecord) =>
    if sent = false ∧ spans r then { r with gap := r.gap ||| BitVec.ofNat 4 (2 ^ c.val) } else r
  let reported := s.flip.reported ||| BitVec.ofNat 4 (2 ^ c.val)
  ∃ u : State, u = { s with flip := u.flip } ∧ (∀ g : GroupId, u.groupRec g = gapped (s.groupRec g)) ∧
    (b ≠ s.timer.now → u.flip.reported = s.flip.reported ∧ t = u) ∧
    (b = s.timer.now → u.flip.reported = reported ∧ (reported ≠ 0xF → t = u) ∧
      (reported = 0xF → State.flipsGroups b allGroups u t))

/-- Between s and t a cell has missed beacon b: its report is taken, the items of the plan made for the beacon end as NOT_SENT, and
the plan is gone (R86, R107, R109). -/
def State.missesBeacon (b : BeaconNo) (s t : State) (c : CellId) : Prop :=
  ∃ u : State, s.takesReport u c b false ∧
    ((s.seqAt c).coming = none → t = u) ∧
    ∀ plan, (s.seqAt c).coming = some plan → ∃ v : State, u.endsPlan v c plan ∧
      t = { v with seq := cellPut v.seq c { v.seqAt c with coming := none } }

/-- The same for several cells, one after the other. -/
def State.missBeacons (b : BeaconNo) : List CellId → State → State → Prop
  | [], s, t => t = s
  | c :: rest, s, t => ∃ u : State, State.missesBeacon b s u c ∧ State.missBeacons b rest u t

/-- Between s and t a beacon that a cell had taken up has gone unsent: its report is taken as missed, the items of its plan end as
NOT_SENT, and the plan stands no more (R86, R107, R109). -/
def State.losesBeacon (s t : State) (c : CellId) (b : BeaconNo) (plan : Plan) : Prop :=
  ∃ u v : State, s.takesReport u c b false ∧ u.endsPlan v c plan ∧
    t = { v with seq := cellPut v.seq c { v.seqAt c with
      standing := none, position := .noWindow, upNext := 0, slotsLeft := 0,
      obs := { good := none, damaged := false, overrun := false } } }

/-- What a link fault of a SEND or LISTEN leaves of its cell: nothing held and nothing behind it; OFF, or QUIET with countdown 16 and
restart count 0, with the FIFO empty and, from ACTIVE, one IDLE; or the state it had, an ACTIVE cell with its run count one higher.
The other ports stay (R122, R148, R149, R150, R154, R155). -/
def State.faultLeaves (s t : State) (c : CellId) (off quiet : Prop) : Prop :=
  let p := s.portAt c
  let q := t.portAt c
  (∀ d : CellId, d ≠ c → t.portAt d = s.portAt d) ∧ q.holding = none ∧ q.behind = [] ∧
  (off → q.state = .off ∧ (t.seqAt c).offPending = false) ∧
  (quiet → q.state = .quiet ∧ q.countdown = 16 ∧ q.restartCount = 0 ∧ (t.seqAt c).offPending = false) ∧
  (off ∨ quiet → q.fifo = [] ∧ (p.state = .active → q.issued .rest .port)) ∧
  (¬off → ¬quiet → q.state = p.state ∧ q.runCount = (if p.state = .active then p.runCount + 1 else p.runCount) ∧
    (t.seqAt c).offPending = (s.seqAt c).offPending)

/-! ### The entry in hand, as the statements say it -/

/-- Between s and t the verdict on the entry in hand is carried out. A part half that does not change ends the visit with no
write; one that changes is asked to be written. An item is admitted at the tail of its class when there is room, with QUEUED;
otherwise the entry is DEFERRED and its cell's deferred flag set (R16, R17, R37, R44, R47). `read` is the part half as read. -/
def State.carriesOut (s t : State) (h : InHand) (read : PartHalf) (e : Entry) (v : Verdict) : Prop :=
  let written := fun (state : EntryState) => ({ e.part with state := state, outcome := e.host.requested } : PartHalf)
  let writes := fun (u : State) (state : EntryState) =>
    if written state = read then u.finishHand.drainedInto t
    else
      t = { u with
          sweep := { u.sweep with hand := some { h with
            phase := .writing { written := state, reportable := reportable read (written state), poll := none } } },
          bus := t.bus } ∧
        t.bus.asked .entry
          (.write (s.settings.directoryBase.toNat + 32 * h.index + 16) (partHalfWords (written state)))
  match v with
  | .state state => writes s state
  | .item kind mode =>
    if s.nightOn = true ∧ (s.dueAt e.host.cell).length < 1024 then
      writes { s with due := cellPut s.due e.host.cell (joinClass (s.dueAt e.host.cell)
        (newRecord s.settings h.index e kind mode (s.timer.now + 1))) } .queued
    else writes { s with deferred := cellPut s.deferred e.host.cell true } .deferred

/-! ### The end of a transfer, as the statements say it -/

/-- The idle port p has made its choice: the waiting transfer of highest rank, if there is one, has begun (R160, R162, R165). -/
def MemoryPort.chooses (p q : MemoryPort) (parity : Bool) : Prop :=
  ((∀ r, p.waitingOf r = none) → q = p) ∧
  ∀ ahead r behind a, [Requester.fetch, .writeBack, .entry, .night, .anchor] = ahead ++ r :: behind →
    (∀ x ∈ ahead, p.waitingOf x = none) → p.waitingOf r = some a →
    q = { p.setWaiting r none with
      bus := .requesting, current := some { requester := r, action := a, orphan := false, checked := parity },
      nextWord := 0, got := [], lock := a.isPair, retry := false }

/-- What a step that has made u, with the memory port idle, answers: the end of a drain is noticed, and the port makes its
choice. -/
def State.settlesInto (u t : State) : Prop :=
  ∃ v : State, u.drainedInto v ∧ t = { v with bus := t.bus } ∧ v.bus.chooses t.bus v.settings.parity

/-- Between s and u the words of a completed transfer have reached their requester: the entry reader, the sweep engine and the
write-back engine go on to their next step, a fetch keeps the words and offers its next payload burst, a night record write offers
its next burst, is complete, or ends where ABORT has cut it, and LOAD offers its second burst or has its block (R28, R92, R165,
R168, R172, R173, R179). -/
def State.delivers (s u : State) (r : Requester) (words : List Word) : Prop :=
  match r with
  | .entry => ∀ h w, s.sweep.hand = some h →
    let goes := fun (phase : HandPhase) =>
      u = { s with sweep := { s.sweep with hand := some { h with phase := phase } } }
    (h.phase = .reading → goes (.read words)) ∧ (h.phase = .writing w → goes (.written w)) ∧
    (h.phase = .entryMark w → goes (.entryMarked w)) ∧ (h.phase = .groupMark w → goes (.groupMarked w))
  | .writeBack =>
    let goes := fun (phase : WriteBackPhase) => u = { s with wb := { s.wb with phase := phase } }
    (s.wb.phase = .partHalf → goes .partHalfWritten) ∧ (s.wb.phase = .entryMark → goes .entryMarked) ∧
    (s.wb.phase = .groupMark → goes .groupMarked)
  | .fetch => ∀ f, s.fetch.current = some f →
    let g := { f with delivered := f.delivered ++ [words] }
    (f.headerTaken = false ∨ f.toOffer = [] → u = { s with fetch := { s.fetch with current := some g } }) ∧
    ∀ b rest, f.headerTaken = true → f.toOffer = b :: rest → u = { s with
      fetch := { s.fetch with current := some { g with toOffer := rest, offered := f.offered ++ [b] } },
      bus := { s.bus with fetchReq := some (.read (f.elem.reference.toNat + 16 + b.offset) b.words) } }
  | .night => ∀ w, s.night.current = some w →
    (w.cut = false → w.offered < w.snapshot.words.length → u = { s with
      night := { s.night with current := some { w with offered := w.offered + 8 } },
      bus := { s.bus with nightReq := some (.write (w.snapshot.base.toNat + 4 * w.offered)
        ((w.snapshot.words.drop w.offered).take 8)) } }) ∧
    (w.cut = false → w.snapshot.words.length ≤ w.offered →
      u = { s with night := { s.night with current := some { w with complete := true } } }) ∧
    (w.cut = true → s.night.waiting = none → u = { s with night := { s.night with current := none } }) ∧
    ∀ snap, w.cut = true → s.night.waiting = some snap →
      let record := nightRecordWords (s.night.writeCount + 1) snap.words
      u = { s with
        night := { writeCount := s.night.writeCount + 1, waiting := none,
                   current := some { snapshot := { snap with words := record }, offered := 8, complete := false,
                                     cut := false } },
        bus := { s.bus with nightReq := some (.write snap.base.toNat (record.take 8)) } }
  | .anchor => ∀ before address got saved,
    s.cmd.inProgress = some (.load before (.reading address got saved)) →
    (got = [] → u = { s with
      cmd := { s.cmd with inProgress := some (.load before (.reading address words saved)) },
      bus := { s.bus with anchorReq := some (.read (address.toNat + 32) 8) } }) ∧
    (got ≠ [] → u = { s with cmd := { s.cmd with inProgress := some (.load before (.read (got ++ words) saved)) } })

/-- Between s and u a read that failed on its parity repeat has been handled by its requester: the notice is dropped, the re-read
abandoned, the pass's entry passed by; a mark pair leaves its mark unset and the remaining steps go on; the fetch's item is dropped
with NOT_SENT; LOAD is refused with BAD_ANCHOR (R19, R26, R28, R40, R102, R163, R168). -/
def State.handlesFailure (s u : State) (r : Requester) : Prop :=
  match r with
  | .entry => ∀ h w, s.sweep.hand = some h →
    let goes := fun (phase : HandPhase) =>
      u = { s with sweep := { s.sweep with hand := some { h with phase := phase } } }
    (h.phase = .reading → h.source = .notice →
      u = { s with sweep := { s.sweep with hand := none }, notices := s.notices.tail }) ∧
    (h.phase = .reading → h.source ≠ .notice → u = s.finishHand) ∧
    (h.phase = .entryMark w → goes (.entryMarked w)) ∧ (h.phase = .groupMark w → goes (.groupMarked w))
  | .writeBack =>
    let goes := fun (phase : WriteBackPhase) => u = { s with wb := { s.wb with phase := phase } }
    (s.wb.phase = .entryMark → goes .entryMarked) ∧ (s.wb.phase = .groupMark → goes .groupMarked)
  | .fetch => ∀ f i r, s.fetch.current = some f →
    let c := f.elem.cell
    s.itemAt c f.elem.beacon f.elem.place = some i → i.live = true → s.recordIn c i.index = some r →
    let eligible := f.elem.beacon + BitVec.ofNat 32 (2 ^ r.k.toNat)
    u = { s with sweep := u.sweep, due := u.due, deferred := u.deferred, drained := u.drained, seq := u.seq,
                 fetch := { list := u.fetch.list, current := none }, store := u.store, bus := u.bus, wb := u.wb } ∧
    u.storeAt c = (s.storeAt c).filter (fun x => !i.buffers.contains x.number) ∧
    (u.itemAt c f.elem.beacon f.elem.place).map (·.status) = some .dropped ∧
    (r.state = .planned → r.outcome = none → r.lateAtFlip = false → r.refreshPending = false →
      (s.stopping = false → u.recordIn c i.index = some { r with state := .waiting, eligible := eligible }) ∧
      (s.stopping = true → u.wb.list = s.wb.list ++ [i.index] ∧
        u.recordIn c i.index = some { r with state := .retiring, outcome := some .deferred, eligible := eligible }))
  | .night => u = s
  | .anchor => ∀ before phase, s.cmd.inProgress = some (.load before phase) →
    u = ({ s with cmd := { s.cmd with controller := before } } : State).finish .badAnchor 0

/-! ### Cuts and probes, as the statements say them -/

/-- Between s and t the night's work of one cell has been cut: no plan, FIFO and holding buffer empty, a command in progress
carried to its end for nobody; an off-pending cell is OFF, a restart probe is cut short, a CELL_ON probe leaves the cell OFF, and
any other cell keeps its state (R88, R122, R124, R159, R185). -/
def State.cutInto (s t : State) (c : CellId) : Prop :=
  (t.seqAt c).coming = none ∧ (t.seqAt c).standing = none ∧ (t.seqAt c).offPending = false ∧
  (t.portAt c).fifo = [] ∧ (t.portAt c).holding = none ∧ (t.portAt c).behind = [] ∧
  (∀ k purpose second last, (s.portAt c).exchange = some (.command k purpose second last) →
    (t.portAt c).exchange = some (.command k .orphan second true)) ∧
  ((s.seqAt c).offPending = true → (t.portAt c).state = .off) ∧
  ((s.seqAt c).offPending = false → (s.portAt c).probe = none → (t.portAt c).state = (s.portAt c).state ∧
    (t.portAt c).runCount = (s.portAt c).runCount ∧ (t.portAt c).countdown = (s.portAt c).countdown) ∧
  ∀ probe : Probe, (s.seqAt c).offPending = false → (s.portAt c).probe = some probe →
    (t.portAt c).status = (s.portAt c).status ∧ (t.portAt c).restartCount = (s.portAt c).restartCount ∧
    (∀ adopted, probe.reason = .restart adopted → (t.portAt c).state = .quiet ∧ (t.portAt c).countdown = 16) ∧
    ∀ before, probe.reason = .cellOn before → (t.portAt c).state = .off

/-- Between s and t ABORT has dealt with the entry in hand: one whose part-half write has begun is finished with its marks, for no
pass and with no POLL to follow; any other is dropped (R41). -/
def State.finishesHand (s t : State) : Prop :=
  (s.sweep.hand = none → t.sweep.hand = none) ∧
  ∀ h w, s.sweep.hand = some h →
    let goes := fun (phase : SweepWrite → HandPhase) =>
      t.sweep.hand = some { h with source := .detached, phase := phase { w with poll := none } }
    let begun := ∃ tr, s.bus.current = some tr ∧ tr.requester = .entry ∧ tr.orphan = false
    (h.phase = .reading ∨ h.phase = .awaitingRemoval ∨ (∃ words, h.phase = .read words) → t.sweep.hand = none) ∧
    (h.phase = .writing w → (begun → goes .writing) ∧ (¬begun → t.sweep.hand = none)) ∧
    (h.phase = .written w → goes .written) ∧ (h.phase = .entryMark w → goes .entryMark) ∧
    (h.phase = .entryMarked w → goes .entryMarked) ∧ (h.phase = .groupMark w → goes .groupMark) ∧
    (h.phase = .groupMarked w → goes .groupMarked)

/-- A LOAD that ends during its probes has brought a cell back to what it held before LOAD was taken; a restart probe that LOAD
displaced counts as cut short (R153; DEDUCED, notes/assumptions/15.md). -/
def RadioPort.broughtBack (p : RadioPort) (v : SavedPort) : Prop :=
  p.probe = none ∧ p.status = v.status ∧ p.runCount = v.runCount ∧ p.restartCount = v.restartCount ∧
  p.clockLevel = v.clockHigh ∧
  (v.state ≠ .probing → p.state = v.state ∧ p.countdown = v.countdown) ∧
  (v.state = .probing → p.state = .quiet ∧ p.countdown = 16)

/-- An event that ends the probe of a cell with no success, and the probe status it leaves: a third IDENT try unanswered, an
IDENT answered with another kind code, or a TUNE unanswered at its second issue (R152). -/
def State.probeFails (s : State) (c : CellId) (probe : Probe) (event : Instr) (status : ProbeStatus) : Prop :=
  (s.portAt c).probe = some probe ∧
    ((∃ answer second last, event = .linkAnswer c answer ∧
        (s.portAt c).exchange = some (.command .ident .probe second last) ∧ answers .ident answer = true ∧
        answer.extractLsb' 8 8 ≠ 0x5C ∧ status = .wrongKind) ∨
      (∃ seen second last, event = .linkTimeout c seen ∧
        (s.portAt c).exchange = some (.command .ident .probe second last) ∧ probe.tries.length = 2 ∧
        status = if seen ≠ .varied ∧ ∀ x ∈ probe.tries, x = seen then .lineStuck else .noAnswer) ∨
      ∃ seen channel rate last, event = .linkTimeout c seen ∧
        (s.portAt c).exchange = some (.command (.tune channel rate) .probe true last) ∧ status = .noAnswer)

end Sys2Proof.Machine
end

