-- ==== Sys2Proof/Certificates/Slice0/Obligations.lean ====
section
/-! DEFINITION. The statements for the provers. A frame is said as an equation of states: a next state t that is s with some
fields of t leaves every other field of s as it was. -/

open Sys2Proof Sys2Proof.Machine

/-! ### The step, the resets and the register window -/

/-- The command at the front of the queue is run on the state with the queue's rest; with an empty queue the part idles.
The queue is the model's own (notes/assumptions/1.md). -/
def Obligations.StepRunsTheFrontCommand : Prop :=
  ∀ (s : State) (c : Instr) (rest : List Instr),
    (s.pending = c :: rest → step s = exec c { s with pending := rest }) ∧ (s.pending = [] → step s = .next s)

/-- What power-on leaves (R174, R186 and the reset rule of each block). -/
def Obligations.PowerOnValues : Prop :=
  let s := State.reset
  s.cmd.controller = .unloaded ∧ s.cmd.waiting = none ∧ s.cmd.inProgress = none ∧ s.cmd.nightNumber = 0 ∧
    s.cmd.attn = 0 ∧ s.cmd.mask = 0 ∧ (∀ offset, s.readRegister offset = 0) ∧ s.attentionLine = false ∧
    s.notices = [] ∧ s.sweep.running = none ∧ s.sweep.suspended = none ∧ s.sweep.groupSet = [] ∧
    s.sweep.rescanPending = false ∧ s.sweep.reread = [] ∧ s.fetch.list = [] ∧ s.fetch.current = none ∧
    s.timer.now = 0 ∧ s.timer.schedule = none ∧ s.wb.list = [] ∧ s.night.writeCount = 0 ∧
    s.bus.bus = .idle ∧ s.bus.current = none ∧ s.bus.lock = false ∧ s.bus.retry = false ∧
    (∀ c : CellId, s.dueAt c = [] ∧ cellAt s.deferred c = false ∧ freeBuffers (s.storeAt c) = List.range 256 ∧
      (s.portAt c).state = .off ∧ (s.portAt c).status = .notChecked ∧ (s.portAt c).fifo = [] ∧
      (s.portAt c).exchange = none ∧ (s.portAt c).runCount = 0 ∧ (s.portAt c).restartCount = 0 ∧
      (s.portAt c).countdown = 0 ∧ (s.portAt c).overrun = 0 ∧ (s.seqAt c).standing = none ∧
      (s.seqAt c).offPending = false ∧ (s.seqAt c).windowsSent = 0 ∧ (s.seqAt c).itemsSent = 0 ∧
      (s.seqAt c).fetchLate = 0 ∧ (s.seqAt c).stray = 0) ∧
    ∀ g : GroupId, s.groupRec g = { state := .opened, flipBeacon := 0, announce := 0, cancel := 0, gap := 0 }

/-- Power-on and the reset pin put every on-chip state into its power-on value; shared memory is left as it stands. RESET with
no transfer on the memory port does the same, but keeps ANCHOR and gives RESULT by R176. While a transfer stands on the port,
every other block takes its power-on state, the transfer goes on without its requester, and RESET takes effect with the
transfer's last word, with a read that fails its parity repeat, or with a transfer error, in place of what each brings at other times
(R163, R164, R166, R176, R186; the state meanwhile is DEDUCED, notes/assumptions/8.md). -/
def Obligations.Resets : Prop :=
  (∀ s : State,
    exec .powerOn s = .next { State.reset with shared := s.shared, pending := s.pending } ∧
    exec .resetPin s = .next { State.reset with shared := s.shared, pending := s.pending } ∧
    (s.bus.current = none → exec .reset s = .next { State.reset with
      shared := s.shared, pending := s.pending,
      cmd := { State.reset.cmd with
        anchor := s.cmd.anchor, resultCode := if s.cmd.inProgress.isSome then .aborted else .nothing } })) ∧
  (∀ (s : State) (tr : Transfer), s.bus.current = some tr → s.bus.bus ≠ .idle →
    ∃ t, exec .reset s = .next t ∧
      t = { State.reset with shared := s.shared, pending := s.pending, cmd := t.cmd, bus := t.bus } ∧
      t.cmd = { State.reset.cmd with
        anchor := s.cmd.anchor, inProgress := some (.reset s.cmd.inProgress.isSome), resultCode := .inProgress } ∧
      t.bus = { s.bus with
        current := some { tr with orphan := true }, fetchReq := none, writeBackReq := none, entryReq := none,
        nightReq := none, anchorReq := none }) ∧
  ∀ (s : State) (tr : Transfer) (busy : Bool) (data : Word) (parity : BitVec 4),
    s.cmd.inProgress = some (.reset busy) → s.bus.bus = .holding → s.bus.current = some tr →
    let bad := tr.checked = true ∧ tr.action.readsAt s.bus.nextWord = true ∧ parityGood data parity = false
    let inForce := fun (shared : Memory) => ({ State.reset with
      shared := shared, pending := s.pending,
      cmd := { State.reset.cmd with
        anchor := s.cmd.anchor, resultCode := if busy then .aborted else .nothing } } : State)
    (¬bad → tr.action.words ≤ s.bus.nextWord + 1 →
      exec (.wordComplete data parity) s = .next (inForce (s.storeWord tr).shared)) ∧
    (bad → s.bus.retry = true → exec (.wordComplete data parity) s = .next (inForce s.shared)) ∧
    (bad → s.bus.retry = false → exec (.wordComplete data parity) s = .next { s with
      bus := { s.bus with retry := true, nextWord := 0, got := [] } }) ∧
    exec .transferError s = .next (inForce s.shared)

/-- The register window: a write to ANCHOR is held, and one to STATUS, RESULT or an address between and beyond the six registers
is ignored. A read gives ANCHOR, STATUS, RESULT and ATTN as they stand, 0 at every other address; STATUS and RESULT
hold their fields at the bits of 11.3 (R174, R188). -/
def Obligations.RegisterWindow : Prop :=
  ∀ (s : State) (offset value : Word),
    exec (.otherRegisterWrite 0x00 value) s = .next { s with cmd := { s.cmd with anchor := value } } ∧
    (offset ≠ 0x00 → offset ≠ 0x04 → offset ≠ 0x08 → offset ≠ 0x14 →
      exec (.otherRegisterWrite offset value) s = .next s) ∧
    s.readRegister 0x00 = s.cmd.anchor ∧
    (s.readRegister 0x0C).extractLsb' 0 3 = BitVec.ofNat 3 s.cmd.controller.code ∧
    (s.readRegister 0x0C).getLsbD 4 = s.cmd.waiting.isSome ∧
    (s.readRegister 0x0C).getLsbD 5 = s.cmd.inProgress.isSome ∧
    (s.readRegister 0x0C).extractLsb' 8 4 = BitVec.ofNat 4 s.notices.length ∧
    (s.readRegister 0x0C).extractLsb' 12 3 = BitVec.ofNat 3 (passCode s.sweep.running) ∧
    (∀ c : CellId, (s.readRegister 0x0C).extractLsb' (16 + 4 * c.val) 3 =
      BitVec.ofNat 3 (s.portAt c).state.code) ∧
    s.readRegister 0x10 = s.cmd.resultValue ++ s.cmd.resultCode.code ∧
    s.readRegister 0x14 = s.cmd.attn.setWidth 32 ∧
    (offset ≠ 0x00 → offset ≠ 0x0C → offset ≠ 0x10 → offset ≠ 0x14 → s.readRegister offset = 0)

/-- A write to ATTN clears each cause written as one and leaves the others; the line follows (R174, R187). -/
def Obligations.AttnClear : Prop :=
  ∀ (s : State) (value : Word), ∃ t, exec (.attnClear value) s = .next t ∧
    t = { s with cmd := { s.cmd with attn := t.cmd.attn } } ∧
    (∀ i : Nat, i < 9 → t.cmd.attn.getLsbD i = (s.cmd.attn.getLsbD i && !value.getLsbD i)) ∧
    (t.attentionLine = true ↔ ∃ i : Nat, i < 9 ∧ t.cmd.attn.getLsbD i = true ∧ t.cmd.mask.getLsbD i = true)

/-- A write to NOTICE in RUNNING or PAUSED joins the tail of the queue, cut at the directory end, or is discarded for its
range; in other states it is ignored (R23). -/
def Obligations.NoticeIsCheckedCutAndQueued : Prop :=
  ∀ (s : State) (first spanMinusOne : BitVec 16),
    (s.nightOn = false → exec (.notice first spanMinusOne) s = .next s) ∧
    (s.nightOn = true → s.settings.entryCount ≤ first.toNat → exec (.notice first spanMinusOne) s = .next s) ∧
    (s.nightOn = true → first.toNat < s.settings.entryCount → s.notices.length < 8 →
      exec (.notice first spanMinusOne) s = .next { s with
        notices := s.notices ++ [{ first := first.toNat,
                                   span := min (spanMinusOne.toNat + 1) (s.settings.entryCount - first.toNat),
                                   progress := first.toNat }] }) ∧
    (s.nightOn = true ↔ s.cmd.controller = .running ∨ s.cmd.controller = .paused) ∧
    ∀ value : Word, exec (.otherRegisterWrite 0x08 value) s =
      exec (.notice (value.extractLsb' 0 16) (value.extractLsb' 16 16)) s

/-- A notice that passes its range checks while the queue holds 8 is lost: NOTICE_LOST, the count, a rescan request taken by what
is live, with the retirement of the WAITING records and the clearing of the deferred flags where a rescan begins or is extended,
and the queue as it was (R25, R31, R36, R37; that a visit in hand is not one of the circle is DEDUCED,
notes/assumptions/10.md). -/
def Obligations.LostNotice : Prop :=
  ∀ (s : State) (first spanMinusOne : BitVec 16),
    s.nightOn = true → first.toNat < s.settings.entryCount → 8 ≤ s.notices.length →
    ∃ t, exec (.notice first spanMinusOne) s = .next t ∧
      t = { s with cmd := { s.cmd with attn := s.cmd.attn ||| 4 },
                   counts := { s.counts with noticesLost := countUp s.counts.noticesLost },
                   sweep := t.sweep, due := t.due, deferred := t.deferred, wb := t.wb } ∧
      s.takesRescan t

/-! ### The command unit -/

/-- The command words of 11.3 that only wait their turn, one of each kind that ABORT and RESET are not. -/
def waitingCommands (group : BitVec 4) (delta : BitVec 20) (cell : BitVec 8) (argument : BitVec 24) :
    List (Instr × HostCommand) :=
  [(.load, .load), (.start, .start), (.pause, .pause), (.resume, .resume), (.stop, .stop), (.rescan, .rescan),
    (.flipAt group delta, .flipAt group delta), (.cancelFlip group, .cancelFlip group),
    (.cellOn cell, .cellOn cell), (.cellOff cell, .cellOff cell),
    (.setAttnMask argument, .setAttnMask (argument.setWidth 9)),
    (.badCommand 0 argument, .bad 0 argument)]

/-- A command written while another is in progress waits; one written while a command waits is lost with CMD_LOST, and the
waiting one stays. ABORT and RESET are taken whatever waits, but an ABORT written while an ABORT is in progress is treated as any
other command. When an event completes the command in progress, the waiting command is taken in the state that the step leaves, as a
command written there is (R175, R176; that the links and the memory port have gone on before it is taken is a DESIGN CHOICE,
notes/assumptions/46.md). -/
def Obligations.OneCommandWaits : Prop :=
  (∀ (s : State) (group : BitVec 4) (delta : BitVec 20) (cell : BitVec 8) (argument : BitVec 24),
    ∀ p ∈ waitingCommands group delta cell argument, s.settled = true →
      (s.cmd.inProgress.isSome = true → s.cmd.waiting = none →
        exec p.1 s = .next { s with cmd := { s.cmd with waiting := some p.2 } }) ∧
      (s.cmd.waiting.isSome = true → exec p.1 s = .next { s with cmd := { s.cmd with attn := s.cmd.attn ||| 2 } })) ∧
  (∀ (s : State) (code : ResultCode) (value : Nat) (c : CellId), s.settled = true →
    (s.cmd.inProgress = some (.abort code value) ∨ s.cmd.inProgress = some (.abortProbe c)) →
    (s.cmd.waiting = none → exec .abort s = .next { s with cmd := { s.cmd with waiting := some .abort } }) ∧
    (s.cmd.waiting.isSome = true →
      exec .abort s = .next { s with cmd := { s.cmd with attn := s.cmd.attn ||| 2 } })) ∧
  (∀ (s : State) (word : Word), s.settled = true → s.cmd.waiting.isSome = true →
    (word.extractLsb' 0 8 ≠ 6 → word.extractLsb' 0 8 ≠ 7 →
      exec (.cmdLost word) s = .next { s with cmd := { s.cmd with attn := s.cmd.attn ||| 2 } }) ∧
    (word.extractLsb' 0 8 = 6 → exec (.cmdLost word) s = exec .abort s) ∧
    (word.extractLsb' 0 8 = 7 → exec (.cmdLost word) s = exec .reset s)) ∧
  ∀ (s t : State) (event : Instr) (group : BitVec 4) (delta : BitVec 20) (cell : BitVec 8) (argument : BitVec 24),
    (∃ (c : CellId) (answer : Word), event = .linkAnswer c answer) ∨
      (∃ (c : CellId) (seen : DataIn), event = .linkTimeout c seen) ∨
      (∃ (data : Word) (parity : BitVec 4), event = .wordComplete data parity) ∨
      event ∈ [.anchorReadDone, .nightRecordWriteDone, .transferError, .abort] →
    s.cmd.inProgress.isSome = true → (∀ busy, s.cmd.inProgress ≠ some (.reset busy)) →
    exec event { s with cmd := { s.cmd with waiting := none } } = .next t → t.cmd.inProgress = none →
    ∀ p ∈ (.abort, .abort) :: waitingCommands group delta cell argument,
      s.cmd.waiting = some p.2 → exec event s = exec p.1 t

/-- A command word whose code names no command completes at once with BAD_COMMAND, and a command taken in a controller
state that its rule does not allow with WRONG_STATE: RESULT takes its final code and value, the in-progress flag is
cleared, CMD_DONE is raised, and nothing else changes (R175, R177, R178; that CELL_ON and CELL_OFF test the state
before the cell is DEDUCED, notes/assumptions/21.md). -/
def Obligations.RefusedCommands : Prop :=
  (∀ (s : State) (code : BitVec 8) (argument : BitVec 24), s.free = true → (code = 0 ∨ 13 < code.toNat) →
    exec (.badCommand code argument) s = .next { s with
      cmd := { s.cmd with inProgress := none, resultCode := .badCommand, resultValue := 0,
                          attn := s.cmd.attn ||| 1 } }) ∧
  ∀ (s : State) (group : BitVec 4) (delta : BitVec 20) (cell : BitVec 8), s.free = true →
    (s.cmd.controller ∉ [.unloaded, .loaded, .faulted] → exec .load s = .next (s.finish .wrongState 0)) ∧
    (s.cmd.controller ≠ .loaded → exec .start s = .next (s.finish .wrongState 0)) ∧
    (s.cmd.controller ≠ .running → exec .pause s = .next (s.finish .wrongState 0)) ∧
    (s.cmd.controller ≠ .paused → exec .resume s = .next (s.finish .wrongState 0)) ∧
    (s.cmd.controller ∈ [.unloaded, .loaded, .faulted] → exec .abort s = .next (s.finish .wrongState 0)) ∧
    (s.nightOn = false →
      exec .stop s = .next (s.finish .wrongState 0) ∧ exec .rescan s = .next (s.finish .wrongState 0) ∧
      exec (.flipAt group delta) s = .next (s.finish .wrongState 0) ∧
      exec (.cancelFlip group) s = .next (s.finish .wrongState 0)) ∧
    (s.nightOn = false → s.cmd.controller ≠ .loaded →
      exec (.cellOn cell) s = .next (s.finish .wrongState 0) ∧
      exec (.cellOff cell) s = .next (s.finish .wrongState 0))

/-- SET_ATTN_MASK replaces the nine mask bits in every controller state, ignoring the argument's higher bits, and the
attention line follows at once; PAUSE and RESUME change the controller state; all complete at once (R182, R183, R187). -/
def Obligations.MaskPauseAndResume : Prop :=
  (∀ (s : State) (argument : BitVec 24), s.free = true → ∃ t,
    exec (.setAttnMask argument) s = .next t ∧
    t = ({ s with cmd := { s.cmd with mask := argument.setWidth 9 } } : State).finish .ok 0 ∧
    (t.attentionLine = true ↔
      ∃ i : Nat, i < 9 ∧ t.cmd.attn.getLsbD i = true ∧ argument.getLsbD i = true)) ∧
  ∀ s : State, s.free = true →
    (s.cmd.controller = .running →
      exec .pause s = .next (({ s with cmd := { s.cmd with controller := .paused } } : State).finish .ok 0)) ∧
    (s.cmd.controller = .paused →
      exec .resume s = .next (({ s with cmd := { s.cmd with controller := .running } } : State).finish .ok 0))

/-- START: a new night number, RUNNING, groups OPEN, flags and counts cleared, the opening pass and the first events
(R181; that it also ends the uncounted dropping of frames after a cut window is DEDUCED, notes/assumptions/13.md). -/
def Obligations.StartBeginsANight : Prop :=
  ∀ s : State, s.free = true → s.cmd.controller = .loaded → ∃ t, exec .start s = .next t ∧
    t = { s with cmd := t.cmd, flip := t.flip, deferred := t.deferred, seq := t.seq, port := t.port,
                 counts := t.counts, sweep := t.sweep, timer := t.timer } ∧
    t.cmd = { s.cmd with controller := .running, nightNumber := s.cmd.nightNumber + 1, resultCode := .ok,
                         resultValue := (s.cmd.nightNumber + 1).setWidth 24, attn := s.cmd.attn ||| 1 } ∧
    (∀ g : GroupId, t.groupRec g = { state := .opened, flipBeacon := 0, announce := 0, cancel := 0, gap := 0 }) ∧
    (∀ c : CellId, cellAt t.deferred c = false ∧
      t.seqAt c = { s.seqAt c with windowsSent := 0, itemsSent := 0, fetchLate := 0, stray := 0, cut := false } ∧
      t.portAt c = { s.portAt c with overrun := 0 }) ∧
    t.counts = State.reset.counts ∧
    t.sweep = { s.sweep with
      running := some { kind := .opening, cursor := 0, remaining := s.settings.entryCount } } ∧
    t.timer = { now := s.timer.now,
                schedule := some { nextBeacon := s.settings.period,
                                   nextPlan := some (s.settings.period - s.settings.lead) } }

/-! ### LOAD -/

/-- LOAD in UNLOADED, LOADED or FAULTED: LOADING, the first burst of the anchor block is asked for, and what each port holds is kept
for a LOAD that ABORT ends; refused at once with BAD_ANCHOR when ANCHOR is not a multiple of 64 (R153, R179). -/
def Obligations.LoadReadsTheAnchor : Prop :=
  ∀ s : State, s.free = true → s.cmd.controller ∈ [.unloaded, .loaded, .faulted] →
    (s.cmd.anchor.toNat % 64 ≠ 0 → exec .load s = .next (s.finish .badAnchor 0)) ∧
    (s.cmd.anchor.toNat % 64 = 0 → ∃ t saved, exec .load s = .next t ∧
      t = { s with cmd := t.cmd, bus := t.bus } ∧
      t.cmd = { s.cmd with controller := .loading,
                           inProgress := some (.load s.cmd.controller (.reading s.cmd.anchor [] saved)),
                           resultCode := .inProgress, resultValue := 0 } ∧
      (∀ c : CellId, let p := s.portAt c
        cellAt saved c = { state := p.state, status := p.status, runCount := p.runCount,
                           restartCount := p.restartCount, countdown := p.countdown, clockHigh := p.clockLevel }) ∧
      t.bus.asked .anchor (.read s.cmd.anchor.toNat 8))

/-- The checks of the anchor block; a refused block returns the controller to its state before LOAD and changes no setting,
no cell and no probe status. The settings an accepted block gives are its fields at the words and bits of 11.2, with the clamps
made, and each setting that differs from the value written counts as one clamp, as does each rate code 3 (R67, R68, R69,
R179). -/
def Obligations.AnchorChecks : Prop :=
  (∀ ws : List Word, anchorAccepted ws = true ↔
    wordOf ws 0 = 0x7140A5C3 ∧ 1 ≤ (wordOf ws 1).toNat ∧ (wordOf ws 1).toNat ≤ 65536 ∧
    (wordOf ws 2).toNat % 32 = 0 ∧ (wordOf ws 3).toNat % 4 = 0 ∧ (wordOf ws 5).toNat % 4 = 0 ∧
    (wordOf ws 6).toNat % 4 = 0 ∧ (wordOf ws 7).toNat % 4 = 0 ∧ wordOf ws 4 ≠ 0) ∧
  (∀ (s : State) (before : ControllerState) (ws : List Word) (saved : PerCell SavedPort),
    s.quiet = true → s.cmd.inProgress = some (.load before (.read ws saved)) → anchorAccepted ws = false →
    exec .anchorReadDone s =
      .next (({ s with cmd := { s.cmd with controller := before } } : State).finish .badAnchor 0)) ∧
  ∀ ws : List Word,
    let t := anchorSettings ws
    let low := fun (i : Nat) => (wordOf ws i).toNat % 2 ^ 16
    let high := fun (i : Nat) => (wordOf ws i).toNat / 2 ^ 16
    let t10 := high 10 % 2 ^ 8
    let a10 := high 10 / 2 ^ 8
    t.entryCount = (wordOf ws 1).toNat ∧ t.directoryBase = wordOf ws 2 ∧ t.poolBase = wordOf ws 3 ∧
    t.poolSize = wordOf ws 4 ∧ t.entryMarkBase = wordOf ws 5 ∧ t.groupMarkBase = wordOf ws 6 ∧
    t.nightBase = wordOf ws 7 ∧ t.period = min 4000 (max 250 (low 8 / 50 * 50)) ∧
    t.lead = min (min 200 (max 20 (high 8))) (t.period - 110) ∧
    t.window = min (min 900 (max 50 (low 9 / 10 * 10))) ((t.period - 60 - t.lead) / 10 * 10) ∧
    t.spread = high 9 ∧ t.network.toNat = low 10 ∧ t.threshold = min 63 (max 1 t10) ∧ t.cap = min 15 (max 1 a10) ∧
    t.floor.toNat = low 11 % 16 ∧ (t.policy = .showOnArrival ↔ (wordOf ws 11).getLsbD 4 = true) ∧
    t.parity = (wordOf ws 11).getLsbD 5 ∧
    (∀ c : CellId,
      let w := wordOf ws (12 + c.val)
      cellAt t.cells c = { enabled := w.getLsbD 0, clockHigh := w.getLsbD 1,
                           rate := if w.extractLsb' 2 2 = 0 then .k50 else if w.extractLsb' 2 2 = 1 then .k100 else .k200,
                           ceiling := w.extractLsb' 4 3, channel := w.extractLsb' 8 6 }) ∧
    anchorClamps ws =
      [decide (low 8 ≠ t.period), decide (high 8 ≠ t.lead), decide (low 9 ≠ t.window), decide (t10 ≠ t.threshold),
        decide (a10 ≠ t.cap)].countP id +
        allCells.countP fun c => decide ((wordOf ws (12 + c.val)).extractLsb' 2 2 = 3)

/-- An accepted anchor block: each enabled cell probes, and will tune to its channel and rate of the block; every other cell is OFF and
NOT_CHECKED. A port has its new clock idle level from its next exchange on, at once where no exchange is in progress. With a cell
enabled the new settings, their clamps and what the ports held are held aside until every probe has ended, and nothing else
changes; with none the settings are put into force at once, LOADED, and the night record falls due (R146, R153, R180; when a
port that makes no probe takes the level is a DESIGN CHOICE, notes/assumptions/33.md, and so is that a frame still in the FIFO of a
cell that leaves ACTIVE is not counted as stray, notes/assumptions/47.md). -/
def Obligations.AcceptedAnchorProbes : Prop :=
  ∀ (s : State) (before : ControllerState) (ws : List Word) (saved : PerCell SavedPort),
    s.quiet = true → s.cmd.inProgress = some (.load before (.read ws saved)) → anchorAccepted ws = true →
    let aside := anchorSettings ws
    ∃ t, exec .anchorReadDone s = .next t ∧
      t = { s with cmd := t.cmd, settings := t.settings, inForce := t.inForce, port := t.port, night := t.night,
                   bus := t.bus } ∧
      (∀ c : CellId,
        let cell := cellAt aside.cells c
        (t.portAt c).clockLevel = cell.clockHigh ∧
        ((s.portAt c).exchange = none → (t.portAt c).clockHigh = cell.clockHigh) ∧
        ((s.portAt c).exchange ≠ none → (t.portAt c).clockHigh = (s.portAt c).clockHigh) ∧
        (cell.enabled = true →
          (t.portAt c).state = .probing ∧ (t.portAt c).status = (s.portAt c).status ∧
          (t.portAt c).issued .ident .probe ∧
          (t.portAt c).probe = some { reason := .load, channel := cell.channel, rate := cell.rate, tries := [],
                                      tuning := false }) ∧
        (cell.enabled = false →
          (t.portAt c).state = .off ∧ (t.portAt c).status = .notChecked ∧ (t.portAt c).restartCount = 0 ∧
          (t.portAt c).probe = none)) ∧
      ((∃ c : CellId, (cellAt aside.cells c).enabled = true) →
        t = { s with cmd := t.cmd, port := t.port } ∧
        t.cmd = { s.cmd with inProgress := some (.load before (.probing aside (anchorClamps ws) saved)) }) ∧
      ((∀ c : CellId, (cellAt aside.cells c).enabled = false) →
        t.settings = aside ∧ t.inForce = true ∧ s.recordDue t ∧ t.night.awaited = true ∧
        t.cmd = { s.cmd with controller := .loaded,
                             inProgress := some (.load before (.recording (anchorClamps ws))) })

/-- The effective timing: P a multiple of 50 ms within 250 to 4,000, lead_eff within 20 to 200, W_eff a multiple of 10 within 50
to 900, and the window ends at or before the next plan point (R67, R68). -/
def Obligations.TimingFits : Prop :=
  ∀ p lead w : Nat,
    let period := effectivePeriod p
    let leadEff := effectiveLead period lead
    let window := effectiveWindow period leadEff w
    250 ≤ period ∧ period ≤ 4000 ∧ period % 50 = 0 ∧ 20 ≤ leadEff ∧ leadEff ≤ 200 ∧ leadEff ≤ period - 110 ∧
      50 ≤ window ∧ window ≤ 900 ∧ window % 10 = 0 ∧ 60 + window + leadEff ≤ period

/-! ### The end of a night -/

/-- STOP is refused with FLIP_PENDING during an announcement. Otherwise the controller is STOPPING, the beacon timer
stops, notices, re-reads and passes end, plans whose beacon has not come are dropped, no record is left WAITING, an off-pending cell
in which no window runs goes OFF, also while the SEND of a beacon with no window is out, and once nothing is left to write back, no
window stands and no entry is in hand the night record falls due. With no such plan, just the WAITING records retire as DEFERRED, in
list order (R41, R65, R122, R123, R184; the order inside STOP, and that the drain waits for the windows and for the entry in hand,
is DEDUCED, notes/assumptions/23.md, and so is that a beacon still waiting for the link of a cell gone OFF is missed,
notes/assumptions/28.md). -/
def Obligations.StopDrainsTheNight : Prop :=
  ∀ s : State, s.free = true → s.nightOn = true →
    (s.pendingGroups ≠ 0 → exec .stop s = .next (s.finish .flipPending 0)) ∧
    (s.pendingGroups = 0 → ∃ t, exec .stop s = .next t ∧
      t = { s with cmd := t.cmd, notices := [], sweep := t.sweep, due := t.due, drained := t.drained, seq := t.seq,
                   fetch := t.fetch, store := t.store, timer := { s.timer with schedule := none },
                   flip := { s.flip with reported := t.flip.reported }, port := t.port, bus := t.bus, wb := t.wb,
                   night := t.night } ∧
      t.cmd = { s.cmd with controller := .stopping, inProgress := some (.stop t.drainOver),
                           resultCode := .inProgress, resultValue := 0 } ∧
      (t.drainOver = true ↔ (∀ c : CellId, t.dueAt c = [] ∧ (t.seqAt c).standing = none) ∧ t.wb.list = [] ∧
        t.sweep.hand = none) ∧
      t.sweep.running = none ∧ t.sweep.suspended = none ∧ t.sweep.groupSet = [] ∧
      t.sweep.rescanPending = false ∧ t.sweep.reread = [] ∧
      t.sweep.hand.map InHand.index = s.sweep.hand.map InHand.index ∧
      (t.drainOver = true → s.recordDue t ∧ t.night.awaited = true) ∧ (t.drainOver = false → t.night = s.night) ∧
      (∀ c : CellId,
        let q := s.seqAt c
        let goesOff := q.offPending = true ∧ ∀ plan, q.standing = some plan → plan.items = []
        let missed := goesOff ∧ q.position = .beaconSend ∧ (s.portAt c).beaconOut = false
        (t.seqAt c).coming = none ∧ (∀ r ∈ t.dueAt c, r.state ≠ .waiting) ∧
        (missed → (t.seqAt c).standing = none) ∧
        (¬missed → (t.seqAt c).standing.isSome = q.standing.isSome) ∧
        (goesOff → (t.portAt c).state = .off ∧ (t.seqAt c).offPending = false) ∧
        (¬goesOff → t.portAt c = s.portAt c ∧ (t.seqAt c).offPending = q.offPending)) ∧
      ((∀ c : CellId, (s.seqAt c).position = .beaconSend → (s.portAt c).beaconOut = true) → t.flip = s.flip) ∧
      ((∀ c : CellId, (s.seqAt c).coming = none) → t.store = s.store ∧ t.fetch = s.fetch ∧
        s.retiresInto t DueRecord.isWaiting .deferred ∧
        t.drained = (s.inListOrder DueRecord.isWaiting).length))

/-- ABORT in RUNNING, PAUSED or STOPPING is taken whatever command is in progress, an ABORT apart: LOADED at once, lists, plans,
records, fetches and buffers discarded, flip groups OPEN with the rest of their records kept, the timer stopped, off-pending
cells OFF, a restart probe back to QUIET with countdown 16, a link command in progress carried to its end for nobody, and the
night record due, for which ABORT waits. An entry whose part-half write has begun is finished with its marks, any other is dropped;
a transfer in progress is carried to its end, and the waiting ones are withdrawn (R41, R66, R88, R105, R124, R144, R149, R159, R166,
R172, R176, R185; that a cell is QUIET or OFF at once, before its probe command has ended, is DEDUCED, notes/assumptions/28.md; that the night record
falls due in ABORT's own step, so that what the carried transfer or entry still adds to the counts is not in it, is a DESIGN CHOICE,
notes/assumptions/48.md). -/
def Obligations.AbortCutsTheNight : Prop :=
  ∀ s : State, s.cmd.controller ∈ [.running, .paused, .stopping] → s.cmd.inProgress.any Running.isAbort = false →
    ∃ t, exec .abort s = .next t ∧
      t = { s with cmd := t.cmd, notices := [], sweep := t.sweep, due := Vector.replicate 4 [], seq := t.seq,
                   fetch := { list := [], current := none }, store := Vector.replicate 4 [],
                   timer := { s.timer with schedule := none }, flip := t.flip, port := t.port, bus := t.bus,
                   wb := { list := [], phase := .idle }, night := t.night } ∧
      t.cmd = { s.cmd with controller := .loaded, inProgress := some (.abort .ok s.pendingGroups),
                           resultCode := .inProgress, resultValue := 0 } ∧
      t.sweep.running = none ∧ t.sweep.suspended = none ∧ t.sweep.groupSet = [] ∧
      t.sweep.rescanPending = false ∧ t.sweep.reread = [] ∧ t.night.awaited = true ∧
      t.flip.reported = s.flip.reported ∧
      (∀ g : GroupId, t.groupRec g = { s.groupRec g with state := .opened }) ∧
      (∀ c : CellId, s.cutInto t c) ∧ s.finishesHand t ∧
      t.bus.fetchReq = none ∧ t.bus.writeBackReq = none ∧ t.bus.anchorReq = none ∧
      (t.sweep.hand = none → t.bus.entryReq = none) ∧
      ∀ tr, s.bus.current = some tr →
        t.bus = { s.bus with
          current := some { tr with
            orphan := (tr.orphan ||
              decide (tr.requester = .fetch ∨ tr.requester = .writeBack ∨ tr.requester = .anchor ∨
                tr.requester = .entry ∧ t.sweep.hand = none)) },
          fetchReq := none, writeBackReq := none, anchorReq := none, entryReq := t.bus.entryReq,
          nightReq := t.bus.nightReq }

/-- ABORT of a LOAD during LOADING brings back what stood before it and completes at once with ABORTED; during LOAD's night
record write it waits for that write. ABORT of a CELL_ON in LOADED turns the cell OFF, and waits only for a probe command in
progress: when that has ended it completes with OK and value 0, and the night record falls due. A restart probe that the CELL_ON has
adopted is cut short: the cell is QUIET with its countdown at 16, and its restart count and probe status stay (R153, R157, R159, R172,
R180, R185; a restart probe that LOAD had displaced is DEDUCED, notes/assumptions/15.md, and
so is that the cells take their states at once while a probe command is still out, notes/assumptions/28.md; that the FIFOs and restart
probes of ports which the LOAD or CELL_ON does not probe stay is a DESIGN CHOICE, notes/assumptions/49.md). -/
def Obligations.AbortOfLoadAndCellOn : Prop :=
  (∀ (s : State) (before : ControllerState) (phase : LoadPhase), s.quiet = true → s.cmd.controller = .loading →
    s.cmd.inProgress = some (.load before phase) →
    ∃ t, exec .abort s = .next t ∧
      t = { s with cmd := t.cmd, port := t.port, bus := t.bus } ∧
      t.cmd = { s.cmd with controller := before, inProgress := none, resultCode := .aborted, resultValue := 0,
                           attn := s.cmd.attn ||| 1 } ∧
      (∀ aside clamps saved, phase = .probing aside clamps saved →
        ∀ c : CellId, (t.portAt c).broughtBack (cellAt saved c)) ∧
      ((∀ aside clamps saved, phase ≠ .probing aside clamps saved) →
        t.port = s.port ∧ t.bus.anchorReq = none)) ∧
  (∀ (s : State) (before : ControllerState) (phase : LoadPhase), s.settled = true → s.cmd.controller = .loaded →
    s.cmd.inProgress = some (.load before phase) →
    exec .abort s = .next { s with
      cmd := { s.cmd with inProgress := some (.abort .aborted 0), resultCode := .inProgress, resultValue := 0 } }) ∧
  (∀ (s : State) (c : CellId) (k : LinkCommand) (second : Bool) (event : Instr), s.quiet = true →
    s.cmd.controller = .loaded → s.cmd.inProgress = some (.abortProbe c) → k.moves = false → k ≠ .rest →
    (s.portAt c).exchange = some (.command k .orphan second true) → (s.portAt c).state ≠ .active →
    (∃ answer, event = .linkAnswer c answer) ∨ (∃ seen, event = .linkTimeout c seen) → ∃ t,
    exec event s = .next t ∧ t = { s with cmd := (s.finish .ok 0).cmd, port := t.port, night := t.night, bus := t.bus } ∧
      s.recordDue t ∧ (∀ d : CellId, d ≠ c → t.portAt d = s.portAt d) ∧
      (t.portAt c).state = (s.portAt c).state ∧ (t.portAt c).runCount = (s.portAt c).runCount) ∧
  ∀ (s : State) (c : CellId) (probe : Probe), s.quiet = true → s.cmd.controller = .loaded →
    s.cmd.inProgress = some (.cellOn c) → (s.portAt c).probe = some probe → probe.reason ≠ .load →
    ∃ t, exec .abort s = .next t ∧
      t = { s with cmd := t.cmd, port := t.port, night := t.night, bus := t.bus } ∧
      (∀ before, probe.reason = .cellOn before → (t.portAt c).state = .off) ∧
      (∀ adopted, probe.reason = .restart adopted → (t.portAt c).state = .quiet ∧ (t.portAt c).countdown = 16) ∧
      (t.portAt c).status = (s.portAt c).status ∧ (t.portAt c).restartCount = (s.portAt c).restartCount ∧
      (t.portAt c).probe = none ∧
      (∀ d : CellId, d ≠ c → t.portAt d = s.portAt d) ∧
      ((s.portAt c).probeCommandOut = true → t.night = s.night ∧ t.bus = s.bus ∧
        t.cmd = { s.cmd with inProgress := some (.abortProbe c), resultCode := .inProgress, resultValue := 0 }) ∧
      ((s.portAt c).probeCommandOut = false → t.cmd = (s.finish .ok 0).cmd ∧ s.recordDue t)

/-- RESCAN completes at once, and the rescan request is taken by what is live: a rescan begins when nothing is live, in place of
a refill, or in the empty slot under a changeover; a live rescan is given a full circle; under a live opening pass only the
rescan-pending flag is set. Beginning or extending a rescan retires every WAITING record with QUEUED, in list order, and clears
the deferred flags (R31, R36, R37, R183; that a visit in hand is not one of the circle is DEDUCED, notes/assumptions/10.md). -/
def Obligations.RescanRequest : Prop :=
  ∀ s : State, s.free = true → s.nightOn = true →
    ∃ t, exec .rescan s = .next t ∧
      t = { s with cmd := (s.finish .ok 0).cmd, sweep := t.sweep, due := t.due, deferred := t.deferred, wb := t.wb } ∧
      s.takesRescan t

/-! ### Flip announcements -/

/-- FLIP_AT makes its four tests in order; when all pass, the group is ANNOUNCED with B = now + delta, raised to now + 2^K, its
announce beacon now and its gap set empty, and RESULT tells B - now, with CLAMPED when B was raised (R129). -/
def Obligations.FlipAtAnnounces : Prop :=
  ∀ (s : State) (group : BitVec 4) (delta : BitVec 20), s.free = true →
    (s.cmd.controller ≠ .running → s.cmd.controller ≠ .paused →
      exec (.flipAt group delta) s = .next (s.finish .wrongState 0)) ∧
    (s.cmd.controller = .running ∨ s.cmd.controller = .paused →
      (group = 0 → exec (.flipAt group delta) s = .next (s.finish .badArgument 0)) ∧
      ∀ g : GroupId, group.toNat = g.val + 1 →
        ((s.groupRec g).state = .done → exec (.flipAt group delta) s = .next (s.finish .groupDone 0)) ∧
        ((s.groupRec g).state = .announced ∨ (s.groupRec g).state = .cancelling →
          exec (.flipAt group delta) s = .next (s.finish .flipPending 0)) ∧
        ((s.groupRec g).state = .opened →
          let raised := decide (delta.toNat < 2 ^ s.settings.bigK)
          let distance := if raised then 2 ^ s.settings.bigK else delta.toNat
          exec (.flipAt group delta) s = .next (({ s with
            flip := { s.flip with groups := groupPut s.flip.groups g { s.groupRec g with
              state := .announced, flipBeacon := s.timer.now + BitVec.ofNat 32 distance,
              announce := s.timer.now, gap := 0 } } } : State).finish (if raised then .clamped else .ok) distance))) ∧
    (∀ g : GroupId, ∀ h : GroupId, ∀ r : GroupRecord,
      groupAt (groupPut s.flip.groups g r) h = if h = g then r else s.groupRec h) ∧
    (∀ c : CellId, (s.cellSettings c).ceiling.toNat ≤ s.settings.bigK) ∧
    ∃ c : CellId, (s.cellSettings c).ceiling.toNat = s.settings.bigK

/-- CANCEL_FLIP makes its five tests in order; when all pass, the group is CANCELLING with its cancel beacon now, and RESULT
tells B - now (R132). -/
def Obligations.CancelFlip : Prop :=
  ∀ (s : State) (group : BitVec 4), s.free = true →
    (s.cmd.controller ≠ .running → s.cmd.controller ≠ .paused →
      exec (.cancelFlip group) s = .next (s.finish .wrongState 0)) ∧
    (s.cmd.controller = .running ∨ s.cmd.controller = .paused →
      (group = 0 → exec (.cancelFlip group) s = .next (s.finish .badArgument 0)) ∧
      ∀ g : GroupId, group.toNat = g.val + 1 →
        let r := s.groupRec g
        let least := s.timer.now + BitVec.ofNat 32 (2 ^ s.settings.bigK + 1)
        (r.state = .done → exec (.cancelFlip group) s = .next (s.finish .groupDone 0)) ∧
        (r.state = .opened ∨ r.state = .cancelling →
          exec (.cancelFlip group) s = .next (s.finish .noFlip 0)) ∧
        (r.state = .announced → 2 ^ 31 ≤ (r.flipBeacon - least).toNat →
          exec (.cancelFlip group) s = .next (s.finish .tooLate (r.flipBeacon - s.timer.now).toNat)) ∧
        (r.state = .announced → (r.flipBeacon - least).toNat < 2 ^ 31 →
          exec (.cancelFlip group) s = .next (({ s with
            flip := { s.flip with groups := groupPut s.flip.groups g { r with
              state := .cancelling, cancel := s.timer.now } } } : State).finish .ok
                (r.flipBeacon - s.timer.now).toNat)))

/-- The notices of beacon b: a FLIP for an ANNOUNCED group when b is after its announce beacon and at or before B, a CANCEL for
a CANCELLING group when b is after its cancel beacon and before B, nothing else, in ascending group order (R130). -/
def Obligations.FlipNotices : Prop :=
  ∀ (s : State) (b : BeaconNo),
    (∀ n : FlipNotice, n ∈ s.flipNotices b ↔
      n.beacon = (s.groupRec n.group).flipBeacon ∧
        (((s.groupRec n.group).state = .announced ∧ n.cancel = false ∧
            (b - (s.groupRec n.group).announce).toNat < 2 ^ 31 ∧ b ≠ (s.groupRec n.group).announce ∧
            ((s.groupRec n.group).flipBeacon - b).toNat < 2 ^ 31) ∨
          ((s.groupRec n.group).state = .cancelling ∧ n.cancel = true ∧
            (b - (s.groupRec n.group).cancel).toNat < 2 ^ 31 ∧ b ≠ (s.groupRec n.group).cancel ∧
            2 ^ 31 ≤ (b - (s.groupRec n.group).flipBeacon).toNat))) ∧
    (s.flipNotices b).Pairwise fun m n => m.group < n.group

/-! ### Cells switched on and off -/

/-- CELL_ON: BAD_ARGUMENT above 3; an ACTIVE cell loses its off-pending flag; an OFF, QUIET or FAILED cell begins a
probe with its countdown dropped; a restart probe in progress is adopted (R157, R183; the order of the refusals and
the restart count kept from OFF are DEDUCED, notes/assumptions/21.md; that a BAD_ARGUMENT refusal in LOADED makes no night record write
is a DESIGN CHOICE, notes/assumptions/45.md). -/
def Obligations.CellOn : Prop :=
  ∀ (s : State) (cell : BitVec 8), s.free = true → (s.nightOn = true ∨ s.cmd.controller = .loaded) →
    (4 ≤ cell.toNat → exec (.cellOn cell) s = .next (s.finish .badArgument 0)) ∧
    ∀ c : CellId, cell.toNat = c.val →
      ((s.portAt c).state = .active → ∃ t, exec (.cellOn cell) s = .next t ∧
        t = { s with cmd := (s.finish .ok (s.portAt c).status.code).cmd, seq := t.seq, night := t.night,
                     bus := t.bus } ∧
        t.seqAt c = { s.seqAt c with offPending := false } ∧ (∀ d : CellId, d ≠ c → t.seqAt d = s.seqAt d) ∧
        (s.nightOn = true → t.night = s.night ∧ t.bus = s.bus) ∧
        (s.cmd.controller = .loaded → s.recordDue t)) ∧
      ((s.portAt c).state ∈ [.off, .quiet, .failed] → ∃ t, exec (.cellOn cell) s = .next t ∧
        t = { s with cmd := t.cmd, port := t.port } ∧
        t.cmd = { s.cmd with inProgress := some (.cellOn c), resultCode := .inProgress, resultValue := 0 } ∧
        (∀ d : CellId, d ≠ c → t.portAt d = s.portAt d) ∧
        (t.portAt c).state = .probing ∧ (t.portAt c).issued .ident .probe ∧
        (t.portAt c).status = (s.portAt c).status ∧
        (t.portAt c).probe = some { reason := .cellOn (s.portAt c).state, channel := (s.cellSettings c).channel,
                                    rate := (s.cellSettings c).rate, tries := [], tuning := false } ∧
        ((s.portAt c).state = .off → (t.portAt c).restartCount = (s.portAt c).restartCount) ∧
        ((s.portAt c).state ≠ .off → (t.portAt c).restartCount = 0 ∧ (t.portAt c).countdown = 0)) ∧
      ((s.portAt c).state = .probing →
        exec (.cellOn cell) s = .next { s with
          cmd := { s.cmd with inProgress := some (.cellOn c), resultCode := .inProgress, resultValue := 0 },
          port := cellPut s.port c { s.portAt c with
            probe := (s.portAt c).probe.map fun q => { q with reason := .restart true } } })

/-- CELL_OFF: BAD_ARGUMENT above 3; an ACTIVE cell is marked off-pending while a night runs; in every other case the
cell is OFF at once, its probe goes no further, and from ACTIVE or PROBING one IDLE is issued (R154, R158, R183; the
order of the refusals is DEDUCED, notes/assumptions/21.md, and so is that the cell is OFF before its probe command has ended,
notes/assumptions/28.md; that a BAD_ARGUMENT refusal in LOADED makes no night record write is a DESIGN CHOICE,
notes/assumptions/45.md, and so is that a frame still in the FIFO of a cell that goes OFF is not counted as stray,
notes/assumptions/47.md). -/
def Obligations.CellOff : Prop :=
  ∀ (s : State) (cell : BitVec 8), s.free = true → (s.nightOn = true ∨ s.cmd.controller = .loaded) →
    (4 ≤ cell.toNat → exec (.cellOff cell) s = .next (s.finish .badArgument 0)) ∧
    ∀ c : CellId, cell.toNat = c.val →
      ((s.portAt c).state = .active → s.nightOn = true →
        exec (.cellOff cell) s = .next (({ s with
          seq := cellPut s.seq c { s.seqAt c with offPending := true } } : State).finish .ok 0)) ∧
      ((s.portAt c).state ≠ .active ∨ s.cmd.controller = .loaded → ∃ t, exec (.cellOff cell) s = .next t ∧
        t = { s with cmd := (s.finish .ok 0).cmd, seq := t.seq, port := t.port, night := t.night, bus := t.bus } ∧
        (∀ d : CellId, d ≠ c → t.portAt d = s.portAt d ∧ t.seqAt d = s.seqAt d) ∧
        (t.portAt c).state = .off ∧ (t.portAt c).status = (s.portAt c).status ∧
        ((s.portAt c).state = .off → t.portAt c = s.portAt c ∧ t.seqAt c = s.seqAt c) ∧
        ((s.portAt c).state ≠ .off → (t.portAt c).probe = none ∧ (t.portAt c).fifo = [] ∧
          (t.portAt c).holding = none ∧ (t.portAt c).behind = [] ∧
          t.seqAt c = { s.seqAt c with offPending := false }) ∧
        ((s.portAt c).state ∈ [.active, .probing] → (t.portAt c).issued .rest .port) ∧
        (s.nightOn = true → t.night = s.night ∧ t.bus = s.bus) ∧
        (s.cmd.controller = .loaded → s.recordDue t))

/-! ### Beacon events and plans -/

/-- The four bytes of a word on the air, least significant first (R190). -/
def airBytes (w : Word) : List Byte := [wordByte w 0, wordByte w 1, wordByte w 2, wordByte w 3]

/-- A frame is its bytes and their CRC, little-endian (R190, R193). -/
def withCrc (body : List Byte) : Frame := body ++ [(crc16 body).extractLsb' 0 8, (crc16 body).extractLsb' 8 8]

/-- At a beacon event the number goes up by one and the next events are scheduled one period on; QUIET cells count
down; a night record write falls due with a snapshot taken before the cells act; each ACTIVE cell takes up its plan
and hands its beacon, in the bytes of 11.5, to its port as one SEND; every other cell has no plan any more, has its report taken as
missed, and joins the gap set of every group whose announcement spans the beacon; the items of the plan made for it end as NOT_SENT,
their buffers FREE and their fetches gone. When all four have missed it, the flips of that beacon are taken. What no cell that misses
the beacon changes stays: due lists, passes, fetches, buffers and the write-back list (R30, R52, R70, R86, R106, R107, R108, R109, R133,
R134, R135, R155, R172, R190, R192, R193; the order inside the event is DEDUCED, notes/assumptions/22.md, and so are that the record's
copies hold the write count after its increase, notes/assumptions/11.md, and that a visit in hand is not one of a changeover's circle,
notes/assumptions/10.md; that the items of a plan end in plan order is a DESIGN CHOICE, notes/assumptions/35.md, and so is that a
beacon behind a late SEND of the window before waits beside the holding buffer, notes/assumptions/41.md). -/
def Obligations.BeaconEvent : Prop :=
  (∀ (s : State) (e : Schedule), s.settled = true → s.beaconDue = true → s.timer.schedule = some e →
    let b := s.timer.now + 1
    let misses := fun (c : CellId) => !(s.nightOn && decide ((s.portAt c).state = .active))
    let record := nightRecordWords (s.night.writeCount + 1) (nightFieldWords s.countBeacon)
    let spans := fun (r : GroupRecord) => (r.state = .announced ∨ r.state = .cancelling) ∧
      (b - r.announce).toNat < 2 ^ 31 ∧ b ≠ r.announce ∧ (r.flipBeacon - b).toNat < 2 ^ 31
    ∃ t u : State, exec .beaconEvent s = .next t ∧
      t = { s with cmd := { s.cmd with attn := t.cmd.attn }, sweep := t.sweep, due := t.due, deferred := t.deferred,
                   drained := t.drained, seq := t.seq, fetch := t.fetch, store := t.store, timer := t.timer,
                   flip := t.flip, port := t.port, bus := t.bus, wb := t.wb, night := t.night } ∧
      State.missBeacons b (allCells.filter misses)
        { s with timer := t.timer, flip := { s.flip with reported := 0 } } u ∧
      t = { u with seq := t.seq, port := t.port, bus := t.bus, night := t.night } ∧
      (∀ c : CellId, misses c = true → t.seqAt c = u.seqAt c) ∧
      (let offered : MemoryPort :=
        if s.night.current = none then
          { u.bus with nightReq := some (.write s.settings.nightBase.toNat (record.take 8)) }
        else u.bus
      (offered.bus = .idle → offered.current = none → offered.chooses t.bus s.settings.parity) ∧
        (offered.bus ≠ .idle ∨ offered.current ≠ none → t.bus = offered)) ∧
      t.timer = { now := b,
                  schedule := some { nextBeacon := e.nextBeacon + s.settings.period,
                                     nextPlan := some (e.nextBeacon + s.settings.period - s.settings.lead) } } ∧
      s.recordDue t ∧
      (s.night.current = none → t.night.current.map (·.snapshot.words) = some record) ∧
      (∀ w, s.night.current = some w →
        t.night.waiting.map (·.words) = some (nightFieldWords s.countBeacon)) ∧
      (∀ c : CellId, t.flip.reported.getLsbD c.val = misses c) ∧
      (∀ g : GroupId, let r := s.groupRec g
        (∀ c : CellId, spans r → (t.groupRec g).gap.getLsbD c.val = (r.gap.getLsbD c.val || misses c)) ∧
        (¬spans r → (t.groupRec g).gap = r.gap) ∧
        (t.groupRec g).flipBeacon = r.flipBeacon ∧ (t.groupRec g).announce = r.announce ∧
        (t.groupRec g).cancel = r.cancel ∧
        (t.groupRec g).state =
          if r.flipBeacon = b ∧ ∀ c : CellId, misses c = true then
            (if r.state = .announced then .done else if r.state = .cancelling then .opened else r.state)
          else r.state) ∧
      ((∃ c : CellId, misses c = false) → t.cmd.attn = s.cmd.attn) ∧
      ∀ c : CellId, (t.seqAt c).coming = none ∧ (t.portAt c).state = (s.portAt c).state ∧
        ((s.portAt c).state = .quiet → (t.portAt c).countdown = (s.portAt c).countdown - 1) ∧
        ((s.portAt c).state ≠ .quiet → (t.portAt c).countdown = (s.portAt c).countdown) ∧
        (misses c = false →
          let plan := (s.seqAt c).coming.getD (emptyPlan c b)
          t.seqAt c = { s.seqAt c with
            coming := none, standing := some plan, position := .beaconSend, upNext := 0, slotsLeft := 0,
            obs := { good := none, damaged := false, overrun := false } } ∧
          (t.portAt c).issued (.send (beaconFrame s.settings c b (decide (s.cmd.controller = .paused)) plan
            (s.flipNotices b))) (.beacon b)) ∧
        (misses c = true → (t.seqAt c).standing = none)) ∧
  ∀ (t : Settings) (c : CellId) (b : BeaconNo) (paused : Bool) (plan : Plan) (notices : List FlipNotice),
    let window := decide (plan.items ≠ [])
    let flags : Byte := 0#6 ++ BitVec.ofBool window ++ BitVec.ofBool paused
    beaconFrame t c b paused plan notices = withCrc (
      [0x01, t.network.extractLsb' 0 8, t.network.extractLsb' 8 8, BitVec.ofNat 8 c.val] ++ airBytes b ++
      [flags, BitVec.ofNat 8 (if window then t.window / 10 else 0), BitVec.ofNat 8 (cellAt t.cells c).rate.code,
        BitVec.ofNat 8 plan.filters.length, BitVec.ofNat 8 notices.length] ++
      (plan.filters.flatMap fun f => airBytes (f.value.setWidth 32) ++ airBytes (f.mask.setWidth 32)) ++
      notices.flatMap fun n =>
        [BitVec.ofNat 8 (n.group.val + 1), if n.cancel then 1 else 0] ++ airBytes n.beacon)

/-- The report that completes the four for beacon b is the flip: every ANNOUNCED group with that B becomes DONE with FLIP raised
and joins the live changeover pass, every CANCELLING one returns to OPEN keeping B and gap set, and no other group changes; here
the report is that of a beacon whose SEND is answered, in a night or while the controller is STOPPING, and one of an earlier beacon
flips nothing. With a window its window counts as sent and runs; with none the plan is over with the SEND, an off-pending cell goes
OFF, and the drain of a STOP may end. With each flip the due records of the group change, and while a night runs a changeover is
requested, which extends a live one by a full circle or suspends the running pass; with no flip none of that changes (R30, R109, R122,
R123, R133, R134, R135, R184; that a visit in hand is not one of the circle is DEDUCED, notes/assumptions/10.md, and so is what the
end of a STOP's drain waits for, notes/assumptions/23.md; that a frame still in the FIFO of a cell that goes OFF is not counted as stray
is a DESIGN CHOICE, notes/assumptions/47.md). -/
def Obligations.FlipAtTheFourthReport : Prop :=
  ∀ (s : State) (c : CellId) (frame : Frame) (b : BeaconNo) (second last : Bool) (answer : Word) (plan : Plan),
    s.settled = true → (s.portAt c).exchange = some (.command (.send frame) (.beacon b) second last) →
    answers (.send frame) answer = true → (s.seqAt c).standing = some plan →
    let reported := if b = s.timer.now then s.flip.reported ||| cellBit c else s.flip.reported
    let flips := b = s.timer.now ∧ reported = 0xF
    ∃ t u v : State, exec (.linkAnswer c answer) s = .next t ∧ v.drainedInto t ∧
      s.takesReport u c b true ∧ v = { u with seq := v.seq, port := v.port } ∧
      v = { s with cmd := { s.cmd with attn := v.cmd.attn }, sweep := v.sweep, due := v.due, drained := v.drained,
                   seq := v.seq, flip := v.flip, port := v.port, wb := v.wb } ∧
      (plan.items ≠ [] → t = v ∧ v.seqAt c = { s.seqAt c with
        position := .before, windowsSent := countUp (s.seqAt c).windowsSent } ∧
        (v.portAt c).state = (s.portAt c).state) ∧
      (plan.items = [] → v.seqAt c = { s.seqAt c with
          standing := none, position := .noWindow, upNext := 0, slotsLeft := 0, offPending := false,
          obs := { good := none, damaged := false, overrun := false } } ∧
        ((s.seqAt c).offPending = false → (v.portAt c).state = (s.portAt c).state) ∧
        ((s.seqAt c).offPending = true → (v.portAt c).state = .off ∧
          ((s.portAt c).state = .active → (v.portAt c).issued .rest .port))) ∧
      (∀ d : CellId, d ≠ c → v.seqAt d = s.seqAt d ∧ v.portAt d = s.portAt d) ∧
      v.flip.reported = reported ∧
      (¬flips → v.flip.groups = s.flip.groups ∧ v.cmd = s.cmd ∧ v.due = s.due ∧ v.drained = s.drained ∧
        v.sweep = s.sweep ∧ v.wb = s.wb) ∧
      (flips → ∀ g : GroupId,
        ((s.groupRec g).flipBeacon = b → (s.groupRec g).state = .announced →
          v.groupRec g = { s.groupRec g with state := .done } ∧ v.cmd.attn.getLsbD 4 = true ∧
          (s.nightOn = true → v.sweep.live .changeover = true ∧ g ∈ v.sweep.groupSet)) ∧
        ((s.groupRec g).flipBeacon = b → (s.groupRec g).state = .cancelling →
          v.groupRec g = { s.groupRec g with state := .opened }) ∧
        ((s.groupRec g).flipBeacon ≠ b ∨ (s.groupRec g).state = .opened ∨
            (s.groupRec g).state = .done → v.groupRec g = s.groupRec g))

/-- The flip unit's changes to the due records of a flipped group: under HOLD_OLD the WAITING DELIVER records in mode STAGE
retire as LATE in list order, under SHOW_ON_ARRIVAL their mode becomes SHOW; a PLANNED or IN_AIR record gets the late-at-flip
flag, since a label that stages its page in the window of beacon B does not flip; every other record is unchanged (R131, R135). -/
def Obligations.FlipChangesRecords : Prop :=
  ∀ (s : State) (g : BitVec 4),
    let stages := fun (r : DueRecord) => decide (r.state = .waiting) && decide (r.group = g) &&
      decide (r.kind = .deliver) && decide (r.mode = .stage)
    let t := s.flipRecords g
    (∀ c : CellId, t.dueAt c = (s.dueAt c).map fun r =>
      if r.group ≠ g then r
      else if r.state = .planned ∨ r.state = .inAir then { r with lateAtFlip := true }
      else if stages r then
        if s.settings.policy = .holdOld then
          { r with outcome := some .late, state := .retiring, lateAtFlip := false }
        else { r with mode := .display }
      else r) ∧
    t.wb.phase = s.wb.phase ∧
    t.wb.list = s.wb.list ++ (if s.settings.policy = .holdOld then s.inListOrder stages else []) ∧
    t.drained = s.drained +
      (if s.settings.policy = .holdOld ∧ s.stopping = true then (s.inListOrder stages).length else 0) ∧
    t = { s with due := t.due, wb := t.wb, drained := t.drained }

/-- At a plan point every cell gets the plan of the next beacon, empty unless the controller is RUNNING and the cell ACTIVE; its
records become PLANNED, its buffers CLAIMED, and its DELIVER items join the fetch list, which is ordered by beacon, then by cell, then
by place in plan order (R70, R71, R72, R85, R91, R97; that the four plans are handed over in one step is a DESIGN CHOICE,
notes/assumptions/31.md). -/
def Obligations.PlanPoint : Prop :=
  (∀ (s : State) (e : Schedule) (point : Nat), s.timer.schedule = some e → e.nextPlan = some point →
    let b := s.timer.now + 1
    ∃ t, exec .planPoint s = .next t ∧
      t = { s with due := t.due, seq := t.seq, fetch := { s.fetch with list := t.fetch.list }, store := t.store,
                   timer := { s.timer with schedule := some { e with nextPlan := none } } } ∧
      (∀ x ∈ s.fetch.list, x ∈ t.fetch.list) ∧
      (let fresh := [0, 1, 2, 3].flatMap fun c : CellId =>
          if s.cmd.controller = .running ∧ (s.portAt c).state = .active then
            planElems (makePlan s.settings c b (s.dueAt c) (s.storeAt c)) (s.dueAt c)
          else [];
        (∀ x ∈ s.fetch.list, (b - x.beacon).toNat < 2 ^ 31 ∧ x.beacon ≠ b) →
          t.fetch.list = s.fetch.list ++ fresh) ∧
      (let inOrder := fun (x y : FetchElem) => x.cell < y.cell ∨ x.cell = y.cell ∧ x.place ≤ y.place;
        (∀ x ∈ s.fetch.list, x.beacon = b) → s.fetch.list.Pairwise inOrder → t.fetch.list.Pairwise inOrder) ∧
      ∀ c : CellId,
        (s.cmd.controller = .running → (s.portAt c).state = .active →
          let plan := makePlan s.settings c b (s.dueAt c) (s.storeAt c)
          t.seqAt c = { s.seqAt c with coming := some plan } ∧
          t.dueAt c = (s.dueAt c).map (fun r =>
            if r.isWaiting && plan.items.any (fun i => i.index == r.index) then { r with state := .planned } else r) ∧
          t.storeAt c = s.storeAt c ++ plan.items.flatMap PlanItem.claimed ∧
          ∀ x ∈ planElems plan (s.dueAt c), x ∈ t.fetch.list) ∧
        (s.cmd.controller ≠ .running ∨ (s.portAt c).state ≠ .active →
          t.seqAt c = { s.seqAt c with coming := some (emptyPlan c b) } ∧ t.dueAt c = s.dueAt c ∧
          t.storeAt c = s.storeAt c)) ∧
  ∀ (plan : Plan) (l : List DueRecord) (x : FetchElem), x ∈ planElems plan l ↔
    ∃ place i r, plan.items[place]? = some i ∧ i.kind = .deliver ∧ l.find? (fun q => q.index == i.index) = some r ∧
      x = { cell := plan.cell, beacon := plan.beacon, place := place, index := i.index, target := i.target,
            reference := r.reference, length := r.length, segments := r.segments, needed := i.needed,
            buffers := i.buffers }

/-- A plan keeps its limits: at most 24 items, airtime within W, each item for an eligible record of the list with its own
label ID, offsets the sums of the costs before, and one FREE buffer of its own for each needed segment. The walk behind it takes
every eligible record that fits at its turn and no other, and the plan is the walk's selection, less the last items only while the
spread exceeds L (R73, R75, R77, R82, R84, R97; that a record is taken while another record with its label ID is IN_AIR or RETIRING,
as the tests of R77 have it, is a DESIGN CHOICE, notes/assumptions/44.md). -/
def Obligations.PlanWithinLimits : Prop :=
  (∀ (t : Settings) (c : CellId) (b : BeaconNo) (l : List DueRecord) (store : List SegBuffer),
    let plan := makePlan t c b l store
    let rate := (cellAt t.cells c).rate
    plan.items.length ≤ 24 ∧ (plan.items.map (·.cost)).sum ≤ t.window * 1000 ∧
    (plan.items.map (·.label)).Nodup ∧
    (∀ (k : Nat) (i : PlanItem), plan.items[k]? = some i →
      i.offset = ((plan.items.take k).map (·.cost)).sum) ∧
    (∀ i ∈ plan.items, ∃ r ∈ l, r.state = .waiting ∧ b.toNat % 2 ^ r.k.toNat = r.phase.toNat ∧
      (b - r.eligible).toNat < 2 ^ 31 ∧ i.index = r.index ∧ i.kind = r.kind ∧ i.mode = r.mode ∧
      i.label = r.label ∧ i.target = r.target ∧ i.needed = r.needed ∧
      i.cost = (if r.kind = .deliver then r.needed.length else 1) * rate.segmentSlot + rate.replySlot ∧
      i.buffers.length = if r.kind = .deliver then r.needed.length else 0) ∧
    (plan.items.flatMap (·.buffers)).Nodup ∧
    (∀ n ∈ plan.items.flatMap (·.buffers), n < 256 ∧ ∀ x ∈ store, x.number ≠ n) ∧
    Rate.segmentSlot .k50 = 10400 ∧ Rate.segmentSlot .k100 = 5440 ∧ Rate.segmentSlot .k200 = 2960 ∧
    Rate.replySlot .k50 = 3680 ∧ Rate.replySlot .k100 = 2080 ∧ Rate.replySlot .k200 = 1280 ∧
    let picked := selection { budget := t.window * 1000, buffers := (freeBuffers store).length, rate := rate } b l
    let spread := fun (rs : List DueRecord) => spreadOf (coverGroups (rs.map fun r => r.label.toNat)) rs.length
    plan.items.map (·.index) = (picked.take plan.items.length).map (·.index) ∧
    spread (picked.take plan.items.length) ≤ t.spread ∧
    ∀ k, plan.items.length < k → k ≤ picked.length → t.spread < spread (picked.take k)) ∧
  ∀ (m : Limits) (b : BeaconNo) (l : List DueRecord) (r : DueRecord),
    let before := selection m b l
    let slots := fun (q : DueRecord) => if q.kind = .deliver then q.needed.length else 1
    let claim := fun (q : DueRecord) => if q.kind = .deliver then q.needed.length else 0
    let cost := fun (q : DueRecord) => slots q * m.rate.segmentSlot + m.rate.replySlot
    selection m b [] = [] ∧
    selection m b (l ++ [r]) =
      if r.state = .waiting ∧ b.toNat % 2 ^ r.k.toNat = r.phase.toNat ∧ (b - r.eligible).toNat < 2 ^ 31 ∧
          before.length < 24 ∧ (before.map cost).sum + cost r ≤ m.budget ∧
          (before.map claim).sum + claim r ≤ m.buffers ∧ ∀ q ∈ before, q.label ≠ r.label then before ++ [r]
      else before

/-- The wake filters of a plan: at most four, each planned label wakes by exactly one of them, and of all 28-bit label IDs at
most L more wake than are planned (R79 to R83). -/
def Obligations.FiltersCoverThePlan : Prop :=
  ∀ (t : Settings) (c : CellId) (b : BeaconNo) (l : List DueRecord) (store : List SegBuffer),
    let plan := makePlan t c b l store
    plan.filters.length ≤ 4 ∧
    (∀ i ∈ plan.items, ∃ f ∈ plan.filters, i.label &&& f.mask = f.value ∧
      ∀ g ∈ plan.filters, i.label &&& g.mask = g.value → g = f) ∧
    ((List.range (2 ^ 28)).filter fun v =>
      plan.filters.any fun f => BitVec.ofNat 28 v &&& f.mask == f.value).length ≤ t.spread + plan.items.length

/-! ### Windows -/

/-- A ready item at its slot start: the record is IN_AIR, the item is counted, and its frames, in the bytes of 11.5, are handed over
behind any frames that have not gone yet; on a free link the first frame of all is sent at once and the next one waits in the
holding buffer. An item that is not ready is dropped as fetch-late with NOT_SENT, its buffers FREE and its fetch gone, and nothing else
changes. A dropped item's slots pass idle (R52, R60, R92, R99, R100, R103, R110, R111, R112, R149, R190, R192, R193; that the frames of
the item before go first is a DESIGN CHOICE, notes/assumptions/32.md; that a visit in hand is not one of a rescan's circle is DEDUCED,
notes/assumptions/10.md). -/
def Obligations.ItemSlotStart : Prop :=
  (∀ (s : State) (c : CellId) (plan : Plan) (i : PlanItem), s.settled = true →
    (s.seqAt c).nextItem = some (plan, i) →
    (i.status = .ready → ∃ t, exec (.itemSlotStart c) s = .next t ∧
      t = { s with due := t.due, seq := t.seq, port := t.port } ∧
      (∀ d : CellId, d ≠ c → t.portAt d = s.portAt d ∧ t.seqAt d = s.seqAt d ∧ t.dueAt d = s.dueAt d) ∧
      (t.dueAt c = (s.dueAt c).map fun r =>
        if r.index = i.index ∧ r.state = .planned then { r with state := .inAir } else r) ∧
      (t.seqAt c).position = .inFrames ∧ (t.seqAt c).upNext = (s.seqAt c).upNext + 1 ∧
      (t.seqAt c).slotsLeft = (itemFrames s.settings (s.storeAt c) i).length - 1 ∧
      (t.seqAt c).itemsSent = countUp (s.seqAt c).itemsSent ∧
      ∀ (first : HeldFrame) (rest : List HeldFrame),
        (s.portAt c).holding.toList ++ (s.portAt c).behind ++
          (itemFrames s.settings (s.storeAt c) i).map (fun f => { frame := f, beacon := plan.beacon }) = first :: rest →
        ((s.portAt c).exchange = none →
          (t.portAt c).exchange = some (.command (.send first.frame) (.window first.beacon) false false) ∧
          (t.portAt c).holding = rest.head? ∧ (t.portAt c).behind = rest.tail ∧
          (t.portAt c).shiftedOut = (LinkCommand.send first.frame).words.flatMap wordBits) ∧
        ((s.portAt c).exchange ≠ none →
          t.portAt c = { s.portAt c with
            due := (s.portAt c).due ++ [.held], holding := some first, behind := rest })) ∧
    (i.status = .unready → ∃ u : State, s.endsNotSent u c plan.beacon (s.seqAt c).upNext ∧
      exec (.itemSlotStart c) s = .next { u with seq := cellPut u.seq c { u.seqAt c with
        position := .between, upNext := (s.seqAt c).upNext + 1, fetchLate := countUp (s.seqAt c).fetchLate } }) ∧
    (i.status = .dropped ∨ i.status = .ended →
      exec (.itemSlotStart c) s = .next { s with
        seq := cellPut s.seq c { s.seqAt c with position := .between, upNext := (s.seqAt c).upNext + 1 } })) ∧
  ∀ (t : Settings) (store : List SegBuffer) (i : PlanItem),
    let label := fun (shows last : Bool) =>
      airBytes (0#2 ++ BitVec.ofBool last ++ BitVec.ofBool shows ++ i.label)
    let low := fun (v : BitVec 16) => [v.extractLsb' 0 8, v.extractLsb' 8 8]
    (i.kind = .deliver → i.buffers.length = i.needed.length →
      (itemFrames t store i).length = i.needed.length ∧
      ∀ (k segment number : Nat), i.needed[k]? = some segment → i.buffers[k]? = some number →
        (itemFrames t store i)[k]? = some (withCrc (
          [0x02] ++ label (i.mode == .display) (decide (k + 1 = i.needed.length)) ++ low t.network ++ low i.target ++
          low (BitVec.ofNat 5 segment ++ i.length.extractLsb' 0 11) ++ [0#4 ++ i.group] ++
          ((store.find? fun x => x.number == number).map (·.data)).getD []))) ∧
    (i.kind ≠ .deliver → itemFrames t store i = [withCrc (
      [0x03] ++ label false true ++ low t.network ++ [if i.kind = .poll then 1 else 2] ++ low i.target)])

/-- At a later segment slot the SEND of the held frame is issued, on a free link at once, and the next frame goes into the holding
buffer; at the reply slot's start the observations are cleared and a LISTEN for the slot's length is issued (R113, R149). -/
def Obligations.FrameAndReplySlotStarts : Prop :=
  ∀ (s : State) (c : CellId), s.settled = true → (s.seqAt c).position = .inFrames →
    (0 < (s.seqAt c).slotsLeft → ∃ t, exec (.frameSlotStart c) s = .next t ∧
      t = { s with seq := t.seq, port := t.port } ∧
      (∀ d : CellId, d ≠ c → t.portAt d = s.portAt d ∧ t.seqAt d = s.seqAt d) ∧
      t.seqAt c = { s.seqAt c with slotsLeft := (s.seqAt c).slotsLeft - 1 } ∧
      (∀ h, (s.portAt c).exchange = none → (s.portAt c).holding = some h →
        (t.portAt c).exchange = some (.command (.send h.frame) (.window h.beacon) false false) ∧
        (t.portAt c).holding = (s.portAt c).behind.head? ∧ (t.portAt c).behind = (s.portAt c).behind.tail) ∧
      ((s.portAt c).exchange ≠ none → t.portAt c = { s.portAt c with due := (s.portAt c).due ++ [.held] })) ∧
    (∀ plan, (s.seqAt c).slotsLeft = 0 → (s.seqAt c).standing = some plan → ∃ t,
      exec (.replySlotStart c) s = .next t ∧
      t = { s with seq := t.seq, port := t.port } ∧
      (∀ d : CellId, d ≠ c → t.portAt d = s.portAt d ∧ t.seqAt d = s.seqAt d) ∧
      t.seqAt c = { s.seqAt c with
        position := .inReply, obs := { good := none, damaged := false, overrun := false } } ∧
      (t.portAt c).issued (.listen (s.cellSettings c).rate.replySlot) (.window plan.beacon))

/-- At a reply slot's end the frames still held are judged, the item is classified by the first line that applies of good reply,
DAMAGED, LOST_AT_PORT and NO_REPLY, its result is applied to its record, and its buffers are FREE. A record that keeps working is
WAITING again, and one with an outcome retires; a pending refresh hands its index to the re-read list, or becomes the re-evaluate flag;
under STOPPING a working record retires as DEFERRED and a pending refresh is dropped. A charged result that leaves the record working
gives UNREACHABLE above the health threshold and otherwise GAVE_UP at the attempt cap, and a good reply becomes the last reply. Every
other field of the record is as the result's effect left it, the late policy acts after the threshold checks, and no other record, cell
or pass changes (R52, R53, R54, R55, R56, R60, R61, R63, R65, R100, R113, R119; that a visit in hand is not one of a rescan's circle
is DEDUCED, notes/assumptions/10.md). -/
def Obligations.ReplySlotEnd : Prop :=
  (∀ (s : State) (c : CellId) (plan : Plan) (i : PlanItem) (r : DueRecord), s.settled = true →
    (s.seqAt c).position = .inReply → (s.seqAt c).standing = some plan → (s.seqAt c).currentItem = some i →
    s.recordIn c i.index = some r → r.state = .inAir →
    let seen := ((slotFrames (s.portAt c).fifo).foldl (Sequencer.takeFrame s.settings.network) (s.seqAt c)).obs
    let after := r.afterResult s.settings (s.groupDone r.group) plan.beacon seen.classify
    let fifo := (s.portAt c).fifo.drop (slotFrames (s.portAt c).fifo).length
    ∃ t u : State, exec (.replySlotEnd c) s = .next t ∧ s.settlesResult u c after ∧
      t = { u with seq := t.seq, store := cellPut s.store c ((s.storeAt c).filter fun x => !i.buffers.contains x.number),
                   port := t.port } ∧
      (∀ d : CellId, d ≠ c → t.seqAt d = s.seqAt d ∧ t.portAt d = s.portAt d) ∧
      t.seqAt c = { s.seqAt c with
        stray := (t.seqAt c).stray, coming := (t.seqAt c).coming, position := .between,
        standing := some { plan with
          items := plan.items.modify ((s.seqAt c).upNext - 1) fun j => { j with status := .ended } },
        obs := { good := none, damaged := false, overrun := false } } ∧
      (t.seqAt c).stray =
        ((slotFrames (s.portAt c).fifo).foldl (Sequencer.takeFrame s.settings.network) (s.seqAt c)).stray ∧
      ((∀ p, (s.seqAt c).coming = some p → p.beacon ≠ plan.beacon) → (t.seqAt c).coming = (s.seqAt c).coming) ∧
      t.portAt c = { s.portAt c with
        fifo := fifo, blocked := (s.portAt c).blocked && !fifo.isEmpty, exchange := (t.portAt c).exchange,
        due := (t.portAt c).due } ∧
      ((s.portAt c).exchange ≠ none → (t.portAt c).exchange = (s.portAt c).exchange)) ∧
  (∀ (t : Settings) (done : Bool) (b : BeaconNo) (r : DueRecord) (res : ItemResult),
    let heard := match res with
      | .good y => { r with reply := some {
          battery := y.battery, lowBattery := decide (y.battery.toNat ≤ t.floor.toNat), staged := y.staged,
          shown := y.shown, beacon := b } }
      | _ => r
    let e := resultEffect t done heard res
    let charged : DueRecord := { e.record with
      health := match res with
        | .good _ => e.record.health - 1
        | .damaged => min 63 (e.record.health + 1)
        | .noReply => min 63 (e.record.health + 2)
        | .lostAtPort | .notSent => e.record.health,
      attempts := if e.attempt then min t.cap (e.record.attempts + 1) else e.record.attempts }
    let checks := res ≠ .lostAtPort ∧ res ≠ .notSent ∧ charged.outcome = none
    let checked : DueRecord :=
      if checks ∧ t.threshold < charged.health then { charged with outcome := some .unreachable }
      else if checks ∧ t.cap ≤ charged.attempts then { charged with outcome := some .gaveUp }
      else charged
    let judged := checked.applyLate t.policy
    let wakes := if res = .noReply ∨ res = .damaged then min judged.attempts 4 else 1
    r.afterResult t done b res =
      if judged.outcome = none then { judged with eligible := b + BitVec.ofNat 32 (2 ^ judged.k.toNat * wakes) }
      else judged) ∧
  (∀ (t : Settings) (done : Bool) (b : BeaconNo) (r : DueRecord) (res : ItemResult),
    r.outcome = none → r.lateAtFlip = false →
    let e := resultEffect t done r res
    let after := r.afterResult t done b res
    let charged := res ≠ .lostAtPort ∧ res ≠ .notSent
    (∀ o, e.record.outcome = some o → after.outcome = some o) ∧
    (e.record.outcome = none →
      (charged → t.threshold < after.health → after.outcome = some .unreachable) ∧
      (charged → after.health ≤ t.threshold → t.cap ≤ after.attempts → after.outcome = some .gaveUp) ∧
      (charged → after.health ≤ t.threshold → after.attempts < t.cap → after.outcome = none) ∧
      (¬charged → after.outcome = none)) ∧
    after.attempts = (if e.attempt then min t.cap (r.attempts + 1) else r.attempts) ∧
    (res = .noReply ∨ res = .damaged → e.record = r ∧ e.attempt = true) ∧
    (¬charged → e.record = r ∧ e.attempt = false) ∧
    (∀ y, res = .good y → after.reply = some {
      battery := y.battery, lowBattery := decide (y.battery.toNat ≤ t.floor.toNat), staged := y.staged,
      shown := y.shown, beacon := b }) ∧
    ((∀ y, res ≠ .good y) → after.reply = r.reply)) ∧
  ∀ o : Observations,
    (∀ y, o.good = some y → o.classify = .good y) ∧
    (o.good = none → o.damaged = true → o.classify = .damaged) ∧
    (o.good = none → o.damaged = false → o.overrun = true → o.classify = .lostAtPort) ∧
    (o.good = none → o.damaged = false → o.overrun = false → o.classify = .noReply)

/-- At the window's planned end the plan stops standing; an off-pending cell then goes OFF, with one IDLE from ACTIVE. The last window
of a STOP may end its drain (R110, R122, R154, R184; that the drain waits for the windows is DEDUCED,
notes/assumptions/23.md; that a frame still in the FIFO of a cell that goes OFF is not counted as stray is a DESIGN CHOICE,
notes/assumptions/47.md). -/
def Obligations.WindowEnd : Prop :=
  ∀ (s : State) (c : CellId), s.settled = true → (s.seqAt c).windowOver = true →
    let ended : Sequencer := { s.seqAt c with
      standing := none, position := .noWindow, upNext := 0, slotsLeft := 0,
      obs := { good := none, damaged := false, overrun := false } }
    ((s.seqAt c).offPending = false → ∃ t, exec (.windowEnd c) s = .next t ∧
      ({ s with seq := cellPut s.seq c ended } : State).drainedInto t) ∧
    ((s.seqAt c).offPending = true → ∃ t u : State, exec (.windowEnd c) s = .next t ∧ u.drainedInto t ∧
      u = { s with seq := cellPut s.seq c { ended with offPending := false }, port := u.port } ∧
      (∀ d : CellId, d ≠ c → u.portAt d = s.portAt d) ∧ (u.portAt c).state = .off ∧
      (u.portAt c).fifo = [] ∧ ((s.portAt c).state = .active → (u.portAt c).issued .rest .port))

/-! ### Transceiver links -/

/-- Probes: a QUIET cell whose countdown is 0 begins a restart probe. An IDENT is tried three times; answered with kind 0x5C it is
followed by TUNE, which is issued a second time when it is unanswered. An answered TUNE makes the cell ACTIVE and PRESENT with run
count 0. A third silent IDENT, another kind code, or a TUNE unanswered twice ends the probe with its status: the cell is OFF after a
LOAD or CELL_ON probe or an adopted restart, and after a restart QUIET for 16 beacons or, the eighth time, FAILED. A CELL_ON
completes with its probe, and LOAD's settings are put in force with the last of LOAD's (R148, R152, R153, R155, R156, R157, R180,
R183; that the countdown's event changes nothing in another state is the model's choice, notes/assumptions/3.md). -/
def Obligations.Probes : Prop :=
  (∀ (s : State) (c : CellId), s.settled = true →
    ((s.portAt c).state = .quiet → (s.portAt c).countdown = 0 → ∃ t,
      exec (.restartCountdownExpiry c) s = .next t ∧ t = { s with port := t.port } ∧
      (∀ d : CellId, d ≠ c → t.portAt d = s.portAt d) ∧ (t.portAt c).state = .probing ∧
      (t.portAt c).issued .ident .probe ∧ (t.portAt c).restartCount = (s.portAt c).restartCount ∧
      (t.portAt c).status = (s.portAt c).status ∧
      (t.portAt c).probe = some { reason := .restart false, channel := (s.cellSettings c).channel,
                                  rate := (s.cellSettings c).rate, tries := [], tuning := false }) ∧
    ((s.portAt c).state ≠ .quiet ∨ (s.portAt c).countdown ≠ 0 →
      exec (.restartCountdownExpiry c) s = .next s)) ∧
  (∀ (s : State) (c : CellId) (probe : Probe), s.settled = true → (s.portAt c).probe = some probe →
    (s.cmd.inProgress = some (.cellOn c) → s.cmd.waiting = none) →
    let others := fun (t : State) => ∀ d : CellId, d ≠ c → t.portAt d = s.portAt d
    let completes := fun (t : State) (code : ResultCode) (status : ProbeStatus) (causes : BitVec 9) =>
      t = { s with cmd := t.cmd, port := t.port, night := t.night, bus := t.bus } ∧
      t.cmd = { s.cmd with inProgress := none, resultCode := code, resultValue := BitVec.ofNat 24 status.code,
                           attn := s.cmd.attn ||| causes } ∧
      (s.cmd.controller = .loaded → s.recordDue t) ∧
      (s.cmd.controller ≠ .loaded → t.night = s.night ∧ t.bus = s.bus)
    let loadGoesOn := fun (t : State) => ∀ before aside clamps saved,
      s.cmd.inProgress = some (.load before (.probing aside clamps saved)) →
      ((∃ d : CellId, d ≠ c ∧ (s.portAt d).loadProbing = true) → t = { s with port := t.port }) ∧
      ((∀ d : CellId, d ≠ c → (s.portAt d).loadProbing = false) →
        t = { s with cmd := t.cmd, settings := aside, inForce := true, port := t.port, night := t.night,
                     bus := t.bus } ∧
        t.cmd = { s.cmd with controller := .loaded, inProgress := some (.load before (.recording clamps)) } ∧
        s.recordDue t ∧ t.night.awaited = true)
    (∀ second last answer, (s.portAt c).exchange = some (.command .ident .probe second last) →
      answers .ident answer = true → answer.extractLsb' 8 8 = 0x5C → ∃ t, exec (.linkAnswer c answer) s = .next t ∧
      t = { s with port := t.port } ∧ others t ∧ (t.portAt c).state = (s.portAt c).state ∧
      (t.portAt c).issued (.tune probe.channel probe.rate) .probe) ∧
    (∀ second last seen, (s.portAt c).exchange = some (.command .ident .probe second last) → probe.tries.length < 2 →
      ∃ t, exec (.linkTimeout c seen) s = .next t ∧ t = { s with port := t.port } ∧ others t ∧
        (t.portAt c).issued .ident .probe ∧ (t.portAt c).state = (s.portAt c).state ∧
        (t.portAt c).probe = some { probe with tries := probe.tries ++ [seen] }) ∧
    (∀ channel rate seen, (s.portAt c).exchange = some (.command (.tune channel rate) .probe false false) →
      exec (.linkTimeout c seen) s = .next { s with port := cellPut s.port c { s.portAt c with
        exchange := some (.command (.tune channel rate) .probe true false) } }) ∧
    (∀ channel rate second last answer,
      (s.portAt c).exchange = some (.command (.tune channel rate) .probe second last) →
      answers (.tune channel rate) answer = true → ∃ t, exec (.linkAnswer c answer) s = .next t ∧ others t ∧
      (t.portAt c).state = .active ∧ (t.portAt c).status = .present ∧ (t.portAt c).runCount = 0 ∧
      (t.portAt c).probe = none ∧
      (probe.reason = .restart false →
        t = { s with cmd := { s.cmd with attn := s.cmd.attn ||| 32 }, port := t.port }) ∧
      (probe.reason = .load → (t.portAt c).restartCount = 0 ∧ loadGoesOn t) ∧
      (probe.reason = .restart true → (t.portAt c).restartCount = 0) ∧
      (s.cmd.inProgress = some (.cellOn c) →
        (∀ before, probe.reason = .cellOn before → completes t .ok .present (if before = .off then 1 else 33)) ∧
        (probe.reason = .restart true → completes t .ok .present 33))) ∧
    ∀ event status, s.probeFails c probe event status → ∃ t, exec event s = .next t ∧ others t ∧
      (t.portAt c).status = status ∧ (t.portAt c).probe = none ∧
      ((s.portAt c).state = .probing → (t.portAt c).issued .rest .port) ∧
      (probe.reason = .load → (t.portAt c).state = .off ∧ (t.portAt c).restartCount = 0 ∧ loadGoesOn t) ∧
      (∀ before, probe.reason = .cellOn before → (t.portAt c).state = .off ∧
        (s.cmd.inProgress = some (.cellOn c) → completes t .probeFailed status 1)) ∧
      (probe.reason = .restart true → (t.portAt c).state = .off ∧ (t.portAt c).restartCount = 0 ∧
        (s.cmd.inProgress = some (.cellOn c) → completes t .probeFailed status 1)) ∧
      (probe.reason = .restart false → (t.portAt c).restartCount = (s.portAt c).restartCount + 1 ∧
        ((s.portAt c).restartCount < 7 →
          (t.portAt c).state = .quiet ∧ (t.portAt c).countdown = 16 ∧ t = { s with port := t.port }) ∧
        (7 ≤ (s.portAt c).restartCount → (t.portAt c).state = .failed ∧
          t = { s with cmd := { s.cmd with attn := s.cmd.attn ||| 32 }, port := t.port }))) ∧
  [ProbeStatus.notChecked, .present, .wrongKind, .noAnswer, .lineStuck].map ProbeStatus.code = [0, 1, 2, 3, 4]

/-- Answers and link faults of a window's commands: an answer sets an ACTIVE cell's run count to 0; an unanswered first issue of a
SEND or LISTEN is issued again; an unanswered second one is a link fault, which ends every item of its window while that plan stands.
The third in a row makes the cell QUIET with countdown 16 and CELL raised, or OFF when it is off-pending, and the next window's beacon
that waits for the link is then missed; otherwise a waiting beacon waits on. A command of a cell that has left ACTIVE goes on in the
same way and moves neither run count nor state. An IDLE is issued once: the link goes on with what waits for it, first come first
served. A word that does not answer the command leaves it unanswered. A beacon's SEND that ends in a link fault, in an ACTIVE cell or
one that STOP has made OFF, is a missed beacon: the cell joins the gap set of every group whose announcement spans it, the items of its
plan end as NOT_SENT, their buffers FREE and fetches gone, and the plan stands no more; as the fourth report it is the flip, with the
changes to the due records and the changeover requested. Nothing else changes (R30, R52, R60, R86, R107, R109, R122, R125, R133, R134,
R135, R147, R148, R149, R155; DEDUCED: that such a word ends the wait, notes/assumptions/26.md, the order of the waiting exchanges,
notes/assumptions/16.md, that a visit in hand is not one of a pass's circle, notes/assumptions/10.md, what the end of a drain waits for,
notes/assumptions/23.md, and that a SEND or LISTEN out when its cell leaves ACTIVE keeps its second issue while a beacon still waiting is
missed, notes/assumptions/28.md; DESIGN CHOICE: that a waiting beacon outlives a window's link fault, notes/assumptions/41.md, that items
end in plan order, notes/assumptions/35.md, and that a frame left in the FIFO is not counted as stray, notes/assumptions/47.md). -/
def Obligations.LinkFaults : Prop :=
  (∀ (s : State) (c : CellId) (k : LinkCommand) (b : BeaconNo) (second last : Bool) (answer : Word) (seen : DataIn),
    s.settled = true →
    (∀ purpose, (s.portAt c).exchange = some (.command k purpose second last) → answers k answer = false →
      exec (.linkAnswer c answer) s = exec (.linkTimeout c .varied) s) ∧
    (∀ purpose, (s.portAt c).exchange = some (.command k purpose false false) → k.moves = true →
      exec (.linkTimeout c seen) s = .next { s with
        port := cellPut s.port c { s.portAt c with exchange := some (.command k purpose true false) } }) ∧
    ((s.portAt c).exchange = some (.command .rest .port second last) → ∃ t, exec (.linkTimeout c seen) s = .next t ∧
      t = { s with port := t.port } ∧ (t.portAt c).state = (s.portAt c).state ∧
      (t.portAt c).runCount = (s.portAt c).runCount ∧ (∀ d : CellId, d ≠ c → t.portAt d = s.portAt d) ∧
      (∀ again final, (t.portAt c).exchange = some (.command .rest .port again final) →
        Due.command .rest .port ∈ (s.portAt c).due) ∧
      (∀ next purpose rest, (s.portAt c).due = .command next purpose :: rest →
        (t.portAt c).exchange = some (.command next purpose false false) ∧ ∀ x ∈ rest, x ∈ (t.portAt c).due) ∧
      ((s.portAt c).due = [] → (t.portAt c).due = [] ∧ (t.portAt c).exchange = none)) ∧
    ((s.portAt c).exchange = some (.command k (.window b) second last) → k.moves = true →
      (answers k answer = true → ∃ t, exec (.linkAnswer c answer) s = .next t ∧
        t = { s with port := t.port } ∧ (∀ d : CellId, d ≠ c → t.portAt d = s.portAt d) ∧
        (t.portAt c).runCount = (if (s.portAt c).state = .active then 0 else (s.portAt c).runCount) ∧
        (t.portAt c).state = (s.portAt c).state ∧ (t.portAt c).fifo = (s.portAt c).fifo) ∧
      (second = true →
        let third := (s.portAt c).state = .active ∧ 3 ≤ (s.portAt c).runCount + 1
        let off := (s.seqAt c).offPending = true ∧ third
        let quiet := (s.seqAt c).offPending = false ∧ third
        let raised := fun (attn : BitVec 9) => if quiet then attn ||| 32 else attn
        let misses := fun (plan : Plan) =>
          third ∧ (s.seqAt c).position = .beaconSend ∧ (s.seqAt c).standing = some plan
        (∀ plan, (s.seqAt c).standing = some plan → plan.beacon = b → ∃ t u : State,
          exec (.linkTimeout c seen) s = .next t ∧ s.endsPlan u c plan ∧ s.faultLeaves t c off quiet ∧
          t = { u with cmd := t.cmd, seq := t.seq, port := t.port } ∧ t.cmd = { s.cmd with attn := raised s.cmd.attn } ∧
          (∀ d : CellId, d ≠ c → t.seqAt d = s.seqAt d) ∧
          t.seqAt c = { u.seqAt c with
            position := .between, upNext := plan.items.length, slotsLeft := 0, offPending := (t.seqAt c).offPending,
            obs := { good := none, damaged := false, overrun := false } } ∧
          t = { s with cmd := t.cmd, sweep := t.sweep, due := t.due, deferred := t.deferred, drained := t.drained,
                       seq := t.seq, fetch := t.fetch, store := t.store, port := t.port, bus := t.bus, wb := t.wb } ∧
          (∀ place i, t.itemAt c b place = some i → i.live = false) ∧
          (¬third → ∀ frame next, Due.command (.send frame) (.beacon next) ∈ (s.portAt c).due →
            (t.portAt c).issued (.send frame) (.beacon next))) ∧
        ((∀ plan, (s.seqAt c).standing = some plan → plan.beacon ≠ b) →
          ((∀ plan, ¬misses plan) → ∃ t, exec (.linkTimeout c seen) s = .next t ∧ s.faultLeaves t c off quiet ∧
            t = { s with cmd := { s.cmd with attn := raised s.cmd.attn }, seq := t.seq, port := t.port } ∧
            (∀ d : CellId, d ≠ c → t.seqAt d = s.seqAt d) ∧
            t.seqAt c = { s.seqAt c with offPending := (t.seqAt c).offPending } ∧
            (¬third → ∀ frame next, Due.command (.send frame) (.beacon next) ∈ (s.portAt c).due →
              (t.portAt c).issued (.send frame) (.beacon next))) ∧
          ∀ plan, misses plan → ∃ t u v : State, exec (.linkTimeout c seen) s = .next t ∧ u.drainedInto t ∧
            s.losesBeacon v c plan.beacon plan ∧ s.faultLeaves u c off quiet ∧
            u = { v with cmd := { v.cmd with attn := raised v.cmd.attn }, seq := u.seq, port := u.port } ∧
            (∀ d : CellId, d ≠ c → u.seqAt d = s.seqAt d) ∧ u.seqAt c = { v.seqAt c with offPending := false })))) ∧
  ∀ (s : State) (c : CellId) (frame : Frame) (b : BeaconNo) (plan : Plan) (last : Bool) (seen : DataIn),
    s.settled = true → (s.portAt c).exchange = some (.command (.send frame) (.beacon b) true last) →
    (s.seqAt c).standing = some plan → plan.beacon = b →
    let third := (s.portAt c).state = .active ∧ 3 ≤ (s.portAt c).runCount + 1
    let off := (s.seqAt c).offPending = true ∧ (s.stopping = true ∨ third)
    let quiet := (s.seqAt c).offPending = false ∧ third
    ∃ t u v : State, exec (.linkTimeout c seen) s = .next t ∧ u.drainedInto t ∧
      s.losesBeacon v c b plan ∧ s.faultLeaves u c off quiet ∧
      u = { v with cmd := { v.cmd with attn := if quiet then v.cmd.attn ||| 32 else v.cmd.attn }, seq := u.seq,
                   port := u.port } ∧
      u.seqAt c = { v.seqAt c with offPending := (u.seqAt c).offPending } ∧
      u = { s with cmd := { s.cmd with attn := u.cmd.attn }, sweep := u.sweep, due := u.due, deferred := u.deferred,
                   drained := u.drained, seq := u.seq, fetch := u.fetch, store := u.store, flip := u.flip,
                   port := u.port, bus := u.bus, wb := u.wb } ∧
      (∀ d : CellId, d ≠ c → u.seqAt d = s.seqAt d) ∧ (u.seqAt c).windowsSent = (s.seqAt c).windowsSent ∧
      u.flip.reported = (if b = s.timer.now then s.flip.reported ||| cellBit c else s.flip.reported) ∧
      (∀ g : GroupId, let r := s.groupRec g
        (u.groupRec g).gap =
          if (r.state = .announced ∨ r.state = .cancelling) ∧ (b - r.announce).toNat < 2 ^ 31 ∧ b ≠ r.announce ∧
              (r.flipBeacon - b).toNat < 2 ^ 31 then r.gap ||| cellBit c else r.gap) ∧
      (∀ place i, plan.items[place]? = some i → i.live = true →
        (∀ x ∈ u.storeAt c, x.number ∉ i.buffers) ∧
        ∀ x ∈ u.fetch.list, ¬(x.cell = c ∧ x.beacon = b ∧ x.place = place)) ∧
      (b ≠ s.timer.now ∨ s.flip.reported ||| cellBit c ≠ 0xF →
        (∀ g : GroupId, (u.groupRec g).state = (s.groupRec g).state) ∧
        (quiet → u.cmd.attn = s.cmd.attn ||| 32) ∧ (¬quiet → u.cmd.attn = s.cmd.attn) ∧
        ((∀ x ∈ s.dueAt c, x.refreshPending = false) → ∀ i ∈ plan.items, i.live = true →
          ∀ r, s.recordIn c i.index = some r → r.state = .planned → r.outcome = none → r.lateAtFlip = false →
          let eligible := b + BitVec.ofNat 32 (2 ^ r.k.toNat)
          u.recordIn c i.index = some (
            if s.stopping = true then { r with state := .retiring, outcome := some .deferred, eligible := eligible }
            else { r with state := .waiting, eligible := eligible })))

/-- Frame-ready: a pull begins on a free link when the FIFO has room and the port is not blocked, or when the cell is
not ACTIVE; raised while the FIFO of an ACTIVE cell holds 2 frames and the port is not blocked it is an overrun,
counted, seen by a reply slot, and the port is blocked; a blocked port makes no pull. A completed pull joins the tail
of the FIFO, or is discarded. Command words have their fields at the bits of 11.4, a frame is packed with its first byte lowest,
sent and pulled alike, and words cross the link most significant bit first (R150, R151, R191; that an overrun is counted as soon as
frame-ready is raised is DEDUCED, notes/assumptions/12.md; that the cell's state at a pull's end decides whether its frame is kept is
a DESIGN CHOICE, notes/assumptions/42.md, and so are the zeros in a command word's other bits and behind a frame's last byte,
notes/assumptions/43.md). -/
def Obligations.Receiving : Prop :=
  (∀ (s : State) (c : CellId), s.settled = true →
    ((s.portAt c).exchange = none →
      ((s.portAt c).state ≠ .active ∨ ((s.portAt c).fifo.length < 2 ∧ (s.portAt c).blocked = false)) →
      exec (.frameReady c) s = .next { s with
        port := cellPut s.port c { s.portAt c with frameReady := true, exchange := some (.pull false) } }) ∧
    ((s.portAt c).state = .active → (s.portAt c).blocked = true →
      exec (.frameReady c) s = .next { s with port := cellPut s.port c { s.portAt c with frameReady := true } }) ∧
    ((s.portAt c).state = .active → (s.portAt c).blocked = false → 2 ≤ (s.portAt c).fifo.length → ∃ t,
      exec (.frameReady c) s = .next t ∧ t = { s with seq := t.seq, port := t.port } ∧
      (∀ d : CellId, d ≠ c → t.portAt d = s.portAt d ∧ t.seqAt d = s.seqAt d) ∧
      (t.portAt c).overrun = countUp (s.portAt c).overrun ∧ (t.portAt c).blocked = true ∧
      (t.portAt c).fifo = (s.portAt c).fifo ∧
      ((s.portAt c).exchange = none → (t.portAt c).exchange = some (.pull true)) ∧
      ((s.portAt c).exchange ≠ none → (t.portAt c).exchange = (s.portAt c).exchange ∧
        Due.overrunPull ∈ (t.portAt c).due) ∧
      t.seqAt c = { s.seqAt c with obs := { (s.seqAt c).obs with
        overrun := (s.seqAt c).obs.overrun || decide ((s.seqAt c).position = .inReply) } })) ∧
  (∀ (s : State) (c : CellId) (discard : Bool) (lengthWord : Word) (words : List Word), s.settled = true →
    (s.portAt c).exchange = some (.pull discard) → ∃ t,
      exec (.framePullDone c lengthWord words) s = .next t ∧
      t = { s with port := t.port } ∧ (∀ d : CellId, d ≠ c → t.portAt d = s.portAt d) ∧
      (t.portAt c).frameReady = false ∧
      ((s.portAt c).state = .active → discard = false →
        (t.portAt c).fifo = (s.portAt c).fifo ++
          [{ bytes := (words.flatMap fun w => [wordByte w 0, wordByte w 1, wordByte w 2, wordByte w 3]).take
              (lengthWord.extractLsb' 0 8).toNat,
             inSlot := decide ((s.seqAt c).position = .inReply) }]) ∧
      ((s.portAt c).state ≠ .active ∨ discard = true → (t.portAt c).fifo = (s.portAt c).fifo)) ∧
  (∀ (channel : BitVec 6) (rate : Rate) (micros : Nat) (frame : Frame),
    let rateCode : BitVec 2 := match rate with
      | .k50 => 0
      | .k100 => 1
      | .k200 => 2
    (LinkCommand.tune channel rate).words = [0#14 ++ rateCode ++ 0#2 ++ channel ++ 0#4 ++ 1#4] ∧
    (LinkCommand.send frame).words =
      (0#16 ++ BitVec.ofNat 8 frame.length ++ 0#4 ++ 2#4 : Word) :: packBytes frame ∧
    (LinkCommand.listen micros).words = [BitVec.ofNat 24 micros ++ 0#4 ++ 3#4] ∧
    LinkCommand.rest.words = [4] ∧ LinkCommand.ident.words = [5]) ∧
  (∀ (bytes : List Byte) (lengthWord : Word),
    (packBytes bytes).length = (bytes.length + 3) / 4 ∧
    (∀ k : Nat, k < 4 * (packBytes bytes).length →
      (wordOf (packBytes bytes) (k / 4)).extractLsb' (8 * (k % 4)) 8 = bytes.getD k 0) ∧
    (lengthWord.extractLsb' 0 8 = BitVec.ofNat 8 bytes.length → bytes.length < 256 →
      pulledFrame lengthWord (packBytes bytes) = bytes)) ∧
  ∀ w : Word, (wordBits w).length = 32 ∧ ∀ i : Nat, i < 32 → (wordBits w)[i]? = some (w.getLsbD (31 - i))

/-- A frame taken from the FIFO leaves it, and with it an overrun's block once the FIFO is empty. Pulled in the reply
slot in progress it is judged by its bytes: a bad CRC, or the item's reply with no known kind, is DAMAGED; the item's
reply is good, the first one kept; anything else is stray. Pulled outside a slot it is stray, whatever its CRC (R118,
R120, R151, R192; that frames after a cut are dropped uncounted until START is DEDUCED, notes/assumptions/13.md, and that a frame
pulled in a slot that a port fault has ended is stray is a DESIGN CHOICE, notes/assumptions/29.md). -/
def Obligations.FramesJudged : Prop :=
  (∀ (s : State) (c : CellId) (f : RxFrame) (rest : List RxFrame), s.settled = true → (s.portAt c).fifo = f :: rest →
    ∃ t, exec (.fifoFrameTaken c) s = .next t ∧ t = { s with seq := t.seq, port := t.port } ∧
      (∀ d : CellId, d ≠ c → t.portAt d = s.portAt d ∧ t.seqAt d = s.seqAt d) ∧
      (t.portAt c).fifo = rest ∧ (rest = [] → (t.portAt c).blocked = false) ∧
      (rest ≠ [] → (t.portAt c).blocked = (s.portAt c).blocked) ∧
      (f.inSlot = false ∨ (s.seqAt c).position ≠ .inReply → (s.seqAt c).cut = false →
        t.seqAt c = { s.seqAt c with stray := countUp (s.seqAt c).stray }) ∧
      (f.inSlot = false ∨ (s.seqAt c).position ≠ .inReply → (s.seqAt c).cut = true → t.seqAt c = s.seqAt c) ∧
      ∀ plan i, f.inSlot = true → (s.seqAt c).position = .inReply → (s.seqAt c).standing = some plan →
        (s.seqAt c).currentItem = some i → (s.seqAt c).cut = false →
        let seen := judge s.settings.network plan.beacon i.label f.bytes
        let held := (s.seqAt c).obs.good.isSome
        (seen = .stray → t.seqAt c = { s.seqAt c with stray := countUp (s.seqAt c).stray }) ∧
        (seen = .damaged → t.seqAt c = { s.seqAt c with
          obs := { (s.seqAt c).obs with damaged := (s.seqAt c).obs.damaged || !held } }) ∧
        ∀ y, seen = .good y →
          (held = false → t.seqAt c = { s.seqAt c with obs := { (s.seqAt c).obs with good := some y } }) ∧
          (held = true → t.seqAt c = { s.seqAt c with stray := countUp (s.seqAt c).stray })) ∧
  ∀ (network : BitVec 16) (b : BeaconNo) (label : LabelId) (f : Frame),
    let mine := fieldAt f 1 4 % 2 ^ 28 = label.toNat ∧ fieldAt f 5 2 = network.toNat ∧ byteAt f 7 = b.toNat % 256
    (crcGood f = true ↔ 3 ≤ f.length ∧ fieldAt f (f.length - 2) 2 = (crc16 (f.take (f.length - 2))).toNat) ∧
    (crcGood f = false → judge network b label f = .damaged) ∧
    (crcGood f = true → f.length ≠ 20 ∨ byteAt f 0 ≠ 4 → judge network b label f = .stray) ∧
    (crcGood f = true → f.length = 20 → byteAt f 0 = 4 →
      (¬mine → judge network b label f = .stray) ∧
      (mine → replyKindOf (byteAt f 8) = none → judge network b label f = .damaged) ∧
      (mine → ∀ kind, replyKindOf (byteAt f 8) = some kind → judge network b label f = .good
        { kind := kind, staged := BitVec.ofNat 16 (fieldAt f 10 2), shown := BitVec.ofNat 16 (fieldAt f 12 2),
          battery := BitVec.ofNat 4 (byteAt f 9), missing := BitVec.ofNat 32 (fieldAt f 14 4) })) ∧
    (replyKindOf (byteAt f 8) ≠ none ↔ 1 ≤ byteAt f 8 ∧ byteAt f 8 ≤ 5)

/-! ### Item results and due records -/

/-- A good reply lowers health by one, a damaged one raises it by one, silence by two, within 0 to 63; uncharged results leave
it. The write-back carries it to the entry, each opening pass halves it, and with T = 63 no record ends UNREACHABLE (R53). -/
def Obligations.HealthMoves : Prop :=
  ∀ (t : Settings) (done : Bool) (b : BeaconNo) (r : DueRecord), r.health ≤ 63 →
    (∀ y, (r.afterResult t done b (.good y)).health = r.health - 1) ∧
    (r.afterResult t done b .damaged).health = min 63 (r.health + 1) ∧
    (r.afterResult t done b .noReply).health = min 63 (r.health + 2) ∧
    (r.afterResult t done b .lostAtPort).health = r.health ∧
    (r.afterResult t done b .notSent).health = r.health ∧
    (∀ outcome, (r.writeBack t outcome).health = r.health) ∧
    (∀ p : PartHalf, p.openNight.health = p.health / 2) ∧
    (t.threshold = 63 → r.outcome = none → ∀ res, (r.afterResult t done b res).outcome ≠ some .unreachable)

/-- A good reply to a DELIVER item, by the five steps of R57, with its charges. -/
def Obligations.DeliverReplies : Prop :=
  ∀ (t : Settings) (done : Bool) (r : DueRecord) (y : Reply), r.kind = .deliver →
    let e := resultEffect t done r (.good y)
    let missing := (List.range r.segments).filter fun i => y.missing.getLsbD i
    (y.kind = .rejected → e.record = { r with outcome := some .refused } ∧ e.attempt = false) ∧
    (y.kind ≠ .rejected → y.shown = r.target →
      e.record = { r with outcome := some .shown } ∧ e.attempt = false) ∧
    (y.kind ≠ .rejected → y.shown ≠ r.target →
      ((y.kind = .staged ∨ y.kind = .status) → y.staged = r.target →
        (r.mode = .stage → e.record = { r with outcome := some .staged } ∧ e.attempt = false) ∧
        (r.mode = .display → e.record = { r with kind := .display, needed := [] } ∧ e.attempt = true)) ∧
      (y.kind = .partly →
        e.record = { r with needed := if missing = [] then List.range r.segments else missing } ∧
          e.attempt = true) ∧
      (y.kind = .shown ∨ ((y.kind = .staged ∨ y.kind = .status) ∧ y.staged ≠ r.target) →
        e.record = { r with needed := List.range r.segments } ∧ e.attempt = true)) ∧
    (e.charge t (.good y)).health = r.health - 1 ∧
    (e.charge t (.good y)).attempts = if e.attempt then min t.cap (r.attempts + 1) else r.attempts

/-- A good reply to a SHOW item, by the four steps of R58, and a poll answer: after the group's flip by the late policy (R140),
otherwise as an evaluation of the label's own versions would decide (R59, R141). -/
def Obligations.DisplayAndPollReplies : Prop :=
  ∀ (t : Settings) (done : Bool) (r : DueRecord) (y : Reply),
    let e := resultEffect t done r (.good y)
    let again := fun (mode : Mode) =>
      ({ r with kind := .deliver, mode := mode, needed := List.range r.segments, check := none } : DueRecord)
    (e.charge t (.good y)).health = r.health - 1 ∧
    (r.kind ≠ .deliver → y.kind = .rejected →
      e.record = { r with outcome := some .refused } ∧ e.attempt = false) ∧
    (r.kind ≠ .deliver → y.kind ≠ .rejected → y.shown = r.target →
      e.record = { r with outcome := some .shown } ∧ e.attempt = false) ∧
    (r.kind = .display → y.kind ≠ .rejected → y.shown ≠ r.target → e.attempt = true ∧
      e.record = if y.staged = r.target then r else again .display) ∧
    (r.kind = .poll → y.kind ≠ .rejected → y.shown ≠ r.target → e.attempt = false ∧
      (done = true → t.policy = .holdOld → e.record = { r with outcome := some .late }) ∧
      (done = true → t.policy = .showOnArrival → e.record =
        if y.staged = r.target then { r with kind := .display, mode := .display, needed := [] }
        else again .display) ∧
      (done = false → r.group = 0 → e.record = again .display) ∧
      (done = false → r.group ≠ 0 → e.record =
        if y.staged = r.target then { r with outcome := some .staged } else again .stage))

/-- The next eligible beacon of a record that keeps working: backed off by up to four wakes after silence or damage, the very
next wake otherwise; it is a wake beacon again, and the planner plans the record at or after it only (R55). -/
def Obligations.NextEligible : Prop :=
  ∀ (t : Settings) (done : Bool) (b : BeaconNo) (r : DueRecord) (res : ItemResult),
    let after := r.afterResult t done b res
    (after.outcome = none →
      ((res = .noReply ∨ res = .damaged) →
        after.eligible = b + BitVec.ofNat 32 (2 ^ r.k.toNat * min after.attempts 4)) ∧
      (res ≠ .noReply → res ≠ .damaged → after.eligible = b + BitVec.ofNat 32 (2 ^ r.k.toNat)) ∧
      (b.toNat % 2 ^ r.k.toNat = r.phase.toNat → after.eligible.toNat % 2 ^ r.k.toNat = r.phase.toNat) ∧
      after.k = r.k ∧ after.phase = r.phase) ∧
    ∀ b', r.eligibleAt b' = true → (b' - r.eligible).toNat < 2 ^ 31

/-- The late-at-flip flag at step 5 of R52: the late policy turns what was staged too late into LATE or into a SHOW item, a
delivery still staging into LATE or into mode SHOW, changes nothing else, and the flag is cleared; the flip unit sets it on
PLANNED and IN_AIR records, and a retirement as CONTENT_BAD keeps its outcome and clears it (R61; this is how the part treats as late
a label that, by R131, stages its page too late to flip). -/
def Obligations.LateAtFlip : Prop :=
  ∀ (policy : LatePolicy) (r : DueRecord),
    (r.lateAtFlip = false → r.applyLate policy = r) ∧
    (r.lateAtFlip = true →
      let staging := r.outcome = none ∧ r.kind = .deliver ∧ r.mode = .stage
      (r.outcome = some .staged → policy = .holdOld →
        r.applyLate policy = { r with lateAtFlip := false, outcome := some .late }) ∧
      (r.outcome = some .staged → policy = .showOnArrival →
        r.applyLate policy =
          { r with lateAtFlip := false, outcome := none, kind := .display, mode := .display, needed := [] }) ∧
      (staging → policy = .holdOld →
        r.applyLate policy = { r with lateAtFlip := false, outcome := some .late }) ∧
      (staging → policy = .showOnArrival →
        r.applyLate policy = { r with lateAtFlip := false, mode := .display }) ∧
      (r.outcome ≠ some .staged → ¬staging → r.applyLate policy = { r with lateAtFlip := false })) ∧
    (r.state = .planned ∨ r.state = .inAir → r.meetsFlip policy r.group = { r with lateAtFlip := true }) ∧
    (r.retire .contentBad).outcome = some .contentBad ∧ (r.retire .contentBad).lateAtFlip = false

/-! ### The directory: evaluation, the entry reader and the sweep engine -/

/-- The eight steps of an entry's evaluation, the first that applies deciding (R15), and the checks of the entry by the formulas of
R9; that the formula decides for a pool whose own end is past 2^32 is a DESIGN CHOICE (notes/assumptions/40.md). -/
def Obligations.EvaluationSteps : Prop :=
  ∀ (t : Settings) (done : Bool) (e : Entry),
    let h := e.host
    let p := e.part
    let verdict := evaluate t (plainInput done e)
    let grouped := h.group ≠ 0
    let terminal := p.state ∈ [EntryState.unreachable, .gaveUp, .contentBad, .refused, .late]
    let staged := h.requested = p.staged ∧ grouped ∧ p.state ≠ .unsure
    (entryValid t h = true ↔
      h.label ≠ 0 ∧ h.phase.toNat < 2 ^ h.k.toNat ∧ h.k.toNat ≤ (cellAt t.cells h.cell).ceiling.toNat ∧
      h.length ≠ 0 ∧ h.length.toNat ≤ 1536 ∧ h.reference.toNat % 4 = 0 ∧
      t.poolBase.toNat ≤ h.reference.toNat ∧
      h.reference.toNat + 16 + h.length.toNat ≤ t.poolBase.toNat + t.poolSize.toNat) ∧
    (entryValid t h = false → verdict = .state .entryBad) ∧
    (entryValid t h = true → h.hold = true → verdict = .state .held) ∧
    (entryValid t h = true → h.hold = false → terminal → h.requested = p.outcome →
      verdict = .state p.state ∧ p.record p.state h.requested = p) ∧
    (entryValid t h = true → h.hold = false → ¬(terminal ∧ h.requested = p.outcome) →
      (h.requested = 0 → verdict = .state .idle) ∧
      (h.requested ≠ 0 → h.requested = p.shown → verdict = .state .shown) ∧
      (h.requested ≠ 0 → h.requested ≠ p.shown → staged →
        (done = false → verdict = .state .staged) ∧
        (done = true → t.policy = .holdOld → verdict = .state .late) ∧
        (done = true → t.policy = .showOnArrival → verdict = .item .display .display)) ∧
      (h.requested ≠ 0 → h.requested ≠ p.shown → ¬staged →
        (p.state = .unsure → verdict = .item .poll .display) ∧
        (p.state ≠ .unsure → grouped → done = true → t.policy = .holdOld → verdict = .state .late) ∧
        (p.state ≠ .unsure → ¬(grouped ∧ done = true ∧ t.policy = .holdOld) →
          verdict = .item .deliver (if grouped ∧ done = false then .stage else .display))))

/-- The free entry reader takes its next entry from the re-read list, else from the head notice, else from the running
pass, and asks for its 8-word read; an index that a live opening pass has still to reach is passed by unread; with no
source it waits (R2, R26, R27, R35; that the event changes nothing where there is no source is the model's choice,
notes/assumptions/3.md). -/
def Obligations.EntryReaderTakes : Prop :=
  ∀ s : State, s.settled = true → s.sweep.hand = none →
    let takes := fun (i : Nat) (source : HandSource) (visit : Visit) (t : State) =>
      t.sweep.hand = some { index := i, source := source, visit := visit, groups := [], phase := .reading } ∧
        t.bus.asked .entry (.read (s.settings.directoryBase.toNat + 32 * i) 8)
    (∀ i rest, s.sweep.reread = i :: rest →
      (s.sweep.aheadOfOpening i = true →
        exec .entryReaderTake s = .next { s with sweep := { s.sweep with reread := rest } }) ∧
      (s.sweep.aheadOfOpening i = false → ∃ t, exec .entryReaderTake s = .next t ∧
        t = { s with sweep := { s.sweep with reread := rest, hand := t.sweep.hand }, bus := t.bus } ∧
        takes i .reread .plain t)) ∧
    (∀ n rest, s.sweep.reread = [] → s.notices = n :: rest →
      (s.sweep.aheadOfOpening n.progress = true → exec .entryReaderTake s = .next { s with
        notices := if n.progress + 1 < n.first + n.span then { n with progress := n.progress + 1 } :: rest
          else rest }) ∧
      (s.sweep.aheadOfOpening n.progress = false → ∃ t, exec .entryReaderTake s = .next t ∧
        t = { s with sweep := { s.sweep with hand := t.sweep.hand }, bus := t.bus } ∧
        takes n.progress .notice .plain t)) ∧
    (∀ p, s.sweep.reread = [] → s.notices = [] → s.sweep.running = some p → ∃ t,
      exec .entryReaderTake s = .next t ∧
      t = { s with sweep := { s.sweep with hand := t.sweep.hand }, bus := t.bus } ∧
      takes p.cursor (.pass p.kind) (match p.kind with
        | .changeover => .changeover
        | .opening => .opening
        | .rescan => .plain
        | .refill => .refill) t) ∧
    (s.sweep.reread = [] → s.notices = [] → s.sweep.running = none → exec .entryReaderTake s = .next s)

/-- An entry in hand is finished: a re-read or a detached entry frees the entry reader; a notice moves to its next entry or
leaves the queue; a pass moves its cursor and its remaining count, in whichever slot it stands. A pass with nothing left is
complete: a changeover gives its slot back to the pass it suspended and empties the group set; an opening or rescan pass ends with
SWEEP_DONE; an opening pass with a rescan pending begins the rescan, and in every other case a refill begins when a cell asks for one
and no pass is live (R26, R27, R29, R31, R32, R33, R36, R37). -/
def Obligations.EntryFinished : Prop :=
  ∀ (s : State) (h : InHand), s.sweep.hand = some h →
    (h.source = .reread ∨ h.source = .detached →
      s.finishHand = { s with sweep := { s.sweep with hand := none } }) ∧
    (∀ n rest, h.source = .notice → s.notices = n :: rest →
      s.finishHand = { s with
        sweep := { s.sweep with hand := none },
        notices := if n.progress + 1 < n.first + n.span then { n with progress := n.progress + 1 } :: rest
          else rest }) ∧
    ∀ k, h.source = .pass k →
      let moved := fun (p : Pass) => if p.kind = k then
        { p with cursor := if p.cursor + 1 < s.settings.entryCount then p.cursor + 1 else 0,
                 remaining := p.remaining - 1 } else p
      let running := s.sweep.running.map moved
      let suspended := s.sweep.suspended.map moved
      let last := ∃ p, (s.sweep.running = some p ∨ s.sweep.suspended = some p) ∧ p.kind = k ∧ p.remaining ≤ 1
      let left : Sweep := { s.sweep with
        hand := none, running := running.filter fun p => decide (p.kind ≠ k),
        suspended := suspended.filter fun p => decide (p.kind ≠ k) }
      let done : CommandUnit := { s.cmd with attn := s.cmd.attn ||| 256 }
      (¬last → s.finishHand = { s with
        sweep := { s.sweep with hand := none, running := running, suspended := suspended } }) ∧
      (last → k = .changeover → State.refillCheckedInto { s with
        sweep := { s.sweep with hand := none, running := suspended, suspended := none, groupSet := [] } } s.finishHand) ∧
      (last → k = .refill → State.refillCheckedInto { s with sweep := left } s.finishHand) ∧
      (last → k = .rescan → State.refillCheckedInto { s with cmd := done, sweep := left } s.finishHand) ∧
      (last → k = .opening → s.sweep.rescanPending = false →
        State.refillCheckedInto { s with cmd := done, sweep := left } s.finishHand) ∧
      (last → k = .opening → s.sweep.rescanPending = true →
        let u : State := { s with cmd := done, sweep := { left with rescanPending := false } }
        let t := s.finishHand
        (s.nightOn = false → t = u) ∧
        (s.nightOn = true → u.takesRescan t ∧
          t = { u with sweep := t.sweep, due := t.due, deferred := t.deferred, wb := t.wb }))

/-- The entry in hand has been read, for a notice, a re-read, a rescan, a refill or the opening pass. With no record it is
evaluated and the verdict carried out; the opening pass first halves the health and clears the attempts, and of the terminal states
keeps UNREACHABLE alone, while the halved health is above T; a refill deals only with DEFERRED and UNSURE. A read of an entry that a
PLANNED, IN_AIR or RETIRING record holds only sets its flag. A WAITING record is evaluated with the substitutes of R49: a state
retires it, another item retires it as QUEUED to be re-evaluated, and the same item leaves it in place with the host half of the
read (R15, R16, R17, R18, R34, R38, R49, R50, R51; that the part half is compared as decoded is DEDUCED, notes/assumptions/20.md,
and so are that an UNSURE entry which a refill meets with its list full becomes DEFERRED, notes/assumptions/19.md, and that a drain
waits for the entry in hand, notes/assumptions/23.md). -/
def Obligations.EntryReadDone : Prop :=
  ∀ (s : State) (h : InHand) (words : List Word), s.settled = true → s.sweep.hand = some h →
    h.phase = .read words → h.visit ≠ .changeover →
    let e := decodeEntry words
    let done := s.groupDone e.host.group
    let dealt := h.visit = .refill → e.part.state = .deferred ∨ e.part.state = .unsure
    ∃ t, exec .entryReadDone s = .next t ∧
      (¬dealt → s.finishHand.drainedInto t) ∧
      (s.findRecord h.index = none →
        (h.visit ≠ .opening → dealt → s.carriesOut t h e.part e (evaluate s.settings (plainInput done e))) ∧
        (h.visit = .opening →
          let kept := e.part.state = .unreachable ∧ s.settings.threshold < e.part.health / 2
          let fresh : Entry := { e with part := { e.part with health := e.part.health / 2, attempts := 0 } }
          let judged : Entry := { e with part := { e.part with
            outcome := if kept then e.host.requested else e.host.requested + 1 } }
          s.carriesOut t h e.part fresh (evaluate s.settings (plainInput done judged)))) ∧
      ∀ c r, s.findRecord h.index = some (c, r) → dealt →
        let onRecord := fun (f : DueRecord → DueRecord) =>
          ({ s with due := cellPut s.due c ((s.dueAt c).map fun q => if q.index = r.index then f q else q) } : State)
        let retires := fun (outcome : EntryState) (again : Bool) =>
          let u := onRecord fun q => { q with
            target := e.host.requested, reEvaluate := q.reEvaluate || again, outcome := some outcome,
            state := .retiring, lateAtFlip := false }
          ({ u with wb := { s.wb with list := s.wb.list ++ [r.index] },
                    drained := if s.cmd.controller = .stopping then s.drained + 1 else s.drained } : State)
        let refreshed := fun (q : DueRecord) =>
          let content := e.host.length ≠ q.length ∨ e.host.reference ≠ q.reference
          let segments := if content then (e.host.length.toNat + 47) / 48 else q.segments
          ({ q with
            label := e.host.label, k := e.host.k, phase := e.host.phase, group := e.host.group,
            reference := e.host.reference, length := e.host.length, target := e.host.requested,
            urgent := e.host.urgent, segments := segments,
            needed := if e.host.requested ≠ q.target ∨ content ∨ e.host.label ≠ q.label then
              (if q.kind = .deliver then List.range segments else []) else q.needed,
            check := if e.host.requested ≠ q.target ∨ content then none else q.check } : DueRecord)
        let substitute : Entry := { e with part := { e.part with
          state := if e.part.state ∈ [.unreachable, .gaveUp, .contentBad, .refused, .late] then e.part.state
            else if r.kind = .poll then .unsure else .queued,
          staged := (r.reply.map (·.staged)).getD e.part.staged,
          shown := (r.reply.map (·.shown)).getD e.part.shown } }
        let verdict := evaluate s.settings (plainInput done substitute)
        (r.state = .planned ∨ r.state = .inAir →
          (onRecord fun q => { q with refreshPending := true }).finishHand.drainedInto t) ∧
        (r.state = .retiring → (onRecord fun q => { q with reEvaluate := true }).finishHand.drainedInto t) ∧
        (r.state = .waiting →
          (∀ state, verdict = .state state → (retires state false).finishHand.drainedInto t) ∧
          ∀ kind mode, verdict = .item kind mode →
            let same := e.host.cell = r.cell ∧ kind = r.kind ∧ mode = r.mode
            (¬same → (retires .queued true).finishHand.drainedInto t) ∧
            (same → e.host.urgent = r.urgent → (onRecord refreshed).finishHand.drainedInto t) ∧
            (same → e.host.urgent ≠ r.urgent →
              ({ s with due := cellPut s.due c (joinClass ((s.dueAt c).filter fun q => q.index != r.index)
                (refreshed r)) } : State).finishHand.drainedInto t))

/-- A changeover visit to an entry of its groups: STAGED with the requested version, or a LATE settled by evaluation ahead of the
pass, becomes SHOWN by assumption, or UNSURE in a cell of the gap set, with a POLL to follow unless a live opening pass will reach the
entry or the entry is invalid; STAGED with another requested version is evaluated with the group DONE, an item left to the opening
pass that will reach it; DEFERRED becomes LATE under HOLD_OLD; an entry whose record is RETIRING waits for its removal; an entry of
another group or of none, and any other state, is passed by (R10, R35, R39, R41, R136, R137, R138, R139; that an invalid entry is
written UNSURE all the same is DEDUCED, notes/assumptions/27.md, and so is that a drain waits for the entry in hand,
notes/assumptions/23.md; that a set hold flag keeps neither the write nor the POLL back is a DESIGN CHOICE,
notes/assumptions/39.md). -/
def Obligations.ChangeoverVisit : Prop :=
  ∀ (s : State) (h : InHand) (words : List Word), s.settled = true → s.sweep.hand = some h →
    h.phase = .read words → h.visit = .changeover →
    let e := decodeEntry words
    let groups := if h.source = .detached then h.groups else s.sweep.groupSet
    ∃ t, exec .entryReadDone s = .next t ∧
      (e.host.group = 0 → s.finishHand.drainedInto t) ∧
      ∀ g : GroupId, e.host.group.toNat = g.val + 1 →
        let gap := (s.groupRec g).gap.getLsbD e.host.cell.val
        let ahead := s.sweep.aheadOfOpening h.index
        let asks := fun (part : PartHalf) (poll : Option Entry) =>
          let w : SweepWrite := { written := part.state, reportable := reportable e.part part, poll := poll }
          t = { s with bus := t.bus, sweep := { s.sweep with hand := some { h with phase := .writing w } } } ∧
          t.bus.asked .entry
            (.write (s.settings.directoryBase.toNat + 32 * h.index + 16) (partHalfWords part))
        let settled := e.part.staged = e.host.requested ∧ (e.part.state = .staged ∨
          (e.part.state = .late ∧ e.part.outcome = e.host.requested ∧ e.host.requested ≠ 0 ∧
            2 ^ 31 ≤ (e.part.lastContact - (s.groupRec g).flipBeacon).toNat))
        let unsure : PartHalf := { e.part with state := .unsure, outcome := e.host.requested }
        let verdict := evaluate s.settings (plainInput true e)
        (g ∉ groups → s.finishHand.drainedInto t) ∧
        (∀ c r, g ∈ groups → s.findRecord h.index = some (c, r) →
          (r.state = .retiring →
            t = { s with sweep := { s.sweep with hand := some { h with phase := .awaitingRemoval } } }) ∧
          (r.state ≠ .retiring → s.finishHand.drainedInto t)) ∧
        (g ∈ groups → s.findRecord h.index = none →
          (settled → gap = false →
            asks { e.part with state := .shown, outcome := e.host.requested, shown := e.part.staged,
                               replySeen := false } none) ∧
          (settled → gap = true →
            asks unsure (if ahead = true ∨ entryValid s.settings e.host = false then none
              else some { e with part := unsure })) ∧
          (e.part.state = .staged → e.part.staged ≠ e.host.requested →
            ((∃ kind mode, verdict = .item kind mode) → ahead = true → s.finishHand.drainedInto t) ∧
            ((∃ state, verdict = .state state) ∨ ahead = false → s.carriesOut t h e.part e verdict)) ∧
          (e.part.state = .deferred → s.settings.policy = .holdOld →
            asks { e.part with state := .late, outcome := e.host.requested } none) ∧
          (e.part.state = .deferred → s.settings.policy = .showOnArrival → s.finishHand.drainedInto t) ∧
          (e.part.state ≠ .staged → e.part.state ≠ .deferred → ¬settled → s.finishHand.drainedInto t))

/-- The sweep engine's write in its steps: after the part half a reportable change sets entry i's bit of the entry
mark map and then the group mark of that word, and then REPORT is raised and the state counted; a change that is not
reportable ends with the part half. An UNSURE write's POLL follows it, admitted with its admission write when its cell's list has room
and a night runs, and otherwise deferred with the cell's flag set (R20, R28, R37, R47, R139, R170; that the POLL comes without new
checks of the entry is DEDUCED, notes/assumptions/27.md, and so is that a drain waits for the entry in hand,
notes/assumptions/23.md; that a set hold flag does not keep the POLL back is a DESIGN CHOICE, notes/assumptions/39.md). -/
def Obligations.SweepWritesAndMarks : Prop :=
  (∀ (s : State) (h : InHand) (w : SweepWrite), s.settled = true → s.sweep.hand = some h →
    let goes := fun (t : State) (phase : HandPhase) =>
      t = { s with sweep := { s.sweep with hand := some { h with phase := phase } }, bus := t.bus }
    let follows := fun (u t : State) =>
      (w.poll = none → u.finishHand.drainedInto t) ∧
      ∀ e, w.poll = some e →
        let room := s.nightOn = true ∧ (s.dueAt e.host.cell).length < 1024
        (room →
          t = { u with
            due := cellPut u.due e.host.cell (joinClass (s.dueAt e.host.cell)
              (newRecord s.settings h.index e .poll .display (s.timer.now + 1))),
            sweep := { u.sweep with hand := some { h with
              phase := .writing { written := .queued, reportable := false, poll := none } } },
            bus := t.bus } ∧
          t.bus.asked .entry (.write (s.settings.directoryBase.toNat + 32 * h.index + 16)
            (partHalfWords { e.part with state := .queued, outcome := e.host.requested }))) ∧
        (¬room →
          ({ u with deferred := cellPut u.deferred e.host.cell true } : State).finishHand.drainedInto t)
    (h.phase = .written w → w.reportable = true → ∃ t, exec .sweepPartHalfWritten s = .next t ∧
      goes t (.entryMark w) ∧
      t.bus.asked .entry (.pair (s.settings.entryMarkBase.toNat + 4 * (h.index / 32)) (h.index % 32))) ∧
    (h.phase = .written w → w.reportable = false → ∃ t, exec .sweepPartHalfWritten s = .next t ∧ follows s t) ∧
    (h.phase = .entryMarked w → ∃ t, exec .sweepMarkSet s = .next t ∧ goes t (.groupMark w) ∧
      t.bus.asked .entry (.pair (s.settings.groupMarkBase.toNat + 4 * (h.index / 1024)) (h.index / 32 % 32))) ∧
    (h.phase = .groupMarked w → ∃ t, exec .sweepMarkSet s = .next t ∧
      follows { s with counts := s.counts.reach w.written, cmd := { s.cmd with attn := s.cmd.attn ||| 8 } } t) ∧
    NightCounts.reach s.counts .shown = { s.counts with shown := min (s.counts.shown + 1) (2 ^ 32 - 1) } ∧
    NightCounts.reach s.counts .queued = s.counts ∧ NightCounts.reach s.counts .deferred = s.counts) ∧
  ∀ read written : PartHalf, reportable read written = true ↔
    written.state ≠ .queued ∧ written.state ≠ .deferred ∧
      (written.state ≠ read.state ∨ written.outcome ≠ read.outcome)

/-! ### Content fetch -/

/-- The fetch engine: a free one takes the head of its list and asks for the 4-word header, the fetch full when every
segment is needed or no check value is known; a header that agrees goes on to the payload, 16 bytes on; a full fetch
whose header or CRC disagrees retires its record as CONTENT_BAD, a resend fetch's header that disagrees makes the
content restart. Each burst's payload bytes are written into the claimed buffers of the needed segments they belong to, a buffer
FILLED with its segment's last byte and the rest of it zero; after the last burst the item is ready, and a full fetch's check value
is stored. A full fetch reads every segment and a resend fetch the needed ones, run by run, a run in bursts of 8 words and a last one of
the words left over. A failing fetch drops its item, and changes no other item, record or cell (R52, R60, R62, R89, R92, R93, R94, R95,
R96, R98, R100, R101; that the element in service is held beside the list is DEDUCED, notes/assumptions/24.md, and so is that a visit in
hand is not one of a rescan's circle, notes/assumptions/10.md). -/
def Obligations.FetchSteps : Prop :=
  (∀ (s : State) (x : FetchElem) (rest : List FetchElem), s.settled = true → s.fetch.current = none →
    s.fetch.list = x :: rest → ∃ t f, exec .fetchStart s = .next t ∧
      t = { s with fetch := { list := rest, current := some f }, bus := t.bus } ∧ f.elem = x ∧
      f.headerTaken = false ∧ f.known = (s.recordIn x.cell x.index).bind (·.check) ∧
      (f.full = true ↔ x.needed.length = x.segments ∨ f.known = none) ∧
      t.bus.asked .fetch (.read x.reference.toNat 4)) ∧
  (∀ (s : State) (f : Fetch) (r : DueRecord) (i : PlanItem), s.settled = true → s.fetch.current = some f →
    s.recordIn f.elem.cell f.elem.index = some r → s.itemAt f.elem.cell f.elem.beacon f.elem.place = some i →
    i.index = f.elem.index →
    let c := f.elem.cell
    let bad := fun (before t : State) => ∃ u : State, before.dropsItem u c f.elem.beacon f.elem.place i ∧
      t = { u with
        due := cellPut s.due c ((s.dueAt c).map fun q => if q.index = f.elem.index then { q with
          outcome := some .contentBad, state := .retiring, lateAtFlip := false, refreshPending := false,
          reEvaluate := q.reEvaluate || q.refreshPending } else q),
        wb := { s.wb with list := s.wb.list ++ [f.elem.index] },
        drained := s.drained + if s.stopping then 1 else 0 }
    (∀ ws, f.headerTaken = false → f.delivered = [ws] →
      let agrees := (wordOf ws 0).extractLsb' 0 16 = f.elem.target ∧ (wordOf ws 0).extractLsb' 16 16 = f.elem.length
      let check := (wordOf ws 1).extractLsb' 0 16
      (∀ b later, agrees → (f.full = true ∨ f.known = some check) →
        payloadBursts f.elem.length.toNat f.reads = b :: later → ∃ t g, exec .fetchHeaderRead s = .next t ∧
          t = { s with fetch := { s.fetch with current := some g }, bus := t.bus } ∧
          g.headerTaken = true ∧ g.headerCheck = check ∧ g.toOffer = later ∧
          t.bus.asked .fetch (.read (f.elem.reference.toNat + 16 + b.offset) b.words)) ∧
      (¬agrees → f.full = true → ∃ t, exec .fetchHeaderRead s = .next t ∧ bad s t) ∧
      (¬agrees ∨ f.known ≠ some check → f.full = false → ∃ t, exec .fetchHeaderRead s = .next t ∧
        ({ s with due := cellPut s.due c ((s.dueAt c).map fun q => if q.index = f.elem.index then { q with
          needed := List.range q.segments, check := none } else q) } : State).endsNotSent t c
          f.elem.beacon f.elem.place)) ∧
    ∀ ws rest b later, f.headerTaken = true → f.delivered = ws :: rest → f.offered = b :: later →
      let bytes := payloadBytes f.elem.length.toNat b ws
      let crc := if f.full then crcOver f.crc bytes else f.crc
      let filled := fillStore f.elem b.offset bytes (s.storeAt f.elem.cell)
      (later ≠ [] ∨ f.toOffer ≠ [] → exec .fetchBurstRead s = .next { s with
        store := cellPut s.store f.elem.cell filled,
        fetch := { s.fetch with current := some { f with delivered := rest, offered := later, crc := crc } } }) ∧
      (later = [] → f.toOffer = [] → (f.full = false ∨ crc = f.headerCheck) → ∃ t, exec .fetchBurstRead s = .next t ∧
        t = { s with due := t.due, seq := t.seq, fetch := { s.fetch with current := none },
                     store := cellPut s.store f.elem.cell filled } ∧
        t.itemAt f.elem.cell f.elem.beacon f.elem.place = some { i with status := .ready } ∧
        t.recordIn f.elem.cell f.elem.index =
          some (if f.full then { r with check := some f.headerCheck } else r)) ∧
      (later = [] → f.toOffer = [] → f.full = true → crc ≠ f.headerCheck →
        ∃ t, exec .fetchBurstRead s = .next t ∧ bad { s with
          store := cellPut s.store c filled,
          fetch := { s.fetch with current := some { f with delivered := rest, offered := later, crc := crc } } } t)) ∧
  (∀ (f : Fetch) (length first count : Nat) (rest : List Nat),
    (f.full = true → f.reads = List.range f.elem.segments) ∧ (f.full = false → f.reads = f.elem.needed) ∧
    payloadBursts length [] = [] ∧
    (1 ≤ count → (∀ next more, rest = next :: more → next ≠ first + count) →
      let words := (min (48 * (first + count)) length - 48 * first + 3) / 4
      payloadBursts length (List.range' first count ++ rest) =
        ((List.range ((words + 7) / 8)).map fun k =>
          ({ offset := 48 * first + 32 * k, words := min 8 (words - 8 * k) } : Burst)) ++
        payloadBursts length rest)) ∧
  ∀ (x : FetchElem) (b : Burst) (ws : List Word) (bytes : List Byte) (store : List SegBuffer),
    payloadBytes x.length.toNat b ws =
      (ws.flatMap fun w => [wordByte w 0, wordByte w 1, wordByte w 2, wordByte w 3]).take
        (x.length.toNat - b.offset) ∧
    fillStore x b.offset bytes store = store.map fun q =>
      let first := 48 * q.segment
      let stop := min (first + 48) x.length.toNat
      let data := q.data ++ (bytes.take (stop - b.offset)).drop (first - b.offset)
      if q.number ∈ x.buffers ∧ q.filled = false then
        if stop - first ≤ data.length then
          { q with filled := true, data := data ++ List.replicate (48 - data.length) 0 }
        else { q with data := data }
      else q

/-! ### Write-back and the night record -/

/-- A write-back in its steps: the head record's part half at directory base + 32 × index + 16, unless the sweep engine is writing that
entry; for a final outcome the entry mark and then the group mark; then REPORT, the count, and the record's removal from its due list
and from the head of the write-back list. QUEUED and DEFERRED go from the part half to the removal. A removal begins the refill that
its cell asks for, hands a re-evaluated index to the re-read list, or asks for a rescan when that is full, and lets a changeover
visit that waited for it read its entry. The part half holds the outcome, target, health and attempts of the record, with the
fields of the last reply, and without one the fields it had (R8, R21, R27, R28, R32, R37, R64, R65, R137, R168, R170; the fields
kept without a reply are those of the entry at admission, DEDUCED, notes/assumptions/18.md; that the engine waits for the sweep
engine's write of the entry is DEDUCED, notes/assumptions/17.md, and so are that a visit in hand is not one of a rescan's circle,
notes/assumptions/10.md, and what the end of a STOP's drain waits for, notes/assumptions/23.md). -/
def Obligations.WriteBackSteps : Prop :=
  ∀ (s : State) (c : CellId) (r : DueRecord) (o : EntryState), s.settled = true →
    s.headRecord = some (c, r, o) →
    let removed := fun (s' t : State) => ∃ u v : State,
      let left : State := { s' with
        due := cellPut s.due c ((s.dueAt c).filter fun q => q.index != r.index),
        wb := { list := s.wb.list.tail, phase := .idle } }
      let asks := s.nightOn = true ∧ s.sweep.anyLive = false ∧ cellAt s.deferred c = true ∧ (left.dueAt c).length ≤ 768
      let rereads := r.reEvaluate = true ∧ s.nightOn = true
      (asks → u = left.refilling) ∧ (¬asks → u = left) ∧
      (¬rereads → v = u) ∧
      (rereads → u.sweep.reread.length < 4096 → v = { u with sweep := { u.sweep with
        reread := if r.index ∈ u.sweep.reread then u.sweep.reread else u.sweep.reread ++ [r.index] } }) ∧
      (rereads → 4096 ≤ u.sweep.reread.length → u.takesRescan v ∧
        v = { u with sweep := v.sweep, due := v.due, deferred := v.deferred, wb := v.wb }) ∧
      (∀ h, s.sweep.hand = some h → h.index = r.index → h.phase = .awaitingRemoval →
        t = { v with sweep := { v.sweep with hand := some { h with phase := .reading } }, bus := t.bus } ∧
        t.bus.asked .entry (.read (s.settings.directoryBase.toNat + 32 * r.index) 8)) ∧
      ((∀ h, s.sweep.hand = some h → h.index = r.index → h.phase ≠ .awaitingRemoval) → v.drainedInto t)
    let base : PartHalf := { r.kept with state := o, outcome := r.target, health := r.health, attempts := r.attempts }
    (s.wb.phase = .idle → s.sweepWrites r.index = false → ∃ t, exec .writeBackStart s = .next t ∧
      t = { s with wb := { s.wb with phase := .partHalf }, bus := t.bus } ∧
      t.bus.asked .writeBack (.write (s.settings.directoryBase.toNat + 32 * r.index + 16)
        (partHalfWords (r.writeBack s.settings o)))) ∧
    (s.sweepWrites r.index = true → exec .writeBackStart s = .next s) ∧
    (s.wb.phase = .partHalfWritten → o ≠ .queued → o ≠ .deferred → ∃ t,
      exec .writeBackPartHalfWritten s = .next t ∧ t = { s with wb := { s.wb with phase := .entryMark }, bus := t.bus } ∧
      t.bus.asked .writeBack (.pair (s.settings.entryMarkBase.toNat + 4 * (r.index / 32)) (r.index % 32))) ∧
    (s.wb.phase = .partHalfWritten → (o = .queued ∨ o = .deferred) → ∃ t,
      exec .writeBackPartHalfWritten s = .next t ∧ removed s t) ∧
    (s.wb.phase = .entryMarked → ∃ t, exec .writeBackMarkSet s = .next t ∧
      t = { s with wb := { s.wb with phase := .groupMark }, bus := t.bus } ∧
      t.bus.asked .writeBack (.pair (s.settings.groupMarkBase.toNat + 4 * (r.index / 1024)) (r.index / 32 % 32))) ∧
    (s.wb.phase = .groupMarked → ∃ t, exec .writeBackMarkSet s = .next t ∧
      removed { s with counts := s.counts.reach o, cmd := { s.cmd with attn := s.cmd.attn ||| 8 } } t) ∧
    (r.reply = none → r.writeBack s.settings o = base) ∧
    (∀ y, r.reply = some y → r.writeBack s.settings o = { base with
      battery := y.battery, lowBattery := decide (y.battery.toNat ≤ s.settings.floor.toNat), replySeen := true,
      staged := y.staged, shown := y.shown, lastContact := y.beacon })

/-- The end of a night record write: a waiting snapshot begins at once under the next write count, and with none and nobody
waiting the write is just over; the LOAD, STOP or ABORT that waited for the write completes, LOAD with the number of clamps, STOP with
the number of records its drain wrote back, ABORT with the result it was given. The record is 84 words with a copy of the write count
at each end, and every field between them lies at the word and bits of 11.2, the other bits 0 (R172, R173, R180, R184, R185, R189,
R190; that the copies hold the count after the increase is DEDUCED, notes/assumptions/11.md; that the next burst is offered at once
is a DESIGN CHOICE, notes/assumptions/9.md). -/
def Obligations.NightRecordWriteDone : Prop :=
  (∀ (s : State) (w : NightWrite), s.quiet = true → s.night.current = some w → w.complete = true →
    (s.night.waiting = none → w.snapshot.awaited = true →
      let ended : State := { s with night := { s.night with current := none } }
      (∀ before clamps, s.cmd.inProgress = some (.load before (.recording clamps)) →
        exec .nightRecordWriteDone s = .next (ended.finish (if clamps = 0 then .ok else .clamped) clamps)) ∧
      (s.cmd.inProgress = some (.stop true) → exec .nightRecordWriteDone s =
        .next (({ ended with cmd := { s.cmd with controller := .loaded } } : State).finish .ok s.drained)) ∧
      (∀ code value, s.cmd.inProgress = some (.abort code value) →
        exec .nightRecordWriteDone s = .next (ended.finish code value))) ∧
    (s.night.waiting = none → w.snapshot.awaited = false →
      exec .nightRecordWriteDone s = .next { s with night := { s.night with current := none } }) ∧
    (∀ snap, s.night.waiting = some snap → w.snapshot.awaited = false → ∃ t,
      exec .nightRecordWriteDone s = .next t ∧ t = { s with night := t.night, bus := t.bus } ∧
      t.night.writeCount = s.night.writeCount + 1 ∧ t.night.waiting = none ∧
      t.night.current.map (·.snapshot.words) = some (nightRecordWords (s.night.writeCount + 1) snap.words) ∧
      t.bus.asked .night (.write snap.base.toNat
        ((nightRecordWords (s.night.writeCount + 1) snap.words).take 8)))) ∧
  (∀ (s : State) (count : Word),
    let ws := nightRecordWords count (nightFieldWords s)
    let t := s.settings
    let n := s.counts
    ws.length = 84 ∧ wordOf ws 0 = count ∧ wordOf ws 83 = count ∧ wordOf ws 1 = s.cmd.nightNumber ∧
    wordOf ws 2 = s.timer.now ∧
    wordOf ws 3 = 0#18 ++ BitVec.ofBool t.parity ++ BitVec.ofBool (t.policy == .showOnArrival) ++ 0#1 ++
      BitVec.ofNat 3 t.bigK ++ 0#5 ++ BitVec.ofNat 3 s.cmd.controller.code ∧
    wordOf ws 4 = BitVec.ofNat 16 t.lead ++ BitVec.ofNat 16 t.period ∧
    wordOf ws 5 = BitVec.ofNat 16 t.spread ++ BitVec.ofNat 16 t.window ∧
    wordOf ws 6 = t.floor ++ BitVec.ofNat 4 t.cap ++ BitVec.ofNat 8 t.threshold ++ t.network ∧
    (∀ c : CellId, let cell := cellAt t.cells c
      (wordOf ws 7).extractLsb' (8 * c.val) 8 = 0#3 ++ cell.ceiling ++ BitVec.ofNat 2 cell.rate.code) ∧
    (∀ c : CellId, let p := s.portAt c
      wordOf ws (8 + 8 * c.val) = 0#5 ++ BitVec.ofNat 11 (s.dueAt c).length ++ 0#4 ++ BitVec.ofNat 4 p.restartCount ++
        BitVec.ofBool (cellAt s.deferred c) ++ BitVec.ofNat 3 p.status.code ++ 0#1 ++ BitVec.ofNat 3 p.state.code ∧
      wordOf ws (9 + 8 * c.val) = BitVec.ofNat 32 (s.seqAt c).windowsSent ∧
      wordOf ws (10 + 8 * c.val) = BitVec.ofNat 32 (s.seqAt c).itemsSent ∧
      wordOf ws (11 + 8 * c.val) = BitVec.ofNat 32 (s.seqAt c).fetchLate ∧
      wordOf ws (12 + 8 * c.val) = BitVec.ofNat 32 (s.seqAt c).stray ∧
      wordOf ws (13 + 8 * c.val) = BitVec.ofNat 32 p.overrun ∧
      wordOf ws (14 + 8 * c.val) = 0 ∧ wordOf ws (15 + 8 * c.val) = 0) ∧
    (∀ g : GroupId, let r := s.groupRec g
      wordOf ws (40 + 2 * g.val) = 0#24 ++ r.gap ++ 0#2 ++ BitVec.ofNat 2 r.state.code ∧
      wordOf ws (41 + 2 * g.val) = r.flipBeacon) ∧
    (ws.drop 70).take 13 = [n.idle, n.staged, n.shown, n.unsure, n.late, n.unreachable, n.gaveUp, n.contentBad,
      n.refused, n.entryBad, n.held, n.parityFaults, n.noticesLost].map (BitVec.ofNat 32)) ∧
  [ControllerState.unloaded, .loading, .loaded, .running, .paused, .stopping, .faulted].map ControllerState.code =
    List.range 7 ∧
  [CellState.off, .probing, .active, .quiet, .failed].map CellState.code = List.range 5 ∧
  [ProbeStatus.notChecked, .present, .wrongKind, .noAnswer, .lineStuck].map ProbeStatus.code = List.range 5 ∧
  [GroupState.opened, .announced, .cancelling, .done].map GroupState.code = List.range 4 ∧
  [Rate.k50, .k100, .k200].map Rate.code = List.range 3

/-! ### The memory bus -/

/-- The handshake of a transfer: a grant lets the port hold the bus; a backoff keeps the transfer at its first
incomplete word, a locked pair back at its read with the lock given up; the withdrawal requests the bus again. The word issued is
marked as the burst's last when it is the transfer's last, after a backoff as before. An event the port does not await changes
nothing (R160, R161, R162; that an event the port does not await changes nothing is the model's choice,
notes/assumptions/3.md). -/
def Obligations.BusHandshake : Prop :=
  ∀ (s : State) (tr : Transfer), s.bus.current = some tr →
    (s.bus.bus = .requesting → exec .busGrant s = .next { s with bus := { s.bus with bus := .holding } }) ∧
    (s.bus.bus ≠ .requesting → exec .busGrant s = .next s) ∧
    (s.bus.bus = .holding → (∀ start bit, tr.action ≠ .pair start bit) →
      exec .backoff s = .next { s with bus := { s.bus with bus := .backedOff } }) ∧
    (s.bus.bus = .holding → ∀ start bit, tr.action = .pair start bit →
      exec .backoff s = .next { s with
        bus := { s.bus with bus := .backedOff, lock := false, nextWord := 0, got := [] } }) ∧
    (s.bus.bus ≠ .holding → exec .backoff s = .next s) ∧
    (s.bus.bus = .backedOff → ∃ t, exec .backoffWithdrawn s = .next t ∧
      t = { s with bus := { s.bus with bus := .requesting, lock := t.bus.lock } } ∧
      (t.bus.lock = true ↔ ∃ start bit, tr.action = .pair start bit)) ∧
    (s.bus.bus ≠ .backedOff → exec .backoffWithdrawn s = .next s) ∧
    (s.bus.burstLast = true ↔ s.bus.bus = .holding ∧ s.bus.nextWord + 1 = match tr.action with
      | .read _ count => count
      | .write _ words => words.length
      | .pair _ _ => 2)

/-- Words of a transfer: one that is not the last moves the port to the next word; a read word that fails its parity repeats the
transfer from its first word, once. With the last word the port gives the bus back, the words reach the requester, whatever it is, and
the port makes its next choice; a read that fails on its repeat raises MEM_FAULT, is counted, and is handled by its requester. A
transfer that a cut has left without its requester brings nobody anything (R19, R26, R28, R40, R102, R160, R162, R163, R165, R166,
R168, R172, R173, R179; that a fetch's, a night record write's and the anchor read's next burst is offered at once, so that no part-half
write comes between a fetch's payload bursts, is a DESIGN CHOICE, notes/assumptions/9.md; that the drain of a STOP waits for the entry in
hand is DEDUCED, notes/assumptions/23.md). -/
def Obligations.WordComplete : Prop :=
  ∀ (s : State) (tr : Transfer) (data : Word) (parity : BitVec 4), s.quiet = true →
    s.bus.bus = .holding → s.bus.current = some tr →
    let reads := tr.action.readsAt s.bus.nextWord
    let bad := tr.checked = true ∧ reads = true ∧ parityGood data parity = false
    let last := tr.action.words ≤ s.bus.nextWord + 1
    let got := if reads then s.bus.got ++ [data] else s.bus.got
    let idle : MemoryPort := { s.bus with
      bus := .idle, current := none, nextWord := 0, got := [], lock := false, retry := false }
    (bad → s.bus.retry = false → exec (.wordComplete data parity) s = .next { s with
      bus := { s.bus with retry := true, nextWord := 0, got := [] } }) ∧
    (¬bad → ¬last → ∃ t, exec (.wordComplete data parity) s = .next t ∧
      t = { s with shared := t.shared, bus := { s.bus with
        nextWord := s.bus.nextWord + 1, got := got, retry := s.bus.retry && !tr.action.isPair } }) ∧
    ((∀ busy, s.cmd.inProgress ≠ some (.reset busy)) →
      (¬bad → last → ∃ t u, exec (.wordComplete data parity) s = .next t ∧ u.settlesInto t ∧
        let ended : State := { s with shared := t.shared, bus := idle }
        (tr.orphan = true → u = ended) ∧ (tr.orphan = false → ended.delivers u tr.requester got)) ∧
      (bad → s.bus.retry = true → ∃ t u, exec (.wordComplete data parity) s = .next t ∧ u.settlesInto t ∧
        let ended : State := { s with
          bus := idle, cmd := { s.cmd with attn := s.cmd.attn ||| 64 },
          counts := { s.counts with parityFaults := min (s.counts.parityFaults + 1) (2 ^ 32 - 1) } }
        (tr.orphan = true → u = ended) ∧ (tr.orphan = false → ended.handlesFailure u tr.requester)))

/-- The one way the part writes shared memory: a word of the transfer in progress writes its four bytes,
little-endian, at its own address and no other byte; a locked pair writes the word read with its one bit set; a read
word, a word with bad parity and every other command write nothing. A completed word while the port holds no bus, or has no transfer,
changes nothing at all (R160, R162, R163, R190; that it changes nothing is the model's choice, notes/assumptions/3.md, and so is that
the list holds just what the part wrote, notes/assumptions/5.md). -/
def Obligations.OnlyTransfersWriteMemory : Prop :=
  (∀ (s t : State) (tr : Transfer) (data : Word) (parity : BitVec 4), s.bus.bus = .holding →
    s.bus.current = some tr → exec (.wordComplete data parity) s = .next t →
    let bad := tr.wordBad s.bus.nextWord data parity = true
    let address := (tr.action.wordAddress s.bus.nextWord).toNat
    (bad ∨ tr.action.writesAt s.bus.got s.bus.nextWord = none → t.shared = s.shared) ∧
    ∀ w, ¬bad → tr.action.writesAt s.bus.got s.bus.nextWord = some w →
      (∀ i : Nat, i < 4 → readByte t.shared (address + i) = some (w.extractLsb' (8 * i) 8)) ∧
      ∀ a : Nat, a < address ∨ address + 4 ≤ a → readByte t.shared a = readByte s.shared a) ∧
  (∀ (start bit : Nat) (got : List Word),
    (Action.pair start bit).writesAt got 0 = none ∧
    (Action.pair start bit).writesAt got 1 = some (wordOf got 0 ||| BitVec.ofNat 32 (2 ^ bit))) ∧
  (∀ (s : State) (data : Word) (parity : BitVec 4), s.settled = true →
    s.bus.bus ≠ .holding ∨ s.bus.current = none → exec (.wordComplete data parity) s = .next s) ∧
  ∀ (c : Instr) (s t : State), (∀ data parity, c ≠ .wordComplete data parity) → exec c s = .next t →
    t.shared = s.shared ∧ t.pending = s.pending

/-- A transfer error makes the controller FAULTED with its attention: the night's work is discarded, with every plan, record and
announcement; each cell is cut, or, under a LOAD that is probing, brought back to what it held before it; the memory port is idle, no
night record write is made, and a command in progress completes with FAULT (R41, R66, R88, R105, R122, R124, R144, R153, R159,
R164, R173, R185; that a cell takes its state before its probe command has ended is DEDUCED, notes/assumptions/28.md, and so is
a restart probe that LOAD had displaced, notes/assumptions/15.md, and that the cells return as for ABORT when the error falls in
LOAD's probes, notes/assumptions/38.md). -/
def Obligations.TransferErrorFaults : Prop :=
  ∀ (s : State) (tr : Transfer), s.cmd.waiting = none → s.bus.bus = .holding → s.bus.current = some tr →
    (∀ busy, s.cmd.inProgress ≠ some (.reset busy)) → ∃ t, exec .transferError s = .next t ∧
      t = { s with cmd := t.cmd, notices := [], sweep := State.reset.sweep, due := Vector.replicate 4 [], seq := t.seq,
                   fetch := { list := [], current := none }, store := Vector.replicate 4 [],
                   timer := { s.timer with schedule := none }, flip := t.flip, port := t.port,
                   bus := State.reset.bus, wb := { list := [], phase := .idle },
                   night := { s.night with current := none, waiting := none } } ∧
      t.flip.reported = s.flip.reported ∧
      (∀ g : GroupId, t.groupRec g = { s.groupRec g with state := .opened }) ∧
      (∀ c : CellId, t.seqAt c = { s.seqAt c with
        coming := none, standing := none, position := .noWindow, upNext := 0, slotsLeft := 0,
        obs := { good := none, damaged := false, overrun := false }, offPending := false,
        cut := (t.seqAt c).cut }) ∧
      ((∀ before aside clamps saved, s.cmd.inProgress ≠ some (.load before (.probing aside clamps saved))) →
        ∀ c : CellId, s.cutInto t c) ∧
      (∀ before aside clamps saved, s.cmd.inProgress = some (.load before (.probing aside clamps saved)) →
        ∀ c : CellId, (t.portAt c).broughtBack (cellAt saved c) ∧ (t.portAt c).fifo = [] ∧
          (t.portAt c).holding = none ∧ (t.portAt c).behind = []) ∧
      (s.cmd.inProgress = none →
        t.cmd = { s.cmd with controller := .faulted, attn := s.cmd.attn ||| 128 }) ∧
      (s.cmd.inProgress.isSome = true →
        t.cmd = { s.cmd with controller := .faulted, attn := s.cmd.attn ||| 129, inProgress := none,
                             resultCode := .fault, resultValue := 0 })

/-! ### Invariants -/

/-- The state after reset meets the three invariants. -/
def Obligations.ResetMeetsTheInvariants : Prop :=
  Memory.wf State.reset.shared = true ∧ State.reset.settled = true ∧ State.reset.withinCapacity = true ∧
    State.reset.controllerFits = true

/-- Every step keeps the list of bytes written to shared memory in its canonical form, addresses strictly rising. The form
is the model's choice (notes/assumptions/5.md). -/
def Obligations.StepKeepsSharedMemoryCanonical : Prop :=
  ∀ s t : State, Memory.wf s.shared = true → step s = .next t → Memory.wf t.shared = true

/-- Every step leaves nothing waiting that could begin, and keeps the notice queue within 8 notices, the re-read list within
4,096 indices held once each, and every due list within 1,024 records (R24, R27, R42, R65, R146, R165, R172, R175, R184). Two clauses
of `settled` are the model's: that a free port which makes no probe has taken over a new clock idle level is a DESIGN CHOICE
(notes/assumptions/33.md), and what the end of a STOP's drain waits for, and that it is noticed at once, is DEDUCED
(notes/assumptions/23.md). -/
def Obligations.StepKeepsSettledWithinCapacity : Prop :=
  ∀ s t : State, s.settled = true → s.withinCapacity = true → step s = .next t →
    t.settled = true ∧ t.withinCapacity = true

/-- Every step keeps the controller state in accord with the command in progress: one is always in progress in LOADING and in
STOPPING, and the beacon timer has an event scheduled exactly in RUNNING and PAUSED (R106, R178, R183). -/
def Obligations.StepKeepsControllerFit : Prop :=
  ∀ s t : State, s.controllerFits = true → step s = .next t → t.controllerFits = true
end

