-- ==== Sys2Proof/Laws/State.lean ====
section
/-! SUPPORT. The small lemmas of State's block updates: one per field per update, and the tables of cells and groups. -/

namespace Sys2Proof.Machine

/-! ### setCmd -/

section
variable (s : State) (v : CommandUnit)

@[simp] theorem State.setCmd_cmd : (s.setCmd v).cmd = v := rfl
@[simp] theorem State.setCmd_settings : (s.setCmd v).settings = s.settings := rfl
@[simp] theorem State.setCmd_inForce : (s.setCmd v).inForce = s.inForce := rfl
@[simp] theorem State.setCmd_notices : (s.setCmd v).notices = s.notices := rfl
@[simp] theorem State.setCmd_sweep : (s.setCmd v).sweep = s.sweep := rfl
@[simp] theorem State.setCmd_due : (s.setCmd v).due = s.due := rfl
@[simp] theorem State.setCmd_deferred : (s.setCmd v).deferred = s.deferred := rfl
@[simp] theorem State.setCmd_drained : (s.setCmd v).drained = s.drained := rfl
@[simp] theorem State.setCmd_seq : (s.setCmd v).seq = s.seq := rfl
@[simp] theorem State.setCmd_fetch : (s.setCmd v).fetch = s.fetch := rfl
@[simp] theorem State.setCmd_store : (s.setCmd v).store = s.store := rfl
@[simp] theorem State.setCmd_timer : (s.setCmd v).timer = s.timer := rfl
@[simp] theorem State.setCmd_flip : (s.setCmd v).flip = s.flip := rfl
@[simp] theorem State.setCmd_port : (s.setCmd v).port = s.port := rfl
@[simp] theorem State.setCmd_bus : (s.setCmd v).bus = s.bus := rfl
@[simp] theorem State.setCmd_wb : (s.setCmd v).wb = s.wb := rfl
@[simp] theorem State.setCmd_night : (s.setCmd v).night = s.night := rfl
@[simp] theorem State.setCmd_counts : (s.setCmd v).counts = s.counts := rfl
@[simp] theorem State.setCmd_shared : (s.setCmd v).shared = s.shared := rfl
@[simp] theorem State.setCmd_pending : (s.setCmd v).pending = s.pending := rfl

end

/-! ### setSettings -/

section
variable (s : State) (v : Settings)

@[simp] theorem State.setSettings_cmd : (s.setSettings v).cmd = s.cmd := rfl
@[simp] theorem State.setSettings_settings : (s.setSettings v).settings = v := rfl
@[simp] theorem State.setSettings_inForce : (s.setSettings v).inForce = s.inForce := rfl
@[simp] theorem State.setSettings_notices : (s.setSettings v).notices = s.notices := rfl
@[simp] theorem State.setSettings_sweep : (s.setSettings v).sweep = s.sweep := rfl
@[simp] theorem State.setSettings_due : (s.setSettings v).due = s.due := rfl
@[simp] theorem State.setSettings_deferred : (s.setSettings v).deferred = s.deferred := rfl
@[simp] theorem State.setSettings_drained : (s.setSettings v).drained = s.drained := rfl
@[simp] theorem State.setSettings_seq : (s.setSettings v).seq = s.seq := rfl
@[simp] theorem State.setSettings_fetch : (s.setSettings v).fetch = s.fetch := rfl
@[simp] theorem State.setSettings_store : (s.setSettings v).store = s.store := rfl
@[simp] theorem State.setSettings_timer : (s.setSettings v).timer = s.timer := rfl
@[simp] theorem State.setSettings_flip : (s.setSettings v).flip = s.flip := rfl
@[simp] theorem State.setSettings_port : (s.setSettings v).port = s.port := rfl
@[simp] theorem State.setSettings_bus : (s.setSettings v).bus = s.bus := rfl
@[simp] theorem State.setSettings_wb : (s.setSettings v).wb = s.wb := rfl
@[simp] theorem State.setSettings_night : (s.setSettings v).night = s.night := rfl
@[simp] theorem State.setSettings_counts : (s.setSettings v).counts = s.counts := rfl
@[simp] theorem State.setSettings_shared : (s.setSettings v).shared = s.shared := rfl
@[simp] theorem State.setSettings_pending : (s.setSettings v).pending = s.pending := rfl

end

/-! ### setInForce -/

section
variable (s : State) (v : Bool)

@[simp] theorem State.setInForce_cmd : (s.setInForce v).cmd = s.cmd := rfl
@[simp] theorem State.setInForce_settings : (s.setInForce v).settings = s.settings := rfl
@[simp] theorem State.setInForce_inForce : (s.setInForce v).inForce = v := rfl
@[simp] theorem State.setInForce_notices : (s.setInForce v).notices = s.notices := rfl
@[simp] theorem State.setInForce_sweep : (s.setInForce v).sweep = s.sweep := rfl
@[simp] theorem State.setInForce_due : (s.setInForce v).due = s.due := rfl
@[simp] theorem State.setInForce_deferred : (s.setInForce v).deferred = s.deferred := rfl
@[simp] theorem State.setInForce_drained : (s.setInForce v).drained = s.drained := rfl
@[simp] theorem State.setInForce_seq : (s.setInForce v).seq = s.seq := rfl
@[simp] theorem State.setInForce_fetch : (s.setInForce v).fetch = s.fetch := rfl
@[simp] theorem State.setInForce_store : (s.setInForce v).store = s.store := rfl
@[simp] theorem State.setInForce_timer : (s.setInForce v).timer = s.timer := rfl
@[simp] theorem State.setInForce_flip : (s.setInForce v).flip = s.flip := rfl
@[simp] theorem State.setInForce_port : (s.setInForce v).port = s.port := rfl
@[simp] theorem State.setInForce_bus : (s.setInForce v).bus = s.bus := rfl
@[simp] theorem State.setInForce_wb : (s.setInForce v).wb = s.wb := rfl
@[simp] theorem State.setInForce_night : (s.setInForce v).night = s.night := rfl
@[simp] theorem State.setInForce_counts : (s.setInForce v).counts = s.counts := rfl
@[simp] theorem State.setInForce_shared : (s.setInForce v).shared = s.shared := rfl
@[simp] theorem State.setInForce_pending : (s.setInForce v).pending = s.pending := rfl

end

/-! ### setNotices -/

section
variable (s : State) (v : List Notice)

@[simp] theorem State.setNotices_cmd : (s.setNotices v).cmd = s.cmd := rfl
@[simp] theorem State.setNotices_settings : (s.setNotices v).settings = s.settings := rfl
@[simp] theorem State.setNotices_inForce : (s.setNotices v).inForce = s.inForce := rfl
@[simp] theorem State.setNotices_notices : (s.setNotices v).notices = v := rfl
@[simp] theorem State.setNotices_sweep : (s.setNotices v).sweep = s.sweep := rfl
@[simp] theorem State.setNotices_due : (s.setNotices v).due = s.due := rfl
@[simp] theorem State.setNotices_deferred : (s.setNotices v).deferred = s.deferred := rfl
@[simp] theorem State.setNotices_drained : (s.setNotices v).drained = s.drained := rfl
@[simp] theorem State.setNotices_seq : (s.setNotices v).seq = s.seq := rfl
@[simp] theorem State.setNotices_fetch : (s.setNotices v).fetch = s.fetch := rfl
@[simp] theorem State.setNotices_store : (s.setNotices v).store = s.store := rfl
@[simp] theorem State.setNotices_timer : (s.setNotices v).timer = s.timer := rfl
@[simp] theorem State.setNotices_flip : (s.setNotices v).flip = s.flip := rfl
@[simp] theorem State.setNotices_port : (s.setNotices v).port = s.port := rfl
@[simp] theorem State.setNotices_bus : (s.setNotices v).bus = s.bus := rfl
@[simp] theorem State.setNotices_wb : (s.setNotices v).wb = s.wb := rfl
@[simp] theorem State.setNotices_night : (s.setNotices v).night = s.night := rfl
@[simp] theorem State.setNotices_counts : (s.setNotices v).counts = s.counts := rfl
@[simp] theorem State.setNotices_shared : (s.setNotices v).shared = s.shared := rfl
@[simp] theorem State.setNotices_pending : (s.setNotices v).pending = s.pending := rfl

end

/-! ### setSweep -/

section
variable (s : State) (v : Sweep)

@[simp] theorem State.setSweep_cmd : (s.setSweep v).cmd = s.cmd := rfl
@[simp] theorem State.setSweep_settings : (s.setSweep v).settings = s.settings := rfl
@[simp] theorem State.setSweep_inForce : (s.setSweep v).inForce = s.inForce := rfl
@[simp] theorem State.setSweep_notices : (s.setSweep v).notices = s.notices := rfl
@[simp] theorem State.setSweep_sweep : (s.setSweep v).sweep = v := rfl
@[simp] theorem State.setSweep_due : (s.setSweep v).due = s.due := rfl
@[simp] theorem State.setSweep_deferred : (s.setSweep v).deferred = s.deferred := rfl
@[simp] theorem State.setSweep_drained : (s.setSweep v).drained = s.drained := rfl
@[simp] theorem State.setSweep_seq : (s.setSweep v).seq = s.seq := rfl
@[simp] theorem State.setSweep_fetch : (s.setSweep v).fetch = s.fetch := rfl
@[simp] theorem State.setSweep_store : (s.setSweep v).store = s.store := rfl
@[simp] theorem State.setSweep_timer : (s.setSweep v).timer = s.timer := rfl
@[simp] theorem State.setSweep_flip : (s.setSweep v).flip = s.flip := rfl
@[simp] theorem State.setSweep_port : (s.setSweep v).port = s.port := rfl
@[simp] theorem State.setSweep_bus : (s.setSweep v).bus = s.bus := rfl
@[simp] theorem State.setSweep_wb : (s.setSweep v).wb = s.wb := rfl
@[simp] theorem State.setSweep_night : (s.setSweep v).night = s.night := rfl
@[simp] theorem State.setSweep_counts : (s.setSweep v).counts = s.counts := rfl
@[simp] theorem State.setSweep_shared : (s.setSweep v).shared = s.shared := rfl
@[simp] theorem State.setSweep_pending : (s.setSweep v).pending = s.pending := rfl

end

/-! ### setDue -/

section
variable (s : State) (v : PerCell (List DueRecord))

@[simp] theorem State.setDue_cmd : (s.setDue v).cmd = s.cmd := rfl
@[simp] theorem State.setDue_settings : (s.setDue v).settings = s.settings := rfl
@[simp] theorem State.setDue_inForce : (s.setDue v).inForce = s.inForce := rfl
@[simp] theorem State.setDue_notices : (s.setDue v).notices = s.notices := rfl
@[simp] theorem State.setDue_sweep : (s.setDue v).sweep = s.sweep := rfl
@[simp] theorem State.setDue_due : (s.setDue v).due = v := rfl
@[simp] theorem State.setDue_deferred : (s.setDue v).deferred = s.deferred := rfl
@[simp] theorem State.setDue_drained : (s.setDue v).drained = s.drained := rfl
@[simp] theorem State.setDue_seq : (s.setDue v).seq = s.seq := rfl
@[simp] theorem State.setDue_fetch : (s.setDue v).fetch = s.fetch := rfl
@[simp] theorem State.setDue_store : (s.setDue v).store = s.store := rfl
@[simp] theorem State.setDue_timer : (s.setDue v).timer = s.timer := rfl
@[simp] theorem State.setDue_flip : (s.setDue v).flip = s.flip := rfl
@[simp] theorem State.setDue_port : (s.setDue v).port = s.port := rfl
@[simp] theorem State.setDue_bus : (s.setDue v).bus = s.bus := rfl
@[simp] theorem State.setDue_wb : (s.setDue v).wb = s.wb := rfl
@[simp] theorem State.setDue_night : (s.setDue v).night = s.night := rfl
@[simp] theorem State.setDue_counts : (s.setDue v).counts = s.counts := rfl
@[simp] theorem State.setDue_shared : (s.setDue v).shared = s.shared := rfl
@[simp] theorem State.setDue_pending : (s.setDue v).pending = s.pending := rfl

end

/-! ### setDeferred -/

section
variable (s : State) (v : PerCell Bool)

@[simp] theorem State.setDeferred_cmd : (s.setDeferred v).cmd = s.cmd := rfl
@[simp] theorem State.setDeferred_settings : (s.setDeferred v).settings = s.settings := rfl
@[simp] theorem State.setDeferred_inForce : (s.setDeferred v).inForce = s.inForce := rfl
@[simp] theorem State.setDeferred_notices : (s.setDeferred v).notices = s.notices := rfl
@[simp] theorem State.setDeferred_sweep : (s.setDeferred v).sweep = s.sweep := rfl
@[simp] theorem State.setDeferred_due : (s.setDeferred v).due = s.due := rfl
@[simp] theorem State.setDeferred_deferred : (s.setDeferred v).deferred = v := rfl
@[simp] theorem State.setDeferred_drained : (s.setDeferred v).drained = s.drained := rfl
@[simp] theorem State.setDeferred_seq : (s.setDeferred v).seq = s.seq := rfl
@[simp] theorem State.setDeferred_fetch : (s.setDeferred v).fetch = s.fetch := rfl
@[simp] theorem State.setDeferred_store : (s.setDeferred v).store = s.store := rfl
@[simp] theorem State.setDeferred_timer : (s.setDeferred v).timer = s.timer := rfl
@[simp] theorem State.setDeferred_flip : (s.setDeferred v).flip = s.flip := rfl
@[simp] theorem State.setDeferred_port : (s.setDeferred v).port = s.port := rfl
@[simp] theorem State.setDeferred_bus : (s.setDeferred v).bus = s.bus := rfl
@[simp] theorem State.setDeferred_wb : (s.setDeferred v).wb = s.wb := rfl
@[simp] theorem State.setDeferred_night : (s.setDeferred v).night = s.night := rfl
@[simp] theorem State.setDeferred_counts : (s.setDeferred v).counts = s.counts := rfl
@[simp] theorem State.setDeferred_shared : (s.setDeferred v).shared = s.shared := rfl
@[simp] theorem State.setDeferred_pending : (s.setDeferred v).pending = s.pending := rfl

end

/-! ### setDrained -/

section
variable (s : State) (v : Nat)

@[simp] theorem State.setDrained_cmd : (s.setDrained v).cmd = s.cmd := rfl
@[simp] theorem State.setDrained_settings : (s.setDrained v).settings = s.settings := rfl
@[simp] theorem State.setDrained_inForce : (s.setDrained v).inForce = s.inForce := rfl
@[simp] theorem State.setDrained_notices : (s.setDrained v).notices = s.notices := rfl
@[simp] theorem State.setDrained_sweep : (s.setDrained v).sweep = s.sweep := rfl
@[simp] theorem State.setDrained_due : (s.setDrained v).due = s.due := rfl
@[simp] theorem State.setDrained_deferred : (s.setDrained v).deferred = s.deferred := rfl
@[simp] theorem State.setDrained_drained : (s.setDrained v).drained = v := rfl
@[simp] theorem State.setDrained_seq : (s.setDrained v).seq = s.seq := rfl
@[simp] theorem State.setDrained_fetch : (s.setDrained v).fetch = s.fetch := rfl
@[simp] theorem State.setDrained_store : (s.setDrained v).store = s.store := rfl
@[simp] theorem State.setDrained_timer : (s.setDrained v).timer = s.timer := rfl
@[simp] theorem State.setDrained_flip : (s.setDrained v).flip = s.flip := rfl
@[simp] theorem State.setDrained_port : (s.setDrained v).port = s.port := rfl
@[simp] theorem State.setDrained_bus : (s.setDrained v).bus = s.bus := rfl
@[simp] theorem State.setDrained_wb : (s.setDrained v).wb = s.wb := rfl
@[simp] theorem State.setDrained_night : (s.setDrained v).night = s.night := rfl
@[simp] theorem State.setDrained_counts : (s.setDrained v).counts = s.counts := rfl
@[simp] theorem State.setDrained_shared : (s.setDrained v).shared = s.shared := rfl
@[simp] theorem State.setDrained_pending : (s.setDrained v).pending = s.pending := rfl

end

/-! ### setSeq -/

section
variable (s : State) (v : PerCell Sequencer)

@[simp] theorem State.setSeq_cmd : (s.setSeq v).cmd = s.cmd := rfl
@[simp] theorem State.setSeq_settings : (s.setSeq v).settings = s.settings := rfl
@[simp] theorem State.setSeq_inForce : (s.setSeq v).inForce = s.inForce := rfl
@[simp] theorem State.setSeq_notices : (s.setSeq v).notices = s.notices := rfl
@[simp] theorem State.setSeq_sweep : (s.setSeq v).sweep = s.sweep := rfl
@[simp] theorem State.setSeq_due : (s.setSeq v).due = s.due := rfl
@[simp] theorem State.setSeq_deferred : (s.setSeq v).deferred = s.deferred := rfl
@[simp] theorem State.setSeq_drained : (s.setSeq v).drained = s.drained := rfl
@[simp] theorem State.setSeq_seq : (s.setSeq v).seq = v := rfl
@[simp] theorem State.setSeq_fetch : (s.setSeq v).fetch = s.fetch := rfl
@[simp] theorem State.setSeq_store : (s.setSeq v).store = s.store := rfl
@[simp] theorem State.setSeq_timer : (s.setSeq v).timer = s.timer := rfl
@[simp] theorem State.setSeq_flip : (s.setSeq v).flip = s.flip := rfl
@[simp] theorem State.setSeq_port : (s.setSeq v).port = s.port := rfl
@[simp] theorem State.setSeq_bus : (s.setSeq v).bus = s.bus := rfl
@[simp] theorem State.setSeq_wb : (s.setSeq v).wb = s.wb := rfl
@[simp] theorem State.setSeq_night : (s.setSeq v).night = s.night := rfl
@[simp] theorem State.setSeq_counts : (s.setSeq v).counts = s.counts := rfl
@[simp] theorem State.setSeq_shared : (s.setSeq v).shared = s.shared := rfl
@[simp] theorem State.setSeq_pending : (s.setSeq v).pending = s.pending := rfl

end

/-! ### setFetch -/

section
variable (s : State) (v : FetchEngine)

@[simp] theorem State.setFetch_cmd : (s.setFetch v).cmd = s.cmd := rfl
@[simp] theorem State.setFetch_settings : (s.setFetch v).settings = s.settings := rfl
@[simp] theorem State.setFetch_inForce : (s.setFetch v).inForce = s.inForce := rfl
@[simp] theorem State.setFetch_notices : (s.setFetch v).notices = s.notices := rfl
@[simp] theorem State.setFetch_sweep : (s.setFetch v).sweep = s.sweep := rfl
@[simp] theorem State.setFetch_due : (s.setFetch v).due = s.due := rfl
@[simp] theorem State.setFetch_deferred : (s.setFetch v).deferred = s.deferred := rfl
@[simp] theorem State.setFetch_drained : (s.setFetch v).drained = s.drained := rfl
@[simp] theorem State.setFetch_seq : (s.setFetch v).seq = s.seq := rfl
@[simp] theorem State.setFetch_fetch : (s.setFetch v).fetch = v := rfl
@[simp] theorem State.setFetch_store : (s.setFetch v).store = s.store := rfl
@[simp] theorem State.setFetch_timer : (s.setFetch v).timer = s.timer := rfl
@[simp] theorem State.setFetch_flip : (s.setFetch v).flip = s.flip := rfl
@[simp] theorem State.setFetch_port : (s.setFetch v).port = s.port := rfl
@[simp] theorem State.setFetch_bus : (s.setFetch v).bus = s.bus := rfl
@[simp] theorem State.setFetch_wb : (s.setFetch v).wb = s.wb := rfl
@[simp] theorem State.setFetch_night : (s.setFetch v).night = s.night := rfl
@[simp] theorem State.setFetch_counts : (s.setFetch v).counts = s.counts := rfl
@[simp] theorem State.setFetch_shared : (s.setFetch v).shared = s.shared := rfl
@[simp] theorem State.setFetch_pending : (s.setFetch v).pending = s.pending := rfl

end

/-! ### setStore -/

section
variable (s : State) (v : PerCell (List SegBuffer))

@[simp] theorem State.setStore_cmd : (s.setStore v).cmd = s.cmd := rfl
@[simp] theorem State.setStore_settings : (s.setStore v).settings = s.settings := rfl
@[simp] theorem State.setStore_inForce : (s.setStore v).inForce = s.inForce := rfl
@[simp] theorem State.setStore_notices : (s.setStore v).notices = s.notices := rfl
@[simp] theorem State.setStore_sweep : (s.setStore v).sweep = s.sweep := rfl
@[simp] theorem State.setStore_due : (s.setStore v).due = s.due := rfl
@[simp] theorem State.setStore_deferred : (s.setStore v).deferred = s.deferred := rfl
@[simp] theorem State.setStore_drained : (s.setStore v).drained = s.drained := rfl
@[simp] theorem State.setStore_seq : (s.setStore v).seq = s.seq := rfl
@[simp] theorem State.setStore_fetch : (s.setStore v).fetch = s.fetch := rfl
@[simp] theorem State.setStore_store : (s.setStore v).store = v := rfl
@[simp] theorem State.setStore_timer : (s.setStore v).timer = s.timer := rfl
@[simp] theorem State.setStore_flip : (s.setStore v).flip = s.flip := rfl
@[simp] theorem State.setStore_port : (s.setStore v).port = s.port := rfl
@[simp] theorem State.setStore_bus : (s.setStore v).bus = s.bus := rfl
@[simp] theorem State.setStore_wb : (s.setStore v).wb = s.wb := rfl
@[simp] theorem State.setStore_night : (s.setStore v).night = s.night := rfl
@[simp] theorem State.setStore_counts : (s.setStore v).counts = s.counts := rfl
@[simp] theorem State.setStore_shared : (s.setStore v).shared = s.shared := rfl
@[simp] theorem State.setStore_pending : (s.setStore v).pending = s.pending := rfl

end

/-! ### setTimer -/

section
variable (s : State) (v : BeaconTimer)

@[simp] theorem State.setTimer_cmd : (s.setTimer v).cmd = s.cmd := rfl
@[simp] theorem State.setTimer_settings : (s.setTimer v).settings = s.settings := rfl
@[simp] theorem State.setTimer_inForce : (s.setTimer v).inForce = s.inForce := rfl
@[simp] theorem State.setTimer_notices : (s.setTimer v).notices = s.notices := rfl
@[simp] theorem State.setTimer_sweep : (s.setTimer v).sweep = s.sweep := rfl
@[simp] theorem State.setTimer_due : (s.setTimer v).due = s.due := rfl
@[simp] theorem State.setTimer_deferred : (s.setTimer v).deferred = s.deferred := rfl
@[simp] theorem State.setTimer_drained : (s.setTimer v).drained = s.drained := rfl
@[simp] theorem State.setTimer_seq : (s.setTimer v).seq = s.seq := rfl
@[simp] theorem State.setTimer_fetch : (s.setTimer v).fetch = s.fetch := rfl
@[simp] theorem State.setTimer_store : (s.setTimer v).store = s.store := rfl
@[simp] theorem State.setTimer_timer : (s.setTimer v).timer = v := rfl
@[simp] theorem State.setTimer_flip : (s.setTimer v).flip = s.flip := rfl
@[simp] theorem State.setTimer_port : (s.setTimer v).port = s.port := rfl
@[simp] theorem State.setTimer_bus : (s.setTimer v).bus = s.bus := rfl
@[simp] theorem State.setTimer_wb : (s.setTimer v).wb = s.wb := rfl
@[simp] theorem State.setTimer_night : (s.setTimer v).night = s.night := rfl
@[simp] theorem State.setTimer_counts : (s.setTimer v).counts = s.counts := rfl
@[simp] theorem State.setTimer_shared : (s.setTimer v).shared = s.shared := rfl
@[simp] theorem State.setTimer_pending : (s.setTimer v).pending = s.pending := rfl

end

/-! ### setFlip -/

section
variable (s : State) (v : FlipUnit)

@[simp] theorem State.setFlip_cmd : (s.setFlip v).cmd = s.cmd := rfl
@[simp] theorem State.setFlip_settings : (s.setFlip v).settings = s.settings := rfl
@[simp] theorem State.setFlip_inForce : (s.setFlip v).inForce = s.inForce := rfl
@[simp] theorem State.setFlip_notices : (s.setFlip v).notices = s.notices := rfl
@[simp] theorem State.setFlip_sweep : (s.setFlip v).sweep = s.sweep := rfl
@[simp] theorem State.setFlip_due : (s.setFlip v).due = s.due := rfl
@[simp] theorem State.setFlip_deferred : (s.setFlip v).deferred = s.deferred := rfl
@[simp] theorem State.setFlip_drained : (s.setFlip v).drained = s.drained := rfl
@[simp] theorem State.setFlip_seq : (s.setFlip v).seq = s.seq := rfl
@[simp] theorem State.setFlip_fetch : (s.setFlip v).fetch = s.fetch := rfl
@[simp] theorem State.setFlip_store : (s.setFlip v).store = s.store := rfl
@[simp] theorem State.setFlip_timer : (s.setFlip v).timer = s.timer := rfl
@[simp] theorem State.setFlip_flip : (s.setFlip v).flip = v := rfl
@[simp] theorem State.setFlip_port : (s.setFlip v).port = s.port := rfl
@[simp] theorem State.setFlip_bus : (s.setFlip v).bus = s.bus := rfl
@[simp] theorem State.setFlip_wb : (s.setFlip v).wb = s.wb := rfl
@[simp] theorem State.setFlip_night : (s.setFlip v).night = s.night := rfl
@[simp] theorem State.setFlip_counts : (s.setFlip v).counts = s.counts := rfl
@[simp] theorem State.setFlip_shared : (s.setFlip v).shared = s.shared := rfl
@[simp] theorem State.setFlip_pending : (s.setFlip v).pending = s.pending := rfl

end

/-! ### setPort -/

section
variable (s : State) (v : PerCell RadioPort)

@[simp] theorem State.setPort_cmd : (s.setPort v).cmd = s.cmd := rfl
@[simp] theorem State.setPort_settings : (s.setPort v).settings = s.settings := rfl
@[simp] theorem State.setPort_inForce : (s.setPort v).inForce = s.inForce := rfl
@[simp] theorem State.setPort_notices : (s.setPort v).notices = s.notices := rfl
@[simp] theorem State.setPort_sweep : (s.setPort v).sweep = s.sweep := rfl
@[simp] theorem State.setPort_due : (s.setPort v).due = s.due := rfl
@[simp] theorem State.setPort_deferred : (s.setPort v).deferred = s.deferred := rfl
@[simp] theorem State.setPort_drained : (s.setPort v).drained = s.drained := rfl
@[simp] theorem State.setPort_seq : (s.setPort v).seq = s.seq := rfl
@[simp] theorem State.setPort_fetch : (s.setPort v).fetch = s.fetch := rfl
@[simp] theorem State.setPort_store : (s.setPort v).store = s.store := rfl
@[simp] theorem State.setPort_timer : (s.setPort v).timer = s.timer := rfl
@[simp] theorem State.setPort_flip : (s.setPort v).flip = s.flip := rfl
@[simp] theorem State.setPort_port : (s.setPort v).port = v := rfl
@[simp] theorem State.setPort_bus : (s.setPort v).bus = s.bus := rfl
@[simp] theorem State.setPort_wb : (s.setPort v).wb = s.wb := rfl
@[simp] theorem State.setPort_night : (s.setPort v).night = s.night := rfl
@[simp] theorem State.setPort_counts : (s.setPort v).counts = s.counts := rfl
@[simp] theorem State.setPort_shared : (s.setPort v).shared = s.shared := rfl
@[simp] theorem State.setPort_pending : (s.setPort v).pending = s.pending := rfl

end

/-! ### setBus -/

section
variable (s : State) (v : MemoryPort)

@[simp] theorem State.setBus_cmd : (s.setBus v).cmd = s.cmd := rfl
@[simp] theorem State.setBus_settings : (s.setBus v).settings = s.settings := rfl
@[simp] theorem State.setBus_inForce : (s.setBus v).inForce = s.inForce := rfl
@[simp] theorem State.setBus_notices : (s.setBus v).notices = s.notices := rfl
@[simp] theorem State.setBus_sweep : (s.setBus v).sweep = s.sweep := rfl
@[simp] theorem State.setBus_due : (s.setBus v).due = s.due := rfl
@[simp] theorem State.setBus_deferred : (s.setBus v).deferred = s.deferred := rfl
@[simp] theorem State.setBus_drained : (s.setBus v).drained = s.drained := rfl
@[simp] theorem State.setBus_seq : (s.setBus v).seq = s.seq := rfl
@[simp] theorem State.setBus_fetch : (s.setBus v).fetch = s.fetch := rfl
@[simp] theorem State.setBus_store : (s.setBus v).store = s.store := rfl
@[simp] theorem State.setBus_timer : (s.setBus v).timer = s.timer := rfl
@[simp] theorem State.setBus_flip : (s.setBus v).flip = s.flip := rfl
@[simp] theorem State.setBus_port : (s.setBus v).port = s.port := rfl
@[simp] theorem State.setBus_bus : (s.setBus v).bus = v := rfl
@[simp] theorem State.setBus_wb : (s.setBus v).wb = s.wb := rfl
@[simp] theorem State.setBus_night : (s.setBus v).night = s.night := rfl
@[simp] theorem State.setBus_counts : (s.setBus v).counts = s.counts := rfl
@[simp] theorem State.setBus_shared : (s.setBus v).shared = s.shared := rfl
@[simp] theorem State.setBus_pending : (s.setBus v).pending = s.pending := rfl

end

/-! ### setWb -/

section
variable (s : State) (v : WriteBack)

@[simp] theorem State.setWb_cmd : (s.setWb v).cmd = s.cmd := rfl
@[simp] theorem State.setWb_settings : (s.setWb v).settings = s.settings := rfl
@[simp] theorem State.setWb_inForce : (s.setWb v).inForce = s.inForce := rfl
@[simp] theorem State.setWb_notices : (s.setWb v).notices = s.notices := rfl
@[simp] theorem State.setWb_sweep : (s.setWb v).sweep = s.sweep := rfl
@[simp] theorem State.setWb_due : (s.setWb v).due = s.due := rfl
@[simp] theorem State.setWb_deferred : (s.setWb v).deferred = s.deferred := rfl
@[simp] theorem State.setWb_drained : (s.setWb v).drained = s.drained := rfl
@[simp] theorem State.setWb_seq : (s.setWb v).seq = s.seq := rfl
@[simp] theorem State.setWb_fetch : (s.setWb v).fetch = s.fetch := rfl
@[simp] theorem State.setWb_store : (s.setWb v).store = s.store := rfl
@[simp] theorem State.setWb_timer : (s.setWb v).timer = s.timer := rfl
@[simp] theorem State.setWb_flip : (s.setWb v).flip = s.flip := rfl
@[simp] theorem State.setWb_port : (s.setWb v).port = s.port := rfl
@[simp] theorem State.setWb_bus : (s.setWb v).bus = s.bus := rfl
@[simp] theorem State.setWb_wb : (s.setWb v).wb = v := rfl
@[simp] theorem State.setWb_night : (s.setWb v).night = s.night := rfl
@[simp] theorem State.setWb_counts : (s.setWb v).counts = s.counts := rfl
@[simp] theorem State.setWb_shared : (s.setWb v).shared = s.shared := rfl
@[simp] theorem State.setWb_pending : (s.setWb v).pending = s.pending := rfl

end

/-! ### setNight -/

section
variable (s : State) (v : NightWriter)

@[simp] theorem State.setNight_cmd : (s.setNight v).cmd = s.cmd := rfl
@[simp] theorem State.setNight_settings : (s.setNight v).settings = s.settings := rfl
@[simp] theorem State.setNight_inForce : (s.setNight v).inForce = s.inForce := rfl
@[simp] theorem State.setNight_notices : (s.setNight v).notices = s.notices := rfl
@[simp] theorem State.setNight_sweep : (s.setNight v).sweep = s.sweep := rfl
@[simp] theorem State.setNight_due : (s.setNight v).due = s.due := rfl
@[simp] theorem State.setNight_deferred : (s.setNight v).deferred = s.deferred := rfl
@[simp] theorem State.setNight_drained : (s.setNight v).drained = s.drained := rfl
@[simp] theorem State.setNight_seq : (s.setNight v).seq = s.seq := rfl
@[simp] theorem State.setNight_fetch : (s.setNight v).fetch = s.fetch := rfl
@[simp] theorem State.setNight_store : (s.setNight v).store = s.store := rfl
@[simp] theorem State.setNight_timer : (s.setNight v).timer = s.timer := rfl
@[simp] theorem State.setNight_flip : (s.setNight v).flip = s.flip := rfl
@[simp] theorem State.setNight_port : (s.setNight v).port = s.port := rfl
@[simp] theorem State.setNight_bus : (s.setNight v).bus = s.bus := rfl
@[simp] theorem State.setNight_wb : (s.setNight v).wb = s.wb := rfl
@[simp] theorem State.setNight_night : (s.setNight v).night = v := rfl
@[simp] theorem State.setNight_counts : (s.setNight v).counts = s.counts := rfl
@[simp] theorem State.setNight_shared : (s.setNight v).shared = s.shared := rfl
@[simp] theorem State.setNight_pending : (s.setNight v).pending = s.pending := rfl

end

/-! ### setCounts -/

section
variable (s : State) (v : NightCounts)

@[simp] theorem State.setCounts_cmd : (s.setCounts v).cmd = s.cmd := rfl
@[simp] theorem State.setCounts_settings : (s.setCounts v).settings = s.settings := rfl
@[simp] theorem State.setCounts_inForce : (s.setCounts v).inForce = s.inForce := rfl
@[simp] theorem State.setCounts_notices : (s.setCounts v).notices = s.notices := rfl
@[simp] theorem State.setCounts_sweep : (s.setCounts v).sweep = s.sweep := rfl
@[simp] theorem State.setCounts_due : (s.setCounts v).due = s.due := rfl
@[simp] theorem State.setCounts_deferred : (s.setCounts v).deferred = s.deferred := rfl
@[simp] theorem State.setCounts_drained : (s.setCounts v).drained = s.drained := rfl
@[simp] theorem State.setCounts_seq : (s.setCounts v).seq = s.seq := rfl
@[simp] theorem State.setCounts_fetch : (s.setCounts v).fetch = s.fetch := rfl
@[simp] theorem State.setCounts_store : (s.setCounts v).store = s.store := rfl
@[simp] theorem State.setCounts_timer : (s.setCounts v).timer = s.timer := rfl
@[simp] theorem State.setCounts_flip : (s.setCounts v).flip = s.flip := rfl
@[simp] theorem State.setCounts_port : (s.setCounts v).port = s.port := rfl
@[simp] theorem State.setCounts_bus : (s.setCounts v).bus = s.bus := rfl
@[simp] theorem State.setCounts_wb : (s.setCounts v).wb = s.wb := rfl
@[simp] theorem State.setCounts_night : (s.setCounts v).night = s.night := rfl
@[simp] theorem State.setCounts_counts : (s.setCounts v).counts = v := rfl
@[simp] theorem State.setCounts_shared : (s.setCounts v).shared = s.shared := rfl
@[simp] theorem State.setCounts_pending : (s.setCounts v).pending = s.pending := rfl

end

/-! ### setShared -/

section
variable (s : State) (v : Memory)

@[simp] theorem State.setShared_cmd : (s.setShared v).cmd = s.cmd := rfl
@[simp] theorem State.setShared_settings : (s.setShared v).settings = s.settings := rfl
@[simp] theorem State.setShared_inForce : (s.setShared v).inForce = s.inForce := rfl
@[simp] theorem State.setShared_notices : (s.setShared v).notices = s.notices := rfl
@[simp] theorem State.setShared_sweep : (s.setShared v).sweep = s.sweep := rfl
@[simp] theorem State.setShared_due : (s.setShared v).due = s.due := rfl
@[simp] theorem State.setShared_deferred : (s.setShared v).deferred = s.deferred := rfl
@[simp] theorem State.setShared_drained : (s.setShared v).drained = s.drained := rfl
@[simp] theorem State.setShared_seq : (s.setShared v).seq = s.seq := rfl
@[simp] theorem State.setShared_fetch : (s.setShared v).fetch = s.fetch := rfl
@[simp] theorem State.setShared_store : (s.setShared v).store = s.store := rfl
@[simp] theorem State.setShared_timer : (s.setShared v).timer = s.timer := rfl
@[simp] theorem State.setShared_flip : (s.setShared v).flip = s.flip := rfl
@[simp] theorem State.setShared_port : (s.setShared v).port = s.port := rfl
@[simp] theorem State.setShared_bus : (s.setShared v).bus = s.bus := rfl
@[simp] theorem State.setShared_wb : (s.setShared v).wb = s.wb := rfl
@[simp] theorem State.setShared_night : (s.setShared v).night = s.night := rfl
@[simp] theorem State.setShared_counts : (s.setShared v).counts = s.counts := rfl
@[simp] theorem State.setShared_shared : (s.setShared v).shared = v := rfl
@[simp] theorem State.setShared_pending : (s.setShared v).pending = s.pending := rfl

end

/-! ### setPending -/

section
variable (s : State) (v : List Instr)

@[simp] theorem State.setPending_cmd : (s.setPending v).cmd = s.cmd := rfl
@[simp] theorem State.setPending_settings : (s.setPending v).settings = s.settings := rfl
@[simp] theorem State.setPending_inForce : (s.setPending v).inForce = s.inForce := rfl
@[simp] theorem State.setPending_notices : (s.setPending v).notices = s.notices := rfl
@[simp] theorem State.setPending_sweep : (s.setPending v).sweep = s.sweep := rfl
@[simp] theorem State.setPending_due : (s.setPending v).due = s.due := rfl
@[simp] theorem State.setPending_deferred : (s.setPending v).deferred = s.deferred := rfl
@[simp] theorem State.setPending_drained : (s.setPending v).drained = s.drained := rfl
@[simp] theorem State.setPending_seq : (s.setPending v).seq = s.seq := rfl
@[simp] theorem State.setPending_fetch : (s.setPending v).fetch = s.fetch := rfl
@[simp] theorem State.setPending_store : (s.setPending v).store = s.store := rfl
@[simp] theorem State.setPending_timer : (s.setPending v).timer = s.timer := rfl
@[simp] theorem State.setPending_flip : (s.setPending v).flip = s.flip := rfl
@[simp] theorem State.setPending_port : (s.setPending v).port = s.port := rfl
@[simp] theorem State.setPending_bus : (s.setPending v).bus = s.bus := rfl
@[simp] theorem State.setPending_wb : (s.setPending v).wb = s.wb := rfl
@[simp] theorem State.setPending_night : (s.setPending v).night = s.night := rfl
@[simp] theorem State.setPending_counts : (s.setPending v).counts = s.counts := rfl
@[simp] theorem State.setPending_shared : (s.setPending v).shared = s.shared := rfl
@[simp] theorem State.setPending_pending : (s.setPending v).pending = v := rfl

end

/-! ### Tables -/

@[simp] theorem cellAt_cellPut_same {α : Type} (v : PerCell α) (c : CellId) (x : α) :
    cellAt (cellPut v c x) c = x := by
  simp [cellAt, cellPut]

@[simp] theorem cellAt_cellPut_other {α : Type} (v : PerCell α) (c d : CellId) (x : α) (h : d ≠ c) :
    cellAt (cellPut v c x) d = cellAt v d := by
  have h' : c.val ≠ d.val := fun e => h (Fin.ext e.symm)
  simp only [cellAt, cellPut]
  exact Vector.getElem_set_ne c.isLt d.isLt h'

@[simp] theorem cellPut_cellAt {α : Type} (v : PerCell α) (c : CellId) : cellPut v c (cellAt v c) = v := by
  apply Vector.ext
  intro i hi
  by_cases h : i = c.val
  · subst h; simp [cellAt, cellPut]
  · simp only [cellAt, cellPut]
    rw [Vector.getElem_set_ne c.isLt hi (fun e => h e.symm)]

/-- Two tables with the same value at every cell are the same. -/
theorem cell_ext {α : Type} {v w : PerCell α} (h : ∀ c, cellAt v c = cellAt w c) : v = w := by
  apply Vector.ext
  intro i hi
  exact h ⟨i, hi⟩

@[simp] theorem groupAt_groupPut_same {α : Type} (v : PerGroup α) (g : GroupId) (x : α) :
    groupAt (groupPut v g x) g = x := by
  simp [groupAt, groupPut]

@[simp] theorem groupAt_groupPut_other {α : Type} (v : PerGroup α) (g d : GroupId) (x : α) (h : d ≠ g) :
    groupAt (groupPut v g x) d = groupAt v d := by
  have h' : g.val ≠ d.val := fun e => h (Fin.ext e.symm)
  simp only [groupAt, groupPut]
  exact Vector.getElem_set_ne g.isLt d.isLt h'

@[simp] theorem cellAt_tableMap {α β : Type} (f : α → β) (v : PerCell α) (c : CellId) :
    cellAt (tableMap f v) c = f (cellAt v c) := by
  simp [cellAt, tableMap]

@[simp] theorem groupAt_tableMap {α β : Type} (f : α → β) (v : PerGroup α) (g : GroupId) :
    groupAt (tableMap f v) g = f (groupAt v g) := by
  simp [groupAt, tableMap]

/-- Every cell is one of the four the rules go through. -/
theorem mem_allCells (c : CellId) : c ∈ allCells := by revert c; decide

theorem mem_allGroups (g : GroupId) : g ∈ allGroups := by revert g; decide

theorem forCells_eq (f : State → CellId → State) (s : State) : forCells f s = f (f (f (f s 0) 1) 2) 3 := rfl

/-! ### One cell's block -/

section
variable (s : State) (c d : CellId)

@[simp] theorem State.modPort_portAt (f : RadioPort → RadioPort) : (s.modPort c f).portAt c = f (s.portAt c) := by
  simp [State.modPort, State.portAt]

@[simp] theorem State.modPort_portAt_other (f : RadioPort → RadioPort) (h : d ≠ c) :
    (s.modPort c f).portAt d = s.portAt d := by
  simp [State.modPort, State.portAt, h]

@[simp] theorem State.modSeq_seqAt (f : Sequencer → Sequencer) : (s.modSeq c f).seqAt c = f (s.seqAt c) := by
  simp [State.modSeq, State.seqAt]

@[simp] theorem State.modSeq_seqAt_other (f : Sequencer → Sequencer) (h : d ≠ c) :
    (s.modSeq c f).seqAt d = s.seqAt d := by
  simp [State.modSeq, State.seqAt, h]

@[simp] theorem State.modDue_dueAt (f : List DueRecord → List DueRecord) :
    (s.modDue c f).dueAt c = f (s.dueAt c) := by
  simp [State.modDue, State.dueAt]

@[simp] theorem State.modDue_dueAt_other (f : List DueRecord → List DueRecord) (h : d ≠ c) :
    (s.modDue c f).dueAt d = s.dueAt d := by
  simp [State.modDue, State.dueAt, h]

@[simp] theorem State.modStore_storeAt (f : List SegBuffer → List SegBuffer) :
    (s.modStore c f).storeAt c = f (s.storeAt c) := by
  simp [State.modStore, State.storeAt]

@[simp] theorem State.modStore_storeAt_other (f : List SegBuffer → List SegBuffer) (h : d ≠ c) :
    (s.modStore c f).storeAt d = s.storeAt d := by
  simp [State.modStore, State.storeAt, h]

/-- A port left as it is leaves the state as it is. -/
theorem State.modPort_same (f : RadioPort → RadioPort) (h : f (s.portAt c) = s.portAt c) : s.modPort c f = s := by
  rw [State.modPort, h, State.portAt, cellPut_cellAt]; rfl

theorem State.modSeq_same (f : Sequencer → Sequencer) (h : f (s.seqAt c) = s.seqAt c) : s.modSeq c f = s := by
  rw [State.modSeq, h, State.seqAt, cellPut_cellAt]; rfl

end

/-! ### modPort -/

section
variable (s : State) (c : CellId) (f : RadioPort → RadioPort)

@[simp] theorem State.modPort_cmd : (s.modPort c f).cmd = s.cmd := rfl
@[simp] theorem State.modPort_settings : (s.modPort c f).settings = s.settings := rfl
@[simp] theorem State.modPort_inForce : (s.modPort c f).inForce = s.inForce := rfl
@[simp] theorem State.modPort_notices : (s.modPort c f).notices = s.notices := rfl
@[simp] theorem State.modPort_sweep : (s.modPort c f).sweep = s.sweep := rfl
@[simp] theorem State.modPort_due : (s.modPort c f).due = s.due := rfl
@[simp] theorem State.modPort_deferred : (s.modPort c f).deferred = s.deferred := rfl
@[simp] theorem State.modPort_drained : (s.modPort c f).drained = s.drained := rfl
@[simp] theorem State.modPort_seq : (s.modPort c f).seq = s.seq := rfl
@[simp] theorem State.modPort_fetch : (s.modPort c f).fetch = s.fetch := rfl
@[simp] theorem State.modPort_store : (s.modPort c f).store = s.store := rfl
@[simp] theorem State.modPort_timer : (s.modPort c f).timer = s.timer := rfl
@[simp] theorem State.modPort_flip : (s.modPort c f).flip = s.flip := rfl
@[simp] theorem State.modPort_bus : (s.modPort c f).bus = s.bus := rfl
@[simp] theorem State.modPort_wb : (s.modPort c f).wb = s.wb := rfl
@[simp] theorem State.modPort_night : (s.modPort c f).night = s.night := rfl
@[simp] theorem State.modPort_counts : (s.modPort c f).counts = s.counts := rfl
@[simp] theorem State.modPort_shared : (s.modPort c f).shared = s.shared := rfl
@[simp] theorem State.modPort_pending : (s.modPort c f).pending = s.pending := rfl

end

/-! ### modSeq -/

section
variable (s : State) (c : CellId) (f : Sequencer → Sequencer)

@[simp] theorem State.modSeq_cmd : (s.modSeq c f).cmd = s.cmd := rfl
@[simp] theorem State.modSeq_settings : (s.modSeq c f).settings = s.settings := rfl
@[simp] theorem State.modSeq_inForce : (s.modSeq c f).inForce = s.inForce := rfl
@[simp] theorem State.modSeq_notices : (s.modSeq c f).notices = s.notices := rfl
@[simp] theorem State.modSeq_sweep : (s.modSeq c f).sweep = s.sweep := rfl
@[simp] theorem State.modSeq_due : (s.modSeq c f).due = s.due := rfl
@[simp] theorem State.modSeq_deferred : (s.modSeq c f).deferred = s.deferred := rfl
@[simp] theorem State.modSeq_drained : (s.modSeq c f).drained = s.drained := rfl
@[simp] theorem State.modSeq_fetch : (s.modSeq c f).fetch = s.fetch := rfl
@[simp] theorem State.modSeq_store : (s.modSeq c f).store = s.store := rfl
@[simp] theorem State.modSeq_timer : (s.modSeq c f).timer = s.timer := rfl
@[simp] theorem State.modSeq_flip : (s.modSeq c f).flip = s.flip := rfl
@[simp] theorem State.modSeq_port : (s.modSeq c f).port = s.port := rfl
@[simp] theorem State.modSeq_bus : (s.modSeq c f).bus = s.bus := rfl
@[simp] theorem State.modSeq_wb : (s.modSeq c f).wb = s.wb := rfl
@[simp] theorem State.modSeq_night : (s.modSeq c f).night = s.night := rfl
@[simp] theorem State.modSeq_counts : (s.modSeq c f).counts = s.counts := rfl
@[simp] theorem State.modSeq_shared : (s.modSeq c f).shared = s.shared := rfl
@[simp] theorem State.modSeq_pending : (s.modSeq c f).pending = s.pending := rfl

end

/-! ### modDue -/

section
variable (s : State) (c : CellId) (f : List DueRecord → List DueRecord)

@[simp] theorem State.modDue_cmd : (s.modDue c f).cmd = s.cmd := rfl
@[simp] theorem State.modDue_settings : (s.modDue c f).settings = s.settings := rfl
@[simp] theorem State.modDue_inForce : (s.modDue c f).inForce = s.inForce := rfl
@[simp] theorem State.modDue_notices : (s.modDue c f).notices = s.notices := rfl
@[simp] theorem State.modDue_sweep : (s.modDue c f).sweep = s.sweep := rfl
@[simp] theorem State.modDue_deferred : (s.modDue c f).deferred = s.deferred := rfl
@[simp] theorem State.modDue_drained : (s.modDue c f).drained = s.drained := rfl
@[simp] theorem State.modDue_seq : (s.modDue c f).seq = s.seq := rfl
@[simp] theorem State.modDue_fetch : (s.modDue c f).fetch = s.fetch := rfl
@[simp] theorem State.modDue_store : (s.modDue c f).store = s.store := rfl
@[simp] theorem State.modDue_timer : (s.modDue c f).timer = s.timer := rfl
@[simp] theorem State.modDue_flip : (s.modDue c f).flip = s.flip := rfl
@[simp] theorem State.modDue_port : (s.modDue c f).port = s.port := rfl
@[simp] theorem State.modDue_bus : (s.modDue c f).bus = s.bus := rfl
@[simp] theorem State.modDue_wb : (s.modDue c f).wb = s.wb := rfl
@[simp] theorem State.modDue_night : (s.modDue c f).night = s.night := rfl
@[simp] theorem State.modDue_counts : (s.modDue c f).counts = s.counts := rfl
@[simp] theorem State.modDue_shared : (s.modDue c f).shared = s.shared := rfl
@[simp] theorem State.modDue_pending : (s.modDue c f).pending = s.pending := rfl

end

/-! ### modStore -/

section
variable (s : State) (c : CellId) (f : List SegBuffer → List SegBuffer)

@[simp] theorem State.modStore_cmd : (s.modStore c f).cmd = s.cmd := rfl
@[simp] theorem State.modStore_settings : (s.modStore c f).settings = s.settings := rfl
@[simp] theorem State.modStore_inForce : (s.modStore c f).inForce = s.inForce := rfl
@[simp] theorem State.modStore_notices : (s.modStore c f).notices = s.notices := rfl
@[simp] theorem State.modStore_sweep : (s.modStore c f).sweep = s.sweep := rfl
@[simp] theorem State.modStore_due : (s.modStore c f).due = s.due := rfl
@[simp] theorem State.modStore_deferred : (s.modStore c f).deferred = s.deferred := rfl
@[simp] theorem State.modStore_drained : (s.modStore c f).drained = s.drained := rfl
@[simp] theorem State.modStore_seq : (s.modStore c f).seq = s.seq := rfl
@[simp] theorem State.modStore_fetch : (s.modStore c f).fetch = s.fetch := rfl
@[simp] theorem State.modStore_timer : (s.modStore c f).timer = s.timer := rfl
@[simp] theorem State.modStore_flip : (s.modStore c f).flip = s.flip := rfl
@[simp] theorem State.modStore_port : (s.modStore c f).port = s.port := rfl
@[simp] theorem State.modStore_bus : (s.modStore c f).bus = s.bus := rfl
@[simp] theorem State.modStore_wb : (s.modStore c f).wb = s.wb := rfl
@[simp] theorem State.modStore_night : (s.modStore c f).night = s.night := rfl
@[simp] theorem State.modStore_counts : (s.modStore c f).counts = s.counts := rfl
@[simp] theorem State.modStore_shared : (s.modStore c f).shared = s.shared := rfl
@[simp] theorem State.modStore_pending : (s.modStore c f).pending = s.pending := rfl

end

end Sys2Proof.Machine
end

