-- ==== Sys2Proof/Laws/Cells.lean ====
section
/-! SUPPORT. What one cell's or one group's block is after the update of another block: one lemma per accessor per update. -/

namespace Sys2Proof.Machine

section
variable (s : State) (v : CommandUnit) (d : CellId) (g : GroupId)

@[simp] theorem State.setCmd_portAt : (s.setCmd v).portAt d = s.portAt d := rfl
@[simp] theorem State.setCmd_seqAt : (s.setCmd v).seqAt d = s.seqAt d := rfl
@[simp] theorem State.setCmd_dueAt : (s.setCmd v).dueAt d = s.dueAt d := rfl
@[simp] theorem State.setCmd_storeAt : (s.setCmd v).storeAt d = s.storeAt d := rfl
@[simp] theorem State.setCmd_cellSettings : (s.setCmd v).cellSettings d = s.cellSettings d := rfl
@[simp] theorem State.setCmd_groupRec : (s.setCmd v).groupRec g = s.groupRec g := rfl

end

section
variable (s : State) (v : Settings) (d : CellId) (g : GroupId)

@[simp] theorem State.setSettings_portAt : (s.setSettings v).portAt d = s.portAt d := rfl
@[simp] theorem State.setSettings_seqAt : (s.setSettings v).seqAt d = s.seqAt d := rfl
@[simp] theorem State.setSettings_dueAt : (s.setSettings v).dueAt d = s.dueAt d := rfl
@[simp] theorem State.setSettings_storeAt : (s.setSettings v).storeAt d = s.storeAt d := rfl
@[simp] theorem State.setSettings_cellSettings : (s.setSettings v).cellSettings d = cellAt v.cells d := rfl
@[simp] theorem State.setSettings_groupRec : (s.setSettings v).groupRec g = s.groupRec g := rfl

end

section
variable (s : State) (v : Bool) (d : CellId) (g : GroupId)

@[simp] theorem State.setInForce_portAt : (s.setInForce v).portAt d = s.portAt d := rfl
@[simp] theorem State.setInForce_seqAt : (s.setInForce v).seqAt d = s.seqAt d := rfl
@[simp] theorem State.setInForce_dueAt : (s.setInForce v).dueAt d = s.dueAt d := rfl
@[simp] theorem State.setInForce_storeAt : (s.setInForce v).storeAt d = s.storeAt d := rfl
@[simp] theorem State.setInForce_cellSettings : (s.setInForce v).cellSettings d = s.cellSettings d := rfl
@[simp] theorem State.setInForce_groupRec : (s.setInForce v).groupRec g = s.groupRec g := rfl

end

section
variable (s : State) (v : List Notice) (d : CellId) (g : GroupId)

@[simp] theorem State.setNotices_portAt : (s.setNotices v).portAt d = s.portAt d := rfl
@[simp] theorem State.setNotices_seqAt : (s.setNotices v).seqAt d = s.seqAt d := rfl
@[simp] theorem State.setNotices_dueAt : (s.setNotices v).dueAt d = s.dueAt d := rfl
@[simp] theorem State.setNotices_storeAt : (s.setNotices v).storeAt d = s.storeAt d := rfl
@[simp] theorem State.setNotices_cellSettings : (s.setNotices v).cellSettings d = s.cellSettings d := rfl
@[simp] theorem State.setNotices_groupRec : (s.setNotices v).groupRec g = s.groupRec g := rfl

end

section
variable (s : State) (v : Sweep) (d : CellId) (g : GroupId)

@[simp] theorem State.setSweep_portAt : (s.setSweep v).portAt d = s.portAt d := rfl
@[simp] theorem State.setSweep_seqAt : (s.setSweep v).seqAt d = s.seqAt d := rfl
@[simp] theorem State.setSweep_dueAt : (s.setSweep v).dueAt d = s.dueAt d := rfl
@[simp] theorem State.setSweep_storeAt : (s.setSweep v).storeAt d = s.storeAt d := rfl
@[simp] theorem State.setSweep_cellSettings : (s.setSweep v).cellSettings d = s.cellSettings d := rfl
@[simp] theorem State.setSweep_groupRec : (s.setSweep v).groupRec g = s.groupRec g := rfl

end

section
variable (s : State) (v : PerCell (List DueRecord)) (d : CellId) (g : GroupId)

@[simp] theorem State.setDue_portAt : (s.setDue v).portAt d = s.portAt d := rfl
@[simp] theorem State.setDue_seqAt : (s.setDue v).seqAt d = s.seqAt d := rfl
@[simp] theorem State.setDue_dueAt : (s.setDue v).dueAt d = cellAt v d := rfl
@[simp] theorem State.setDue_storeAt : (s.setDue v).storeAt d = s.storeAt d := rfl
@[simp] theorem State.setDue_cellSettings : (s.setDue v).cellSettings d = s.cellSettings d := rfl
@[simp] theorem State.setDue_groupRec : (s.setDue v).groupRec g = s.groupRec g := rfl

end

section
variable (s : State) (v : PerCell Bool) (d : CellId) (g : GroupId)

@[simp] theorem State.setDeferred_portAt : (s.setDeferred v).portAt d = s.portAt d := rfl
@[simp] theorem State.setDeferred_seqAt : (s.setDeferred v).seqAt d = s.seqAt d := rfl
@[simp] theorem State.setDeferred_dueAt : (s.setDeferred v).dueAt d = s.dueAt d := rfl
@[simp] theorem State.setDeferred_storeAt : (s.setDeferred v).storeAt d = s.storeAt d := rfl
@[simp] theorem State.setDeferred_cellSettings : (s.setDeferred v).cellSettings d = s.cellSettings d := rfl
@[simp] theorem State.setDeferred_groupRec : (s.setDeferred v).groupRec g = s.groupRec g := rfl

end

section
variable (s : State) (v : Nat) (d : CellId) (g : GroupId)

@[simp] theorem State.setDrained_portAt : (s.setDrained v).portAt d = s.portAt d := rfl
@[simp] theorem State.setDrained_seqAt : (s.setDrained v).seqAt d = s.seqAt d := rfl
@[simp] theorem State.setDrained_dueAt : (s.setDrained v).dueAt d = s.dueAt d := rfl
@[simp] theorem State.setDrained_storeAt : (s.setDrained v).storeAt d = s.storeAt d := rfl
@[simp] theorem State.setDrained_cellSettings : (s.setDrained v).cellSettings d = s.cellSettings d := rfl
@[simp] theorem State.setDrained_groupRec : (s.setDrained v).groupRec g = s.groupRec g := rfl

end

section
variable (s : State) (v : PerCell Sequencer) (d : CellId) (g : GroupId)

@[simp] theorem State.setSeq_portAt : (s.setSeq v).portAt d = s.portAt d := rfl
@[simp] theorem State.setSeq_seqAt : (s.setSeq v).seqAt d = cellAt v d := rfl
@[simp] theorem State.setSeq_dueAt : (s.setSeq v).dueAt d = s.dueAt d := rfl
@[simp] theorem State.setSeq_storeAt : (s.setSeq v).storeAt d = s.storeAt d := rfl
@[simp] theorem State.setSeq_cellSettings : (s.setSeq v).cellSettings d = s.cellSettings d := rfl
@[simp] theorem State.setSeq_groupRec : (s.setSeq v).groupRec g = s.groupRec g := rfl

end

section
variable (s : State) (v : FetchEngine) (d : CellId) (g : GroupId)

@[simp] theorem State.setFetch_portAt : (s.setFetch v).portAt d = s.portAt d := rfl
@[simp] theorem State.setFetch_seqAt : (s.setFetch v).seqAt d = s.seqAt d := rfl
@[simp] theorem State.setFetch_dueAt : (s.setFetch v).dueAt d = s.dueAt d := rfl
@[simp] theorem State.setFetch_storeAt : (s.setFetch v).storeAt d = s.storeAt d := rfl
@[simp] theorem State.setFetch_cellSettings : (s.setFetch v).cellSettings d = s.cellSettings d := rfl
@[simp] theorem State.setFetch_groupRec : (s.setFetch v).groupRec g = s.groupRec g := rfl

end

section
variable (s : State) (v : PerCell (List SegBuffer)) (d : CellId) (g : GroupId)

@[simp] theorem State.setStore_portAt : (s.setStore v).portAt d = s.portAt d := rfl
@[simp] theorem State.setStore_seqAt : (s.setStore v).seqAt d = s.seqAt d := rfl
@[simp] theorem State.setStore_dueAt : (s.setStore v).dueAt d = s.dueAt d := rfl
@[simp] theorem State.setStore_storeAt : (s.setStore v).storeAt d = cellAt v d := rfl
@[simp] theorem State.setStore_cellSettings : (s.setStore v).cellSettings d = s.cellSettings d := rfl
@[simp] theorem State.setStore_groupRec : (s.setStore v).groupRec g = s.groupRec g := rfl

end

section
variable (s : State) (v : BeaconTimer) (d : CellId) (g : GroupId)

@[simp] theorem State.setTimer_portAt : (s.setTimer v).portAt d = s.portAt d := rfl
@[simp] theorem State.setTimer_seqAt : (s.setTimer v).seqAt d = s.seqAt d := rfl
@[simp] theorem State.setTimer_dueAt : (s.setTimer v).dueAt d = s.dueAt d := rfl
@[simp] theorem State.setTimer_storeAt : (s.setTimer v).storeAt d = s.storeAt d := rfl
@[simp] theorem State.setTimer_cellSettings : (s.setTimer v).cellSettings d = s.cellSettings d := rfl
@[simp] theorem State.setTimer_groupRec : (s.setTimer v).groupRec g = s.groupRec g := rfl

end

section
variable (s : State) (v : FlipUnit) (d : CellId) (g : GroupId)

@[simp] theorem State.setFlip_portAt : (s.setFlip v).portAt d = s.portAt d := rfl
@[simp] theorem State.setFlip_seqAt : (s.setFlip v).seqAt d = s.seqAt d := rfl
@[simp] theorem State.setFlip_dueAt : (s.setFlip v).dueAt d = s.dueAt d := rfl
@[simp] theorem State.setFlip_storeAt : (s.setFlip v).storeAt d = s.storeAt d := rfl
@[simp] theorem State.setFlip_cellSettings : (s.setFlip v).cellSettings d = s.cellSettings d := rfl
@[simp] theorem State.setFlip_groupRec : (s.setFlip v).groupRec g = groupAt v.groups g := rfl

end

section
variable (s : State) (v : PerCell RadioPort) (d : CellId) (g : GroupId)

@[simp] theorem State.setPort_portAt : (s.setPort v).portAt d = cellAt v d := rfl
@[simp] theorem State.setPort_seqAt : (s.setPort v).seqAt d = s.seqAt d := rfl
@[simp] theorem State.setPort_dueAt : (s.setPort v).dueAt d = s.dueAt d := rfl
@[simp] theorem State.setPort_storeAt : (s.setPort v).storeAt d = s.storeAt d := rfl
@[simp] theorem State.setPort_cellSettings : (s.setPort v).cellSettings d = s.cellSettings d := rfl
@[simp] theorem State.setPort_groupRec : (s.setPort v).groupRec g = s.groupRec g := rfl

end

section
variable (s : State) (v : MemoryPort) (d : CellId) (g : GroupId)

@[simp] theorem State.setBus_portAt : (s.setBus v).portAt d = s.portAt d := rfl
@[simp] theorem State.setBus_seqAt : (s.setBus v).seqAt d = s.seqAt d := rfl
@[simp] theorem State.setBus_dueAt : (s.setBus v).dueAt d = s.dueAt d := rfl
@[simp] theorem State.setBus_storeAt : (s.setBus v).storeAt d = s.storeAt d := rfl
@[simp] theorem State.setBus_cellSettings : (s.setBus v).cellSettings d = s.cellSettings d := rfl
@[simp] theorem State.setBus_groupRec : (s.setBus v).groupRec g = s.groupRec g := rfl

end

section
variable (s : State) (v : WriteBack) (d : CellId) (g : GroupId)

@[simp] theorem State.setWb_portAt : (s.setWb v).portAt d = s.portAt d := rfl
@[simp] theorem State.setWb_seqAt : (s.setWb v).seqAt d = s.seqAt d := rfl
@[simp] theorem State.setWb_dueAt : (s.setWb v).dueAt d = s.dueAt d := rfl
@[simp] theorem State.setWb_storeAt : (s.setWb v).storeAt d = s.storeAt d := rfl
@[simp] theorem State.setWb_cellSettings : (s.setWb v).cellSettings d = s.cellSettings d := rfl
@[simp] theorem State.setWb_groupRec : (s.setWb v).groupRec g = s.groupRec g := rfl

end

section
variable (s : State) (v : NightWriter) (d : CellId) (g : GroupId)

@[simp] theorem State.setNight_portAt : (s.setNight v).portAt d = s.portAt d := rfl
@[simp] theorem State.setNight_seqAt : (s.setNight v).seqAt d = s.seqAt d := rfl
@[simp] theorem State.setNight_dueAt : (s.setNight v).dueAt d = s.dueAt d := rfl
@[simp] theorem State.setNight_storeAt : (s.setNight v).storeAt d = s.storeAt d := rfl
@[simp] theorem State.setNight_cellSettings : (s.setNight v).cellSettings d = s.cellSettings d := rfl
@[simp] theorem State.setNight_groupRec : (s.setNight v).groupRec g = s.groupRec g := rfl

end

section
variable (s : State) (v : NightCounts) (d : CellId) (g : GroupId)

@[simp] theorem State.setCounts_portAt : (s.setCounts v).portAt d = s.portAt d := rfl
@[simp] theorem State.setCounts_seqAt : (s.setCounts v).seqAt d = s.seqAt d := rfl
@[simp] theorem State.setCounts_dueAt : (s.setCounts v).dueAt d = s.dueAt d := rfl
@[simp] theorem State.setCounts_storeAt : (s.setCounts v).storeAt d = s.storeAt d := rfl
@[simp] theorem State.setCounts_cellSettings : (s.setCounts v).cellSettings d = s.cellSettings d := rfl
@[simp] theorem State.setCounts_groupRec : (s.setCounts v).groupRec g = s.groupRec g := rfl

end

section
variable (s : State) (v : Memory) (d : CellId) (g : GroupId)

@[simp] theorem State.setShared_portAt : (s.setShared v).portAt d = s.portAt d := rfl
@[simp] theorem State.setShared_seqAt : (s.setShared v).seqAt d = s.seqAt d := rfl
@[simp] theorem State.setShared_dueAt : (s.setShared v).dueAt d = s.dueAt d := rfl
@[simp] theorem State.setShared_storeAt : (s.setShared v).storeAt d = s.storeAt d := rfl
@[simp] theorem State.setShared_cellSettings : (s.setShared v).cellSettings d = s.cellSettings d := rfl
@[simp] theorem State.setShared_groupRec : (s.setShared v).groupRec g = s.groupRec g := rfl

end

section
variable (s : State) (v : List Instr) (d : CellId) (g : GroupId)

@[simp] theorem State.setPending_portAt : (s.setPending v).portAt d = s.portAt d := rfl
@[simp] theorem State.setPending_seqAt : (s.setPending v).seqAt d = s.seqAt d := rfl
@[simp] theorem State.setPending_dueAt : (s.setPending v).dueAt d = s.dueAt d := rfl
@[simp] theorem State.setPending_storeAt : (s.setPending v).storeAt d = s.storeAt d := rfl
@[simp] theorem State.setPending_cellSettings : (s.setPending v).cellSettings d = s.cellSettings d := rfl
@[simp] theorem State.setPending_groupRec : (s.setPending v).groupRec g = s.groupRec g := rfl

end

section
variable (s : State) (f : RadioPort → RadioPort) (c d : CellId) (g : GroupId)

@[simp] theorem State.modPort_seqAt : (s.modPort c f).seqAt d = s.seqAt d := rfl
@[simp] theorem State.modPort_dueAt : (s.modPort c f).dueAt d = s.dueAt d := rfl
@[simp] theorem State.modPort_storeAt : (s.modPort c f).storeAt d = s.storeAt d := rfl
@[simp] theorem State.modPort_cellSettings : (s.modPort c f).cellSettings d = s.cellSettings d := rfl
@[simp] theorem State.modPort_groupRec : (s.modPort c f).groupRec g = s.groupRec g := rfl

end

section
variable (s : State) (f : Sequencer → Sequencer) (c d : CellId) (g : GroupId)

@[simp] theorem State.modSeq_portAt : (s.modSeq c f).portAt d = s.portAt d := rfl
@[simp] theorem State.modSeq_dueAt : (s.modSeq c f).dueAt d = s.dueAt d := rfl
@[simp] theorem State.modSeq_storeAt : (s.modSeq c f).storeAt d = s.storeAt d := rfl
@[simp] theorem State.modSeq_cellSettings : (s.modSeq c f).cellSettings d = s.cellSettings d := rfl
@[simp] theorem State.modSeq_groupRec : (s.modSeq c f).groupRec g = s.groupRec g := rfl

end

section
variable (s : State) (f : List DueRecord → List DueRecord) (c d : CellId) (g : GroupId)

@[simp] theorem State.modDue_portAt : (s.modDue c f).portAt d = s.portAt d := rfl
@[simp] theorem State.modDue_seqAt : (s.modDue c f).seqAt d = s.seqAt d := rfl
@[simp] theorem State.modDue_storeAt : (s.modDue c f).storeAt d = s.storeAt d := rfl
@[simp] theorem State.modDue_cellSettings : (s.modDue c f).cellSettings d = s.cellSettings d := rfl
@[simp] theorem State.modDue_groupRec : (s.modDue c f).groupRec g = s.groupRec g := rfl

end

section
variable (s : State) (f : List SegBuffer → List SegBuffer) (c d : CellId) (g : GroupId)

@[simp] theorem State.modStore_portAt : (s.modStore c f).portAt d = s.portAt d := rfl
@[simp] theorem State.modStore_seqAt : (s.modStore c f).seqAt d = s.seqAt d := rfl
@[simp] theorem State.modStore_dueAt : (s.modStore c f).dueAt d = s.dueAt d := rfl
@[simp] theorem State.modStore_cellSettings : (s.modStore c f).cellSettings d = s.cellSettings d := rfl
@[simp] theorem State.modStore_groupRec : (s.modStore c f).groupRec g = s.groupRec g := rfl

end

end Sys2Proof.Machine
end

