-- ==== Sys2Proof/Laws/Frames.lean ====
section
/-! SUPPORT. Frames: for each shared operation, the fields of State it can change; every other field, and of the command unit
every register but those named, stays as it was. -/

namespace Sys2Proof.Machine

/-! ### Attention, counts, offers -/

theorem State.raise_frame (s : State) (c : Cause) :
    ∃ a, s.raise c = { s with cmd := { s.cmd with attn := a } } := ⟨_, rfl⟩

theorem State.report_frame (s : State) (e : EntryState) :
    ∃ a n, s.report e = { s with cmd := { s.cmd with attn := a }, counts := n } := ⟨_, _, rfl⟩

theorem State.memFault_frame (s : State) :
    ∃ a n, s.memFault = { s with cmd := { s.cmd with attn := a }, counts := n } := ⟨_, _, rfl⟩

theorem State.finish_frame (s : State) (code : ResultCode) (value : Nat) :
    ∃ a v, s.finish code value =
      { s with cmd := { s.cmd with inProgress := none, resultCode := code, resultValue := v, attn := a } } :=
  ⟨_, _, rfl⟩

theorem State.setRunning_frame (s : State) (r : Running) :
    s.setRunning r =
      { s with cmd := { s.cmd with inProgress := some r, resultCode := .inProgress, resultValue := 0 } } := rfl

theorem State.offer_frame (s : State) (r : Requester) (a : Action) : ∃ b, s.offer r a = { s with bus := b } :=
  ⟨_, rfl⟩

/-! ### Due lists and the write-back list -/

theorem State.enqueueWriteBack_frame (s : State) (l : List Nat) :
    ∃ w n, s.enqueueWriteBack l = { s with wb := w, drained := n } := by
  simp only [State.enqueueWriteBack]
  split
  · exact ⟨_, _, rfl⟩
  · exact ⟨_, s.drained, rfl⟩

theorem State.retireIn_frame (p : DueRecord → Bool) (o : EntryState) (s : State) (c : CellId) :
    ∃ d w n, State.retireIn p o s c = { s with due := d, wb := w, drained := n } := by
  simp only [State.retireIn]
  obtain ⟨w, n, h⟩ := State.enqueueWriteBack_frame
    (s.modDue c fun l => l.map fun r => if p r then r.retire o else r) (((s.dueAt c).filter p).map (·.index))
  exact ⟨_, w, n, h⟩

theorem State.retireWhere_frame (s : State) (p : DueRecord → Bool) (o : EntryState) :
    ∃ d w n, s.retireWhere p o = { s with due := d, wb := w, drained := n } := by
  unfold State.retireWhere
  rw [forCells_eq]
  obtain ⟨d, w, n, h⟩ := State.retireIn_frame p o s 0
  rw [h]
  obtain ⟨d, w, n, h⟩ := State.retireIn_frame p o { s with due := d, wb := w, drained := n } 1
  rw [h]
  obtain ⟨d, w, n, h⟩ := State.retireIn_frame p o { s with due := d, wb := w, drained := n } 2
  rw [h]
  obtain ⟨d, w, n, h⟩ := State.retireIn_frame p o { s with due := d, wb := w, drained := n } 3
  exact ⟨d, w, n, h⟩

theorem State.modRecord_frame (s : State) (c : CellId) (i : Nat) (f : DueRecord → DueRecord) :
    ∃ d, s.modRecord c i f = { s with due := d } := ⟨_, rfl⟩

theorem State.retireRecord_frame (s : State) (c : CellId) (i : Nat) (o : EntryState) (f : DueRecord → DueRecord) :
    ∃ d w n, s.retireRecord c i o f = { s with due := d, wb := w, drained := n } := by
  unfold State.retireRecord
  obtain ⟨w, n, h⟩ := State.enqueueWriteBack_frame (s.modRecord c i fun r => (f r).retire o) [i]
  exact ⟨_, w, n, h⟩

/-! ### Passes -/

theorem State.rescanRetirement_frame (s : State) :
    ∃ d w n f, s.rescanRetirement = { s with due := d, wb := w, drained := n, deferred := f } := by
  unfold State.rescanRetirement
  obtain ⟨d, w, n, h⟩ := (s.clearDeferred).retireWhere_frame DueRecord.isWaiting .queued
  exact ⟨d, w, n, _, h⟩

theorem State.rescanRequest_frame (s : State) :
    ∃ x d w n f, s.rescanRequest = { s with sweep := x, due := d, wb := w, drained := n, deferred := f } := by
  have key : ∀ x : Sweep, ∃ d w n f,
      (s.setSweep x).rescanRetirement = { s with sweep := x, due := d, wb := w, drained := n, deferred := f } :=
    fun x => (s.setSweep x).rescanRetirement_frame
  unfold State.rescanRequest
  split
  · exact ⟨s.sweep, s.due, s.wb, s.drained, s.deferred, rfl⟩
  · split
    · exact ⟨_, s.due, s.wb, s.drained, s.deferred, rfl⟩
    · split
      · exact ⟨_, key _⟩
      · split
        · exact ⟨_, key _⟩
        · split
          · exact ⟨_, key _⟩
          · exact ⟨_, key _⟩

theorem State.refillRequest_frame (s : State) :
    ∃ x f, s.refillRequest = { s with sweep := x, deferred := f } := by
  unfold State.refillRequest
  split
  · exact ⟨_, _, rfl⟩
  · exact ⟨s.sweep, s.deferred, rfl⟩

theorem State.refillCheck_frame (s : State) : ∃ x f, s.refillCheck = { s with sweep := x, deferred := f } := by
  unfold State.refillCheck
  split
  · exact s.refillRequest_frame
  · exact ⟨s.sweep, s.deferred, rfl⟩

theorem State.changeoverRequest_frame (s : State) (g : GroupId) :
    ∃ x, s.changeoverRequest g = { s with sweep := x } := by
  unfold State.changeoverRequest
  split
  · exact ⟨s.sweep, rfl⟩
  · split
    · exact ⟨_, rfl⟩
    · exact ⟨_, rfl⟩

theorem State.passComplete_frame (s : State) (k : PassKind) :
    ∃ a x d w n f, s.passComplete k =
      { s with cmd := { s.cmd with attn := a }, sweep := x, due := d, wb := w, drained := n, deferred := f } := by
  cases k with
  | changeover =>
    obtain ⟨x, f, h⟩ := State.refillCheck_frame
      (s.setSweep { s.sweep with running := s.sweep.suspended, suspended := none, groupSet := [] })
    exact ⟨s.cmd.attn, x, s.due, s.wb, s.drained, f, h⟩
  | opening =>
    simp only [State.passComplete]
    split
    · obtain ⟨x, d, w, n, f, h⟩ := State.rescanRequest_frame
        (((s.setSweep (s.sweep.dropPass .opening)).raise .sweepDone).setSweep
          { ((s.setSweep (s.sweep.dropPass .opening)).raise .sweepDone).sweep with rescanPending := false })
      exact ⟨_, x, d, w, n, f, h⟩
    · obtain ⟨x, f, h⟩ := State.refillCheck_frame ((s.setSweep (s.sweep.dropPass .opening)).raise .sweepDone)
      exact ⟨_, x, s.due, s.wb, s.drained, f, h⟩
  | rescan =>
    obtain ⟨x, f, h⟩ := State.refillCheck_frame ((s.setSweep (s.sweep.dropPass .rescan)).raise .sweepDone)
    exact ⟨_, x, s.due, s.wb, s.drained, f, h⟩
  | refill =>
    obtain ⟨x, f, h⟩ := State.refillCheck_frame (s.setSweep (s.sweep.dropPass .refill))
    exact ⟨s.cmd.attn, x, s.due, s.wb, s.drained, f, h⟩

theorem State.advancePass_frame (s : State) (k : PassKind) :
    ∃ a x d w n f, s.advancePass k =
      { s with cmd := { s.cmd with attn := a }, sweep := x, due := d, wb := w, drained := n, deferred := f } := by
  simp only [State.advancePass]
  split
  · exact State.passComplete_frame (s.setSweep _) k
  · exact ⟨s.cmd.attn, _, s.due, s.wb, s.drained, s.deferred, rfl⟩

theorem State.finishHand_frame (s : State) :
    ∃ a x l d w n f, s.finishHand =
      { s with cmd := { s.cmd with attn := a }, sweep := x, notices := l, due := d, wb := w, drained := n,
               deferred := f } := by
  unfold State.finishHand
  split
  · exact ⟨s.cmd.attn, s.sweep, s.notices, s.due, s.wb, s.drained, s.deferred, rfl⟩
  · split
    · exact ⟨s.cmd.attn, _, s.notices, s.due, s.wb, s.drained, s.deferred, rfl⟩
    · exact ⟨s.cmd.attn, _, s.notices, s.due, s.wb, s.drained, s.deferred, rfl⟩
    · exact ⟨s.cmd.attn, _, _, s.due, s.wb, s.drained, s.deferred, rfl⟩
    · obtain ⟨a, x, d, w, n, f, h⟩ := State.advancePass_frame (s.setSweep { s.sweep with hand := none }) _
      exact ⟨a, x, s.notices, d, w, n, f, h⟩

theorem State.joinReread_frame (s : State) (i : Nat) :
    ∃ x d w n f, s.joinReread i = { s with sweep := x, due := d, wb := w, drained := n, deferred := f } := by
  unfold State.joinReread
  split
  · exact s.rescanRequest_frame
  · split
    · exact ⟨s.sweep, s.due, s.wb, s.drained, s.deferred, rfl⟩
    · exact ⟨_, s.due, s.wb, s.drained, s.deferred, rfl⟩

/-! ### Night record -/

theorem State.beginNightWrite_frame (s : State) (x : Snapshot) :
    ∃ n b, s.beginNightWrite x = { s with night := n, bus := b } := ⟨_, _, rfl⟩

theorem State.nightDue_frame (s : State) (w : Bool) : ∃ n b, s.nightDue w = { s with night := n, bus := b } := by
  simp only [State.nightDue]
  split
  · exact s.beginNightWrite_frame _
  · exact ⟨_, s.bus, rfl⟩

theorem State.endNightWrite_frame (s : State) : ∃ n b, s.endNightWrite = { s with night := n, bus := b } := by
  simp only [State.endNightWrite]
  split
  · exact ⟨_, s.bus, rfl⟩
  · obtain ⟨n, b, h⟩ := (s.setNight { s.night with current := none, waiting := none }).beginNightWrite_frame _
    exact ⟨n, b, h⟩

theorem State.nightBurstDone_frame (s : State) : ∃ n b, s.nightBurstDone = { s with night := n, bus := b } := by
  unfold State.nightBurstDone
  split
  · exact ⟨s.night, s.bus, rfl⟩
  · split
    · exact s.endNightWrite_frame
    · split
      · exact ⟨_, _, rfl⟩
      · exact ⟨_, s.bus, rfl⟩

theorem State.nightAbort_frame (s : State) : ∃ n b, s.nightAbort = { s with night := n, bus := b } := by
  simp only [State.nightAbort]
  split
  · exact s.beginNightWrite_frame _
  · split
    · exact ⟨_, s.bus, rfl⟩
    · split
      · exact ⟨_, s.bus, rfl⟩
      · obtain ⟨n, b, h⟩ := State.beginNightWrite_frame
          ((s.setBus (s.bus.setWaiting .night none)).setNight { s.night with current := none, waiting := none }) _
        exact ⟨n, b, h⟩

theorem State.checkDrain_frame (s : State) :
    ∃ r n b, s.checkDrain = { s with cmd := { s.cmd with inProgress := r }, night := n, bus := b } := by
  unfold State.checkDrain
  split
  · obtain ⟨n, b, h⟩ := (s.setCmd { s.cmd with inProgress := some (.stop true) }).nightDue_frame true
    exact ⟨_, n, b, h⟩
  · exact ⟨s.cmd.inProgress, s.night, s.bus, rfl⟩

/-! ### Changes to due records (R48) -/

theorem State.admitRecord_frame (s : State) (i : Nat) (e : Entry) (k : ItemKind) (m : Mode) :
    ∃ d, s.admitRecord i e k m = { s with due := d } := ⟨_, rfl⟩

theorem State.routeRead_frame (s : State) (c : CellId) (r : DueRecord) (e : Entry) :
    ∃ d w n, s.routeRead c r e = { s with due := d, wb := w, drained := n } := by
  unfold State.routeRead
  split
  · unfold State.refreshRecord
    split
    · exact s.retireRecord_frame c r.index _ _
    · exact s.retireRecord_frame c r.index _ _
    · exact ⟨_, s.wb, s.drained, rfl⟩
  · exact ⟨_, s.wb, s.drained, rfl⟩
  · exact ⟨_, s.wb, s.drained, rfl⟩
  · exact ⟨_, s.wb, s.drained, rfl⟩

theorem State.settleResult_frame (s : State) (c : CellId) (r : DueRecord) :
    ∃ d w n x f, s.settleResult c r = { s with due := d, wb := w, drained := n, sweep := x, deferred := f } := by
  simp only [State.settleResult]
  split
  · obtain ⟨d, w, n, h⟩ := s.retireRecord_frame c r.index (r.outcome.getD .deferred)
      fun _ => { r with refreshPending := false }
    exact ⟨d, w, n, s.sweep, s.deferred, h⟩
  · split
    · obtain ⟨d, w, n, h⟩ := s.retireRecord_frame c r.index _
        fun _ => { r with refreshPending := false, reEvaluate := r.reEvaluate || r.refreshPending }
      exact ⟨d, w, n, s.sweep, s.deferred, h⟩
    · split
      · obtain ⟨x, d, w, n, f, h⟩ := State.joinReread_frame
          (s.modRecord c r.index fun _ => { r with refreshPending := false, state := .waiting }) r.index
        exact ⟨d, w, n, x, f, h⟩
      · exact ⟨_, s.wb, s.drained, s.sweep, s.deferred, rfl⟩

theorem State.itemResult_frame (s : State) (c : CellId) (i : Nat) (b : BeaconNo) (res : ItemResult) :
    ∃ d w n x f, s.itemResult c i b res = { s with due := d, wb := w, drained := n, sweep := x, deferred := f } := by
  unfold State.itemResult
  split
  · exact ⟨s.due, s.wb, s.drained, s.sweep, s.deferred, rfl⟩
  · split
    · exact s.settleResult_frame c _
    · exact ⟨s.due, s.wb, s.drained, s.sweep, s.deferred, rfl⟩

theorem State.contentBad_frame (s : State) (c : CellId) (i : Nat) :
    ∃ d w n, s.contentBad c i = { s with due := d, wb := w, drained := n } := by
  unfold State.contentBad
  split
  · exact ⟨s.due, s.wb, s.drained, rfl⟩
  · exact s.retireRecord_frame c i _ _

theorem State.flipRecords_frame (s : State) (g : BitVec 4) :
    ∃ d w n, s.flipRecords g = { s with due := d, wb := w, drained := n } := by
  have key : ∀ t : State, ∃ d, forCells
      (fun u c => u.modDue c (List.map (DueRecord.meetsFlip u.settings.policy g))) t = { t with due := d } :=
    fun t => ⟨_, rfl⟩
  obtain ⟨d, h⟩ := key s
  unfold State.flipRecords
  rw [h]
  split
  · obtain ⟨d, w, n, h⟩ := { s with due := d }.retireWhere_frame (DueRecord.stagesFor g) .late
    exact ⟨d, w, n, h⟩
  · exact ⟨d, s.wb, s.drained, rfl⟩

/-! ### Items and plans -/

theorem State.abandonFetch_frame (s : State) (c : CellId) (b : BeaconNo) (i : Nat) :
    ∃ e p, s.abandonFetch c b i = { s with fetch := e, bus := p } := by
  simp only [State.abandonFetch]
  split
  · exact ⟨_, s.bus, rfl⟩
  · split
    · exact ⟨_, _, rfl⟩
    · exact ⟨_, s.bus, rfl⟩

theorem State.dropItem_frame (s : State) (c : CellId) (b : BeaconNo) (i : Nat) :
    ∃ e p t q, s.dropItem c b i = { s with fetch := e, bus := p, store := t, seq := q } := by
  unfold State.dropItem
  split
  · exact ⟨s.fetch, s.bus, s.store, s.seq, rfl⟩
  · obtain ⟨e, p, h⟩ := s.abandonFetch_frame c b i
    rw [h]
    exact ⟨e, p, _, _, rfl⟩

/-- An item that ends as NOT_SENT changes the fetch engine, the memory port's waiting fetch, its buffers, its plan, its
record, and what follows from the record's result. -/
theorem State.notSent_frame (s : State) (c : CellId) (b : BeaconNo) (i : Nat) :
    ∃ e p t q d w n x f, s.notSent c b i =
      { s with fetch := e, bus := p, store := t, seq := q, due := d, wb := w, drained := n, sweep := x,
               deferred := f } := by
  unfold State.notSent
  split
  · exact ⟨s.fetch, s.bus, s.store, s.seq, s.due, s.wb, s.drained, s.sweep, s.deferred, rfl⟩
  · split
    · obtain ⟨e, p, t, q, h⟩ := s.dropItem_frame c b i
      rw [h]
      obtain ⟨d, w, n, x, f, h⟩ := State.itemResult_frame
        { s with fetch := e, bus := p, store := t, seq := q } c _ b .notSent
      exact ⟨e, p, t, q, d, w, n, x, f, h⟩
    · exact ⟨s.fetch, s.bus, s.store, s.seq, s.due, s.wb, s.drained, s.sweep, s.deferred, rfl⟩

theorem State.notSentAll_frame (s : State) (c : CellId) (plan : Plan) :
    ∃ e p t q d w n x f, s.notSentAll c plan =
      { s with fetch := e, bus := p, store := t, seq := q, due := d, wb := w, drained := n, sweep := x,
               deferred := f } := by
  unfold State.notSentAll
  generalize List.range plan.items.length = l
  induction l generalizing s with
  | nil => exact ⟨s.fetch, s.bus, s.store, s.seq, s.due, s.wb, s.drained, s.sweep, s.deferred, rfl⟩
  | cons i rest ih =>
    rw [List.foldl_cons]
    obtain ⟨e, p, t, q, d, w, n, x, f, h⟩ := s.notSent_frame c plan.beacon i
    rw [h]
    obtain ⟨e, p, t, q, d, w, n, x, f, h⟩ := ih
      { s with fetch := e, bus := p, store := t, seq := q, due := d, wb := w, drained := n, sweep := x,
               deferred := f }
    exact ⟨e, p, t, q, d, w, n, x, f, h⟩

/-! ### Flip unit -/

theorem State.takeFlip_frame (b : BeaconNo) (s : State) (g : GroupId) :
    ∃ a k d w n x, State.takeFlip b s g =
      { s with cmd := { s.cmd with attn := a }, flip := k, due := d, wb := w, drained := n, sweep := x } := by
  simp only [State.takeFlip]
  split
  · exact ⟨s.cmd.attn, s.flip, s.due, s.wb, s.drained, s.sweep, rfl⟩
  · split
    · obtain ⟨d, w, n, h⟩ := State.flipRecords_frame
        ((s.modGroup g fun q => { q with state := .done }).raise .flip) (groupNumber g)
      rw [h]
      obtain ⟨x, h⟩ := State.changeoverRequest_frame
        { ((s.modGroup g fun q => { q with state := .done }).raise .flip) with due := d, wb := w, drained := n } g
      exact ⟨_, _, d, w, n, x, h⟩
    · exact ⟨s.cmd.attn, _, s.due, s.wb, s.drained, s.sweep, rfl⟩
    · exact ⟨s.cmd.attn, s.flip, s.due, s.wb, s.drained, s.sweep, rfl⟩
    · exact ⟨s.cmd.attn, s.flip, s.due, s.wb, s.drained, s.sweep, rfl⟩

theorem State.takeFlips_frame (s : State) (b : BeaconNo) :
    ∃ a k d w n x, s.takeFlips b =
      { s with cmd := { s.cmd with attn := a }, flip := k, due := d, wb := w, drained := n, sweep := x } := by
  unfold State.takeFlips
  generalize allGroups = l
  induction l generalizing s with
  | nil => exact ⟨s.cmd.attn, s.flip, s.due, s.wb, s.drained, s.sweep, rfl⟩
  | cons g rest ih =>
    rw [List.foldl_cons]
    obtain ⟨a, k, d, w, n, x, h⟩ := State.takeFlip_frame b s g
    rw [h]
    obtain ⟨a, k, d, w, n, x, h⟩ := ih
      { s with cmd := { s.cmd with attn := a }, flip := k, due := d, wb := w, drained := n, sweep := x }
    exact ⟨a, k, d, w, n, x, h⟩

theorem State.reportBeacon_frame (s : State) (c : CellId) (b : BeaconNo) (sent : Bool) :
    ∃ a k d w n x, s.reportBeacon c b sent =
      { s with cmd := { s.cmd with attn := a }, flip := k, due := d, wb := w, drained := n, sweep := x } := by
  have key : ∀ f : FlipUnit, ∃ a k d w n x, (s.setFlip f).takeFlips b =
      { s with cmd := { s.cmd with attn := a }, flip := k, due := d, wb := w, drained := n, sweep := x } := by
    intro f
    obtain ⟨a, k, d, w, n, x, h⟩ := State.takeFlips_frame (s.setFlip f) b
    exact ⟨a, k, d, w, n, x, h⟩
  simp only [State.reportBeacon]
  generalize (if sent = true then s.flip.groups else tableMap (GroupRecord.missed c b) s.flip.groups) = groups
  split
  · split
    · exact key _
    · exact ⟨s.cmd.attn, _, s.due, s.wb, s.drained, s.sweep, rfl⟩
  · exact ⟨s.cmd.attn, _, s.due, s.wb, s.drained, s.sweep, rfl⟩

/-! ### Cells and windows -/

theorem State.cellOff_frame (s : State) (c : CellId) : ∃ p q, s.cellOff c = { s with port := p, seq := q } :=
  ⟨_, _, rfl⟩

theorem State.takeOffPending_frame (s : State) (c : CellId) :
    ∃ p q, s.takeOffPending c = { s with port := p, seq := q } := by
  unfold State.takeOffPending
  split
  · exact s.cellOff_frame c
  · exact ⟨s.port, s.seq, rfl⟩

theorem State.endWindow_frame (s : State) (c : CellId) : ∃ p q, s.endWindow c = { s with port := p, seq := q } := by
  unfold State.endWindow
  obtain ⟨p, q, h⟩ := (s.modSeq c Sequencer.noPlan).takeOffPending_frame c
  exact ⟨p, q, h⟩

theorem State.goQuiet_frame (s : State) (c : CellId) :
    ∃ a p q, s.goQuiet c = { s with cmd := { s.cmd with attn := a }, port := p, seq := q } := by
  unfold State.goQuiet
  split
  · obtain ⟨p, q, h⟩ := s.cellOff_frame c
    exact ⟨s.cmd.attn, p, q, h⟩
  · exact ⟨_, _, s.seq, rfl⟩

theorem State.portFault_frame (s : State) (c : CellId) (b : BeaconNo) :
    ∃ e p t q d w n x f, s.portFault c b =
      { s with fetch := e, bus := p, store := t, seq := q, due := d, wb := w, drained := n, sweep := x,
               deferred := f } := by
  unfold State.portFault
  split
  · exact ⟨s.fetch, s.bus, s.store, s.seq, s.due, s.wb, s.drained, s.sweep, s.deferred, rfl⟩
  · split
    · obtain ⟨e, p, t, q, d, w, n, x, f, h⟩ := s.notSentAll_frame c _
      rw [h]
      exact ⟨e, p, t, _, d, w, n, x, f, rfl⟩
    · exact ⟨s.fetch, s.bus, s.store, s.seq, s.due, s.wb, s.drained, s.sweep, s.deferred, rfl⟩

theorem State.dropComing_frame (s : State) (c : CellId) :
    ∃ e p t q d w n x f, s.dropComing c =
      { s with fetch := e, bus := p, store := t, seq := q, due := d, wb := w, drained := n, sweep := x,
               deferred := f } := by
  unfold State.dropComing
  split
  · exact ⟨s.fetch, s.bus, s.store, s.seq, s.due, s.wb, s.drained, s.sweep, s.deferred, rfl⟩
  · obtain ⟨e, p, t, q, d, w, n, x, f, h⟩ := s.notSentAll_frame c _
    rw [h]
    exact ⟨e, p, t, _, d, w, n, x, f, rfl⟩

theorem State.beaconMissed_frame (s : State) (c : CellId) (b : BeaconNo) :
    ∃ a k e p t q d w n x f, s.beaconMissed c b =
      { s with cmd := { s.cmd with attn := a }, flip := k, fetch := e, bus := p, store := t, seq := q, due := d,
               wb := w, drained := n, sweep := x, deferred := f } := by
  obtain ⟨a, k, d, w, n, x, h⟩ := s.reportBeacon_frame c b false
  simp only [State.beaconMissed]
  rw [h]
  split
  · exact ⟨a, k, s.fetch, s.bus, s.store, s.seq, d, w, n, x, s.deferred, rfl⟩
  · obtain ⟨e, p, t, q, d, w, n, x, f, h⟩ := State.notSentAll_frame
      { s with cmd := { s.cmd with attn := a }, flip := k, due := d, wb := w, drained := n, sweep := x } c _
    rw [h]
    exact ⟨a, k, e, p, t, _, d, w, n, x, f, rfl⟩

theorem State.beaconFault_frame (s : State) (c : CellId) (b : BeaconNo) :
    ∃ a k e o p t q d w n x f, s.beaconFault c b =
      { s with cmd := { s.cmd with attn := a }, flip := k, fetch := e, bus := p, store := t, port := o, seq := q,
               due := d, wb := w, drained := n, sweep := x, deferred := f } := by
  obtain ⟨a, k, d, w, n, x, h⟩ := s.reportBeacon_frame c b false
  simp only [State.beaconFault]
  rw [h]
  split
  · exact ⟨a, k, s.fetch, s.port, s.bus, s.store, s.seq, d, w, n, x, s.deferred, rfl⟩
  · obtain ⟨e, p, t, q, d, w, n, x, f, h⟩ := State.notSentAll_frame
      { s with cmd := { s.cmd with attn := a }, flip := k, due := d, wb := w, drained := n, sweep := x } c _
    rw [h]
    split
    · obtain ⟨o, q, h⟩ := State.takeOffPending_frame (State.modSeq
        { s with cmd := { s.cmd with attn := a }, flip := k, fetch := e, bus := p, store := t, seq := q, due := d,
                 wb := w, drained := n, sweep := x, deferred := f } c Sequencer.noPlan) c
      exact ⟨a, k, e, o, p, t, q, d, w, n, x, f, h⟩
    · exact ⟨a, k, e, s.port, p, t, _, d, w, n, x, f, rfl⟩

theorem State.missWaiting_frame (s : State) (c : CellId) :
    ∃ a k e o p t q d w n x f, s.missWaiting c =
      { s with cmd := { s.cmd with attn := a }, flip := k, fetch := e, bus := p, store := t, port := o, seq := q,
               due := d, wb := w, drained := n, sweep := x, deferred := f } := by
  have same : ∃ a k e o p t q d w n x f, s =
      { s with cmd := { s.cmd with attn := a }, flip := k, fetch := e, bus := p, store := t, port := o, seq := q,
               due := d, wb := w, drained := n, sweep := x, deferred := f } :=
    ⟨s.cmd.attn, s.flip, s.fetch, s.port, s.bus, s.store, s.seq, s.due, s.wb, s.drained, s.sweep, s.deferred, rfl⟩
  unfold State.missWaiting
  split
  · exact same
  · split
    · exact s.beaconFault_frame c _
    · exact same

theorem State.offIfNoWindow_frame (s : State) (c : CellId) :
    ∃ a k e o p t q d w n x f, s.offIfNoWindow c =
      { s with cmd := { s.cmd with attn := a }, flip := k, fetch := e, bus := p, store := t, port := o, seq := q,
               due := d, wb := w, drained := n, sweep := x, deferred := f } := by
  unfold State.offIfNoWindow
  split
  · obtain ⟨o, q, h⟩ := s.cellOff_frame c
    rw [h]
    obtain ⟨a, k, e, o, p, t, q, d, w, n, x, f, h⟩ := State.missWaiting_frame { s with port := o, seq := q } c
    exact ⟨a, k, e, o, p, t, q, d, w, n, x, f, h⟩
  · exact ⟨s.cmd.attn, s.flip, s.fetch, s.port, s.bus, s.store, s.seq, s.due, s.wb, s.drained, s.sweep, s.deferred, rfl⟩

theorem State.beaconSent_frame (s : State) (c : CellId) (b : BeaconNo) :
    ∃ a k p q d w n x, s.beaconSent c b =
      { s with cmd := { s.cmd with attn := a }, flip := k, port := p, seq := q, due := d, wb := w, drained := n,
               sweep := x } := by
  unfold State.beaconSent
  split
  · obtain ⟨a, k, d, w, n, x, h⟩ := s.reportBeacon_frame c b true
    exact ⟨a, k, s.port, s.seq, d, w, n, x, h⟩
  · split
    · obtain ⟨a, k, d, w, n, x, h⟩ := State.reportBeacon_frame
        (s.modSeq c fun q => { q with position := .before, windowsSent := countUp q.windowsSent }) c b true
      exact ⟨a, k, s.port, _, d, w, n, x, h⟩
    · obtain ⟨a, k, d, w, n, x, h⟩ := s.reportBeacon_frame c b true
      rw [h]
      obtain ⟨p, q, h⟩ := State.endWindow_frame
        { s with cmd := { s.cmd with attn := a }, flip := k, due := d, wb := w, drained := n, sweep := x } c
      exact ⟨a, k, p, q, d, w, n, x, h⟩

/-- A beacon event's work in one cell. -/
theorem State.cellBeacon_frame (b : BeaconNo) (l : List FlipNotice) (s : State) (c : CellId) :
    ∃ a k e p o t q d w n x f, State.cellBeacon b l s c =
      { s with cmd := { s.cmd with attn := a }, flip := k, fetch := e, bus := p, port := o, store := t, seq := q,
               due := d, wb := w, drained := n, sweep := x, deferred := f } := by
  simp only [State.cellBeacon]
  split
  · exact ⟨s.cmd.attn, s.flip, s.fetch, s.bus, _, s.store, _, s.due, s.wb, s.drained, s.sweep, s.deferred, rfl⟩
  · obtain ⟨a, k, e, p, t, q, d, w, n, x, f, h⟩ := s.beaconMissed_frame c b
    exact ⟨a, k, e, p, s.port, t, q, d, w, n, x, f, h⟩

end Sys2Proof.Machine
end

