-- ==== Sys2Proof/Laws/Settled.lean ====
section
/-! SUPPORT. What the end of a step does: nothing to a settled state, and it settles any state. -/

namespace Sys2Proof.Machine

/-! ### A settled state -/

theorem RadioPort.notePull_settled (p : RadioPort) (h : p.settled = true) : p.notePull = p := by
  unfold RadioPort.settled at h
  unfold RadioPort.notePull
  split at h
  · next he => rw [he]
  · next he =>
    rw [he]
    have hc : ¬(p.canPull && !p.due.contains .pull) = true := by
      simp only [Bool.or_eq_true, Bool.not_eq_true'] at h
      rcases h with h | h
      · simp [h]
      · simp only [h, Bool.not_true, Bool.and_false]; exact Bool.false_ne_true
    exact if_neg hc
  · next he => rw [he]

/-- A settled port with a free link: nothing is due, no pull is possible, and no clock level can come into use. -/
theorem RadioPort.settled_free (p : RadioPort) (he : p.exchange = none) :
    p.settled = true ↔ p.due = [] ∧ p.canPull = false ∧ (p.clockNext = none ∨ p.probe.isSome = true) := by
  simp [RadioPort.settled, he, and_assoc]

/-- The link of a settled port has nothing to begin. -/
theorem RadioPort.goOn_settled (p : RadioPort) (h : p.settled = true) : p.goOn = p := by
  have hn := p.notePull_settled h
  unfold RadioPort.goOn
  split
  · exact hn
  · next he =>
    obtain ⟨h1, h2, h3⟩ := (p.settled_free he).1 h
    have hs : p.serveDue p.due = p := by
      rw [h1, RadioPort.serveDue, if_neg (by simp [h2])]
      conv => rhs; rw [show p = { p with exchange := none, due := [] } by rw [← he, ← h1]]
    have ht : p.takeClock = p := by
      unfold RadioPort.takeClock
      split
      · rfl
      · next hc =>
        have hp : p.probe.isSome = true := by simpa [hc] using h3
        have : ¬(p.probe.isNone || p.probeCommandOut) = true := by
          cases hq : p.probe with
          | none => rw [hq] at hp; cases hp
          | some q => simp [RadioPort.probeCommandOut, he]
        exact if_neg this
    rw [hs, ht, hn]

theorem State.kick_settled (s : State) (c : CellId) (h : (s.portAt c).settled = true) : s.kick c = s :=
  s.modPort_same c _ (RadioPort.goOn_settled _ h)

theorem State.kickAll_settled (s : State) (h : ∀ c, (s.portAt c).settled = true) : s.kickAll = s := by
  unfold State.kickAll
  rw [forCells_eq, s.kick_settled 0 (h 0), s.kick_settled 1 (h 1), s.kick_settled 2 (h 2), s.kick_settled 3 (h 3)]

/-- A settled memory port makes no choice. -/
theorem State.arbitrate_settled (s : State) (h : s.bus.settled = true) : s.arbitrate = s := by
  unfold State.arbitrate
  split
  · next hi =>
    have : s.bus.highest = none := by simpa [MemoryPort.settled, hi.1, hi.2] using h
    rw [this]
  · rfl

theorem State.settled_iff (s : State) :
    s.settled = true ↔ (s.cmd.inProgress.isSome = true ∨ s.cmd.waiting = none) ∧ s.drainDue = false ∧
      (∀ c, (s.portAt c).settled = true) ∧ s.bus.settled = true := by
  simp only [State.settled, Bool.and_eq_true, Bool.or_eq_true, List.all_eq_true, Option.isNone_iff_eq_none,
    Bool.not_eq_true']
  constructor
  · rintro ⟨⟨⟨a, d⟩, b⟩, c⟩; exact ⟨a, d, fun d => b d (mem_allCells d), c⟩
  · rintro ⟨a, d, b, c⟩; exact ⟨⟨⟨a, d⟩, fun d _ => b d⟩, c⟩

/-- With no command that can be taken, the end of a step is what the part does by itself. -/
theorem State.conclude_same (s : State) (h : s.cmd.waiting = none ∨ s.cmd.inProgress.isSome = true) :
    s.conclude = s.proceed := by
  unfold State.conclude
  split
  · next h1 h2 => simp [h1, h2] at h
  · rfl

/-- A waiting command that can be taken is taken in the state that the step leaves (R175). -/
theorem State.conclude_taking (s : State) (c : HostCommand) (h : s.cmd.inProgress = none) (hw : s.cmd.waiting = some c) :
    s.conclude = (({ s with cmd := { s.cmd with waiting := none } } : State).conclude.takeCommand c).proceed := by
  rw [({ s with cmd := { s.cmd with waiting := none } } : State).conclude_same (.inl rfl)]
  unfold State.conclude
  simp only [h, hw]
  rfl

theorem State.checkDrain_same (s : State) (h : s.drainDue = false) : s.checkDrain = s :=
  if_neg (by rw [h]; exact Bool.false_ne_true)

/-- The end of a step changes nothing in a settled state. -/
theorem State.conclude_settled (s : State) (h : s.settled = true) : s.conclude = s := by
  obtain ⟨hc, hd, hp, hb⟩ := s.settled_iff.1 h
  rw [s.conclude_same hc.symm, State.proceed, s.checkDrain_same hd, s.kickAll_settled hp, s.arbitrate_settled hb]

/-! ### The end of a step settles -/

/-- Behind an exchange in progress an announced frame's pull is noted. -/
theorem RadioPort.notePull_settles (p : RadioPort) (h : p.exchange ≠ none) : p.notePull.settled = true := by
  unfold RadioPort.notePull
  split
  · next he =>
    split
    · simp [RadioPort.settled, he]
    · next hn =>
      unfold RadioPort.settled
      rw [he]
      by_cases hp : p.canPull = true
      · simp only [hp, Bool.true_and, Bool.not_eq_true', Bool.not_eq_false] at hn
        simp only [hn, Bool.or_true]
      · simp [hp]
  · next hne =>
    unfold RadioPort.settled
    split
    · next he => exact absurd he h
    · next he => exact absurd he (hne _ _ _ _)
    · rfl

/-- Taking a clock level over changes nothing but the clock. -/
theorem RadioPort.takeClock_frame (p : RadioPort) :
    ∃ k n, p.takeClock = { p with clockHigh := k, clockNext := n } := by
  unfold RadioPort.takeClock
  split
  · exact ⟨p.clockHigh, p.clockNext, rfl⟩
  · split
    · exact ⟨_, _, rfl⟩
    · exact ⟨p.clockHigh, p.clockNext, rfl⟩

/-- A free link with nothing to begin leaves no clock level behind, a probe's apart. -/
theorem RadioPort.takeClock_done (p : RadioPort) : p.takeClock.clockNext = none ∨ p.takeClock.probe.isSome = true := by
  unfold RadioPort.takeClock
  split
  · next h => exact .inl h
  · split
    · exact .inl rfl
    · next h =>
      cases hp : p.probe with
      | none => simp [hp] at h
      | some q => exact .inr (by simp)

/-- Serving what is due begins an exchange, or leaves a free link with nothing due and nothing to pull. -/
theorem RadioPort.serveDue_begins (l : List Due) : ∀ p : RadioPort, (p.serveDue l).exchange ≠ none ∨
    ((p.serveDue l).exchange = none ∧ (p.serveDue l).due = [] ∧ (p.serveDue l).canPull = false) := by
  induction l with
  | nil =>
    intro p
    unfold RadioPort.serveDue
    by_cases h : p.canPull = true
    · exact .inl (by simp [h])
    · exact .inr ⟨by simp [h], rfl, by simpa [RadioPort.canPull] using h⟩
  | cons d rest ih =>
    intro p
    cases d with
    | command c purpose => exact .inl (by simp [RadioPort.serveDue])
    | overrunPull => exact .inl (by simp [RadioPort.serveDue])
    | pull =>
      simp only [RadioPort.serveDue]
      split
      · exact .inl (by simp)
      · exact ih p
    | held =>
      simp only [RadioPort.serveDue]
      split
      · refine .inl ?_
        unfold RadioPort.refill
        split <;> simp
      · exact ih p

/-- A link that has gone on is settled. -/
theorem RadioPort.goOn_settles (p : RadioPort) : p.goOn.settled = true := by
  unfold RadioPort.goOn
  split
  · next he => exact RadioPort.notePull_settles _ (by simp [he])
  · obtain ⟨k, n, ht⟩ := (p.serveDue p.due).takeClock_frame
    rcases RadioPort.serveDue_begins p.due p with h | ⟨h1, h2, h3⟩
    · exact RadioPort.notePull_settles _ (by rw [ht]; exact h)
    · have hs : (p.serveDue p.due).takeClock.settled = true :=
        (RadioPort.settled_free _ (by rw [ht]; exact h1)).2
          ⟨by rw [ht]; exact h2, by rw [ht]; exact h3, RadioPort.takeClock_done _⟩
      rw [RadioPort.notePull_settled _ hs]
      exact hs

@[simp] theorem State.kick_portAt (s : State) (c : CellId) : (s.kick c).portAt c = (s.portAt c).goOn :=
  s.modPort_portAt c _

theorem State.kick_settles (s : State) (c : CellId) : ((s.kick c).portAt c).settled = true := by
  rw [s.kick_portAt]
  exact RadioPort.goOn_settles _

/-- One link's going on leaves the other ports alone. -/
theorem State.kick_portAt_other (s : State) (c d : CellId) (h : d ≠ c) : (s.kick c).portAt d = s.portAt d :=
  s.modPort_portAt_other c d _ h

theorem CellId.cases (c : CellId) : c = 0 ∨ c = 1 ∨ c = 2 ∨ c = 3 := by revert c; decide

/-- The four links go on, each port by itself. -/
theorem State.kickAll_portAt (s : State) (c : CellId) : s.kickAll.portAt c = (s.portAt c).goOn := by
  have other : ∀ (u : State) (d : CellId), d ≠ c → (u.kick d).portAt c = u.portAt c :=
    fun u d h => u.kick_portAt_other d c h.symm
  unfold State.kickAll
  rw [forCells_eq]
  rcases CellId.cases c with rfl | rfl | rfl | rfl
  · rw [other _ 3 (by decide), other _ 2 (by decide), other _ 1 (by decide), State.kick_portAt]
  · rw [other _ 3 (by decide), other _ 2 (by decide), State.kick_portAt, other _ 0 (by decide)]
  · rw [other _ 3 (by decide), State.kick_portAt, other _ 1 (by decide), other _ 0 (by decide)]
  · rw [State.kick_portAt, other _ 2 (by decide), other _ 1 (by decide), other _ 0 (by decide)]

theorem State.kickAll_settles (s : State) (c : CellId) : ((s.kickAll).portAt c).settled = true := by
  rw [s.kickAll_portAt]
  exact RadioPort.goOn_settles _

theorem State.arbitrate_settles (s : State) : s.arbitrate.bus.settled = true := by
  unfold State.arbitrate
  split
  · split
    · next h => simp [MemoryPort.settled, h]
    · split
      · next r hr _ hw =>
        have := List.find?_some hr
        simp [hw] at this
      · rfl
  · next h =>
    unfold MemoryPort.settled
    by_cases hb : s.bus.bus = .idle
    · have : s.bus.current.isNone = false := by
        cases hc : s.bus.current with
        | none => exact absurd ⟨hb, hc⟩ h
        | some t => rfl
      rw [this]; simp
    · simp [hb]

/-! ### What the end of a step can change -/

/-- The link of one cell goes on: only its port changes. -/
theorem State.kick_frame (s : State) (c : CellId) : ∃ p, s.kick c = { s with port := p } := ⟨_, rfl⟩

/-- The four links go on: only ports change. -/
theorem State.kickAll_frame (s : State) : ∃ p, s.kickAll = { s with port := p } := ⟨_, rfl⟩

/-- The memory port's choice changes only the memory port. -/
theorem State.arbitrate_frame (s : State) : ∃ b, s.arbitrate = { s with bus := b } := by
  unfold State.arbitrate
  split
  · split
    · exact ⟨s.bus, rfl⟩
    · split
      · exact ⟨s.bus, rfl⟩
      · exact ⟨_, rfl⟩
  · exact ⟨s.bus, rfl⟩

/-- With nothing waiting for the command unit and no drain over, the end of a step changes only ports and the memory port. -/
theorem State.conclude_frame (s : State) (h : s.cmd.waiting = none ∨ s.cmd.inProgress.isSome = true)
    (hd : s.drainDue = false) : ∃ p b, s.conclude = { s with port := p, bus := b } := by
  obtain ⟨p, hk⟩ := s.kickAll_frame
  obtain ⟨b, ha⟩ := { s with port := p }.arbitrate_frame
  exact ⟨p, b, by rw [s.conclude_same h, State.proceed, s.checkDrain_same hd, hk, ha]⟩

end Sys2Proof.Machine
end

