-- ==== Sys2Proof/Laws/Links.lean ====
section
/-! SUPPORT. What the end of a step can do to one link and to the memory port: the fields it may change, the exchanges and
transfers it keeps, and what is left of it when only one link or only the memory port has something to begin. -/

namespace Sys2Proof.Machine

/-! ### Serving what is due -/

theorem RadioPort.refill_frame (p : RadioPort) : ∃ h l, p.refill = { p with holding := h, behind := l } := by
  unfold RadioPort.refill
  split
  · exact ⟨_, _, rfl⟩
  · exact ⟨p.holding, p.behind, rfl⟩

theorem RadioPort.notePull_due (p : RadioPort) : ∃ d, p.notePull = { p with due := d } := by
  unfold RadioPort.notePull
  split
  · split
    · exact ⟨_, rfl⟩
    · exact ⟨p.due, rfl⟩
  · exact ⟨p.due, rfl⟩

theorem RadioPort.notePull_mem (p : RadioPort) {d : Due} (h : d ∈ p.due) : d ∈ p.notePull.due := by
  unfold RadioPort.notePull
  split
  · split
    · exact List.mem_append_left _ h
    · exact h
  · exact h

theorem RadioPort.notePull_exchange (p : RadioPort) : p.notePull.exchange = p.exchange := by
  obtain ⟨d, h⟩ := p.notePull_due
  rw [h]

/-- Serving what is due changes a port in its exchange, what is due, its holding buffer and the frames behind it only. -/
theorem RadioPort.serveDue_frame (l : List Due) : ∀ p : RadioPort,
    ∃ e d h b, p.serveDue l = { p with exchange := e, due := d, holding := h, behind := b } := by
  induction l with
  | nil => intro p; exact ⟨_, _, p.holding, p.behind, rfl⟩
  | cons d rest ih =>
    intro p
    cases d with
    | command c purpose => exact ⟨_, _, p.holding, p.behind, rfl⟩
    | overrunPull => exact ⟨_, _, p.holding, p.behind, rfl⟩
    | pull =>
      simp only [RadioPort.serveDue]
      split
      · exact ⟨_, _, p.holding, p.behind, rfl⟩
      · exact ih p
    | held =>
      simp only [RadioPort.serveDue]
      split
      · next f _ =>
        obtain ⟨h, b, e⟩ := RadioPort.refill_frame
          { p with exchange := some (.command (.send f.frame) (.window f.beacon) false false), holding := none,
                   due := rest }
        exact ⟨_, _, h, b, e⟩
      · exact ih p

/-- Without a held frame due, serving what is due leaves the holding buffer and the frames behind it alone. -/
theorem RadioPort.serveDue_no_held (l : List Due) (hl : Due.held ∉ l) : ∀ p : RadioPort,
    (p.serveDue l).holding = p.holding ∧ (p.serveDue l).behind = p.behind := by
  induction l with
  | nil => intro p; exact ⟨rfl, rfl⟩
  | cons d rest ih =>
    intro p
    have hr : Due.held ∉ rest := fun h => hl (List.mem_cons_of_mem _ h)
    cases d with
    | command c purpose => exact ⟨rfl, rfl⟩
    | overrunPull => exact ⟨rfl, rfl⟩
    | pull =>
      simp only [RadioPort.serveDue]
      split
      · exact ⟨rfl, rfl⟩
      · exact ih hr p
    | held => exact absurd (List.mem_cons_self) hl

/-- A command that is due is issued: it begins or goes on waiting. -/
theorem RadioPort.serveDue_issued (k : LinkCommand) (u : Purpose) (l : List Due) (hl : Due.command k u ∈ l) :
    ∀ p : RadioPort, (p.serveDue l).issued k u := by
  induction l with
  | nil => cases hl
  | cons d rest ih =>
    intro p
    have tail : ∀ d, Due.command k u ∈ d :: rest → d ≠ .command k u → Due.command k u ∈ rest := by
      intro d h hd
      rcases List.mem_cons.1 h with h | h
      · exact absurd h.symm hd
      · exact h
    cases d with
    | command c purpose =>
      rcases List.mem_cons.1 hl with h | h
      · cases h; exact .inl rfl
      · exact .inr h
    | overrunPull => exact .inr (tail _ hl (by simp))
    | pull =>
      simp only [RadioPort.serveDue]
      split
      · exact .inr (tail _ hl (by simp))
      · exact ih (tail _ hl (by simp)) p
    | held =>
      simp only [RadioPort.serveDue]
      split
      · next f _ =>
        refine .inr ?_
        obtain ⟨h, b, e⟩ := RadioPort.refill_frame
          { p with exchange := some (.command (.send f.frame) (.window f.beacon) false false), holding := none,
                   due := rest }
        rw [e]
        exact tail _ hl (by simp)
      · exact ih (tail _ hl (by simp)) p

/-! ### One link -/

/-- A busy link may note a pull. -/
theorem RadioPort.goOn_busy (p : RadioPort) (h : p.exchange ≠ none) : p.goOn = p.notePull := by
  unfold RadioPort.goOn
  split
  · rfl
  · next he => exact absurd he h

/-- A free link serves what is due. -/
theorem RadioPort.goOn_free (p : RadioPort) (h : p.exchange = none) :
    p.goOn = (p.serveDue p.due).takeClock.notePull := by
  unfold RadioPort.goOn
  split
  · next he => rw [h] at he; cases he
  · rfl

/-- A link that goes on changes its port in the exchange, what is due, the holding buffer, the frames behind it and the
clock only. -/
theorem RadioPort.goOn_frame (p : RadioPort) : ∃ e d h b k n,
    p.goOn = { p with exchange := e, due := d, holding := h, behind := b, clockHigh := k, clockNext := n } := by
  by_cases he : p.exchange = none
  · rw [p.goOn_free he]
    obtain ⟨e, d, h, b, hs⟩ := RadioPort.serveDue_frame p.due p
    obtain ⟨k, n, ht⟩ := (p.serveDue p.due).takeClock_frame
    obtain ⟨d', hn⟩ := (p.serveDue p.due).takeClock.notePull_due
    exact ⟨e, d', h, b, k, n, by rw [hn, ht, hs]⟩
  · rw [p.goOn_busy he]
    obtain ⟨d, h⟩ := p.notePull_due
    exact ⟨p.exchange, d, p.holding, p.behind, p.clockHigh, p.clockNext, h⟩

/-- A command issued on a link stays issued while the link goes on. -/
theorem RadioPort.goOn_issued (p : RadioPort) (k : LinkCommand) (u : Purpose) (h : p.issued k u) :
    p.goOn.issued k u := by
  by_cases he : p.exchange = none
  · rw [p.goOn_free he]
    obtain ⟨x, n, ht⟩ := (p.serveDue p.due).takeClock_frame
    rcases h with h | h
    · rw [he] at h; cases h
    · rcases RadioPort.serveDue_issued k u _ h p with h | h
      · exact .inl (by rw [RadioPort.notePull_exchange, ht]; exact h)
      · exact .inr (RadioPort.notePull_mem _ (by rw [ht]; exact h))
  · rw [p.goOn_busy he]
    rcases h with h | h
    · exact .inl (by rw [RadioPort.notePull_exchange, h])
    · exact .inr (RadioPort.notePull_mem _ h)

/-- The clock level of the next exchange is the same while the link goes on. -/
theorem RadioPort.goOn_clockLevel (p : RadioPort) : p.goOn.clockLevel = p.clockLevel := by
  have ht : ∀ q : RadioPort, q.takeClock.clockLevel = q.clockLevel := by
    intro q
    unfold RadioPort.takeClock
    split
    · rfl
    · next h => split <;> simp [RadioPort.clockLevel, h]
  have hn : ∀ q : RadioPort, q.notePull.clockLevel = q.clockLevel := by
    intro q
    obtain ⟨d, h⟩ := q.notePull_due
    rw [h]
    rfl
  by_cases he : p.exchange = none
  · rw [p.goOn_free he, hn, ht]
    obtain ⟨e, d, h, b, hs⟩ := RadioPort.serveDue_frame p.due p
    rw [hs]
    rfl
  · rw [p.goOn_busy he, hn]

/-! ### The four links -/

/-- When the other three links are settled, only one goes on. -/
theorem State.kickAll_one (s : State) (c : CellId) (h : ∀ d, d ≠ c → (s.portAt d).settled = true) :
    s.kickAll = s.kick c := by
  have hc : c = 0 ∨ c = 1 ∨ c = 2 ∨ c = 3 := CellId.cases c
  have other : ∀ (d : CellId), d ≠ c → (s.kick c).kick d = s.kick c := fun d hd =>
    State.kick_settled _ _ (by rw [State.kick_portAt_other _ _ _ hd]; exact h d hd)
  have before : ∀ (d : CellId), d ≠ c → s.kick d = s := fun d hd => s.kick_settled d (h d hd)
  unfold State.kickAll
  rw [forCells_eq]
  rcases hc with rfl | rfl | rfl | rfl
  · rw [other 1 (by decide), other 2 (by decide), other 3 (by decide)]
  · rw [before 0 (by decide), other 2 (by decide), other 3 (by decide)]
  · rw [before 0 (by decide), before 1 (by decide), other 3 (by decide)]
  · rw [before 0 (by decide), before 1 (by decide), before 2 (by decide)]

/-! ### The end of a step, when no command can be taken and no drain is over -/

/-- Only one link has something to begin. -/
theorem State.conclude_link (s : State) (c : CellId) (h : s.cmd.waiting = none ∨ s.cmd.inProgress.isSome = true)
    (hd : s.drainDue = false) (hp : ∀ d, d ≠ c → (s.portAt d).settled = true) (hb : s.bus.settled = true) :
    s.conclude = s.kick c := by
  rw [s.conclude_same h, State.proceed, s.checkDrain_same hd, s.kickAll_one c hp,
    (s.kick c).arbitrate_settled (show s.bus.settled = true from hb)]

/-- Only the memory port has something to begin. -/
theorem State.conclude_bus (s : State) (h : s.cmd.waiting = none ∨ s.cmd.inProgress.isSome = true)
    (hd : s.drainDue = false) (hp : ∀ d, (s.portAt d).settled = true) : s.conclude = s.arbitrate := by
  rw [s.conclude_same h, State.proceed, s.checkDrain_same hd, s.kickAll_settled hp]

/-- What the end of a step leaves of each port. -/
theorem State.conclude_portAt (s : State) (c : CellId) (h : s.cmd.waiting = none ∨ s.cmd.inProgress.isSome = true) :
    s.conclude.portAt c = (s.portAt c).goOn := by
  obtain ⟨r, n, b, hd⟩ := s.checkDrain_frame
  obtain ⟨b', hb⟩ := s.checkDrain.kickAll.arbitrate_frame
  rw [s.conclude_same h, State.proceed, hb]
  exact (s.checkDrain.kickAll_portAt c).trans (by rw [hd]; rfl)

/-- The drain of a STOP that is over: the night record write of STOP falls due (R172, R184). -/
theorem State.checkDrain_over (s : State) (h : s.drainDue = true) :
    s.checkDrain = ({ s with cmd := { s.cmd with inProgress := some (.stop true) } } : State).nightDue true := if_pos h

/-! ### A cell that leaves ACTIVE or PROBING -/

/-- An exchange that is no command of a probe outlives the probe (R158). -/
@[simp] theorem Exchange.endProbe_other (k : LinkCommand) (purpose : Purpose) (second last : Bool) (h : purpose ≠ .probe) :
    (Exchange.command k purpose second last).endProbe = .command k purpose second last := if_neg h

/-- A probe's command is carried to its end for nobody (R158). -/
@[simp] theorem Exchange.endProbe_probe (k : LinkCommand) (second last : Bool) :
    (Exchange.command k .probe second last).endProbe = .command k .orphan second true := rfl

/-- What a cell leaves behind: its new state, nothing held or received, no probe, and one IDLE due when it was in use (R154). -/
theorem RadioPort.leave_eq (p : RadioPort) (st : CellState) :
    p.leave st = { p with
      state := st, holding := none, behind := [], fifo := [], blocked := false, probe := none,
      exchange := p.exchange.map Exchange.endProbe,
      due := p.due.filter (fun d => !d.isWork) ++ if p.state.inUse then [.command .rest .port] else [] } := by
  simp only [RadioPort.leave]
  split
  · rfl
  · simp only [List.append_nil]
    rfl

/-- A beacon's SEND that is out stays out when its cell leaves ACTIVE (R122). -/
theorem RadioPort.leave_beaconOut (p : RadioPort) (st : CellState) : (p.leave st).beaconOut = p.beaconOut := by
  rw [RadioPort.leave_eq]
  rcases h : p.exchange with _ | (⟨k, purpose, second, last⟩ | d)
  · simp [RadioPort.beaconOut, h]
  · cases purpose <;> simp [RadioPort.beaconOut, h]
  · simp [RadioPort.beaconOut, h, Exchange.endProbe]

/-! ### A transfer asked for -/

theorem MemoryPort.waitingOf_setWaiting (p : MemoryPort) (r : Requester) (a : Option Action) :
    (p.setWaiting r a).waitingOf r = a := by
  cases r <;> rfl

theorem MemoryPort.waitingOf_setWaiting_other (p : MemoryPort) (r q : Requester) (a : Option Action) (h : q ≠ r) :
    (p.setWaiting r a).waitingOf q = p.waitingOf q := by
  cases r <;> cases q <;> first | rfl | exact absurd rfl h

theorem MemoryPort.setWaiting_bus (p : MemoryPort) (r : Requester) (a : Option Action) :
    (p.setWaiting r a).bus = p.bus ∧ (p.setWaiting r a).current = p.current := by
  cases r <;> exact ⟨rfl, rfl⟩

/-- A settled idle port has no requester waiting. -/
theorem MemoryPort.settled_none (p : MemoryPort) (h : p.settled = true) (hi : p.bus = .idle) (hc : p.current = none)
    (r : Requester) : p.waitingOf r = none := by
  have : p.highest = none := by simpa [MemoryPort.settled, hi, hc] using h
  have := List.find?_eq_none.1 this r (by cases r <;> decide)
  simpa using this

/-- A transfer offered to a settled port is asked for once the port has made its choice. -/
theorem State.offer_asked (s : State) (r : Requester) (a : Action) (h : s.bus.settled = true) :
    ((s.offer r a).arbitrate).bus.asked r a := by
  have hw : (s.offer r a).bus.waitingOf r = some a := MemoryPort.waitingOf_setWaiting _ _ _
  unfold State.arbitrate
  split
  · next hi =>
    have hb : (s.offer r a).bus = s.bus.setWaiting r (some a) := rfl
    rw [hb, (s.bus.setWaiting_bus r (some a)).1, (s.bus.setWaiting_bus r (some a)).2] at hi
    split
    · next hn =>
      have := List.find?_eq_none.1 hn r (by cases r <;> decide)
      simp [hw] at this
    · next q hq =>
      have hqs : ((s.offer r a).bus.waitingOf q).isSome = true :=
        List.find?_some (p := fun x => ((s.offer r a).bus.waitingOf x).isSome) hq
      have hqr : q = r := by
        by_contra hne
        rw [hb, MemoryPort.waitingOf_setWaiting_other _ _ _ _ hne, s.bus.settled_none h hi.1 hi.2 q] at hqs
        cases hqs
      subst hqr
      rw [hw]
      exact .inr ⟨_, rfl⟩
  · exact .inl hw

end Sys2Proof.Machine
end

