-- ==== Sys2Proof/Laws/Kept.lean ====
section
/-! SUPPORT. Every operation of a step but the write of a word (R160) keeps what the part has written to shared memory and the
queue of commands: one lemma per operation, in the order of the files. -/

namespace Sys2Proof.Machine

theorem foldl_kept {α : Type} (f : State → α → State)
    (h : ∀ s x, (f s x).shared = s.shared ∧ (f s x).pending = s.pending) (l : List α) (s : State) :
    (l.foldl f s).shared = s.shared ∧ (l.foldl f s).pending = s.pending := by
  induction l generalizing s with
  | nil => exact ⟨rfl, rfl⟩
  | cons x l ih => exact ⟨(ih _).1.trans (h s x).1, (ih _).2.trans (h s x).2⟩

theorem forCells_kept (f : State → CellId → State)
    (h : ∀ s c, (f s c).shared = s.shared ∧ (f s c).pending = s.pending) (s : State) :
    (forCells f s).shared = s.shared ∧ (forCells f s).pending = s.pending := foldl_kept f h allCells s

/-! ### Machine/Ops.lean -/

@[simp] theorem State.offer_kept (s : State) (r : Requester) (a : Action) :
    (s.offer r a).shared = s.shared ∧ (s.offer r a).pending = s.pending := by
  unfold State.offer
  simp

@[simp] theorem State.arbitrate_kept (s : State) :
    s.arbitrate.shared = s.shared ∧ s.arbitrate.pending = s.pending := by
  unfold State.arbitrate
  repeat' split
  all_goals simp

@[simp] theorem State.setController_kept (s : State) (c : ControllerState) :
    (s.setController c).shared = s.shared ∧ (s.setController c).pending = s.pending := by
  unfold State.setController
  dsimp only
  simp

/-! ### Machine/Flags.lean -/

@[simp] theorem State.raise_kept (s : State) (c : Cause) :
    (s.raise c).shared = s.shared ∧ (s.raise c).pending = s.pending := by
  unfold State.raise
  dsimp only
  simp

@[simp] theorem State.setResult_kept (s : State) (code : ResultCode) (value : Nat) :
    (s.setResult code value).shared = s.shared ∧ (s.setResult code value).pending = s.pending := by
  unfold State.setResult
  dsimp only
  simp

@[simp] theorem State.finish_kept (s : State) (code : ResultCode) (value : Nat) :
    (s.finish code value).shared = s.shared ∧ (s.finish code value).pending = s.pending := by
  unfold State.finish
  dsimp only
  simp

@[simp] theorem State.setRunning_kept (s : State) (r : Running) :
    (s.setRunning r).shared = s.shared ∧ (s.setRunning r).pending = s.pending := by
  unfold State.setRunning
  dsimp only
  simp

@[simp] theorem State.report_kept (s : State) (e : EntryState) :
    (s.report e).shared = s.shared ∧ (s.report e).pending = s.pending := by
  unfold State.report
  simp

@[simp] theorem State.memFault_kept (s : State) :
    s.memFault.shared = s.shared ∧ s.memFault.pending = s.pending := by
  unfold State.memFault
  dsimp only
  simp

/-! ### Machine/Passes.lean -/

@[simp] theorem State.enqueueWriteBack_kept (s : State) (indices : List Nat) :
    (s.enqueueWriteBack indices).shared = s.shared ∧ (s.enqueueWriteBack indices).pending = s.pending := by
  unfold State.enqueueWriteBack
  dsimp only
  repeat' split
  all_goals simp

@[simp] theorem State.retireIn_kept (p : DueRecord → Bool) (outcome : EntryState) (s : State) (c : CellId) :
    (s.retireIn p outcome c).shared = s.shared ∧ (s.retireIn p outcome c).pending = s.pending := by
  unfold State.retireIn
  dsimp only
  simp

@[simp] theorem State.retireWhere_kept (s : State) (p : DueRecord → Bool) (outcome : EntryState) :
    (s.retireWhere p outcome).shared = s.shared ∧ (s.retireWhere p outcome).pending = s.pending := by
  unfold State.retireWhere
  exact forCells_kept _ (fun _ _ => by simp) s

@[simp] theorem State.modRecord_kept (s : State) (c : CellId) (index : Nat) (f : DueRecord → DueRecord) :
    (s.modRecord c index f).shared = s.shared ∧ (s.modRecord c index f).pending = s.pending := by
  unfold State.modRecord
  simp

@[simp] theorem State.retireRecord_kept (s : State) (c : CellId) (index : Nat) (outcome : EntryState) (f : DueRecord → DueRecord) :
    (s.retireRecord c index outcome f).shared = s.shared ∧ (s.retireRecord c index outcome f).pending = s.pending := by
  unfold State.retireRecord
  simp

@[simp] theorem State.clearDeferred_kept (s : State) :
    s.clearDeferred.shared = s.shared ∧ s.clearDeferred.pending = s.pending := by
  unfold State.clearDeferred
  simp

@[simp] theorem State.rescanRetirement_kept (s : State) :
    s.rescanRetirement.shared = s.shared ∧ s.rescanRetirement.pending = s.pending := by
  unfold State.rescanRetirement
  simp

@[simp] theorem State.rescanRequest_kept (s : State) :
    s.rescanRequest.shared = s.shared ∧ s.rescanRequest.pending = s.pending := by
  unfold State.rescanRequest
  dsimp only
  repeat' split
  all_goals simp

@[simp] theorem State.beginRefill_kept (s : State) :
    s.beginRefill.shared = s.shared ∧ s.beginRefill.pending = s.pending := by
  unfold State.beginRefill
  dsimp only
  simp

@[simp] theorem State.refillRequest_kept (s : State) :
    s.refillRequest.shared = s.shared ∧ s.refillRequest.pending = s.pending := by
  unfold State.refillRequest
  repeat' split
  all_goals simp

@[simp] theorem State.changeoverRequest_kept (s : State) (g : GroupId) :
    (s.changeoverRequest g).shared = s.shared ∧ (s.changeoverRequest g).pending = s.pending := by
  unfold State.changeoverRequest
  dsimp only
  repeat' split
  all_goals simp

@[simp] theorem State.refillCheck_kept (s : State) :
    s.refillCheck.shared = s.shared ∧ s.refillCheck.pending = s.pending := by
  unfold State.refillCheck
  repeat' split
  all_goals simp

@[simp] theorem State.passComplete_kept (s : State) (k : PassKind) :
    (s.passComplete k).shared = s.shared ∧ (s.passComplete k).pending = s.pending := by
  unfold State.passComplete
  dsimp only
  repeat' split
  all_goals simp

@[simp] theorem State.advancePass_kept (s : State) (k : PassKind) :
    (s.advancePass k).shared = s.shared ∧ (s.advancePass k).pending = s.pending := by
  unfold State.advancePass
  dsimp only
  repeat' split
  all_goals simp

@[simp] theorem State.finishHand_kept (s : State) :
    s.finishHand.shared = s.shared ∧ s.finishHand.pending = s.pending := by
  unfold State.finishHand
  dsimp only
  repeat' split
  all_goals simp

@[simp] theorem State.joinReread_kept (s : State) (index : Nat) :
    (s.joinReread index).shared = s.shared ∧ (s.joinReread index).pending = s.pending := by
  unfold State.joinReread
  dsimp only
  repeat' split
  all_goals simp

/-! ### Machine/NightRecord.lean -/

@[simp] theorem State.beginNightWrite_kept (s : State) (snap : Snapshot) :
    (s.beginNightWrite snap).shared = s.shared ∧ (s.beginNightWrite snap).pending = s.pending := by
  unfold State.beginNightWrite
  dsimp only
  simp

@[simp] theorem State.nightDue_kept (s : State) (awaited : Bool) :
    (s.nightDue awaited).shared = s.shared ∧ (s.nightDue awaited).pending = s.pending := by
  unfold State.nightDue
  dsimp only
  repeat' split
  all_goals simp

@[simp] theorem State.endNightWrite_kept (s : State) :
    s.endNightWrite.shared = s.shared ∧ s.endNightWrite.pending = s.pending := by
  unfold State.endNightWrite
  dsimp only
  repeat' split
  all_goals simp

@[simp] theorem State.nightBurstDone_kept (s : State) :
    s.nightBurstDone.shared = s.shared ∧ s.nightBurstDone.pending = s.pending := by
  unfold State.nightBurstDone
  dsimp only
  repeat' split
  all_goals simp

@[simp] theorem State.nightAbort_kept (s : State) :
    s.nightAbort.shared = s.shared ∧ s.nightAbort.pending = s.pending := by
  unfold State.nightAbort
  dsimp only
  repeat' split
  all_goals simp

@[simp] theorem State.checkDrain_kept (s : State) :
    s.checkDrain.shared = s.shared ∧ s.checkDrain.pending = s.pending := by
  unfold State.checkDrain
  dsimp only
  repeat' split
  all_goals simp

/-! ### Machine/DueLists.lean -/

@[simp] theorem State.admitRecord_kept (s : State) (index : Nat) (e : Entry) (kind : ItemKind) (mode : Mode) :
    (s.admitRecord index e kind mode).shared = s.shared ∧ (s.admitRecord index e kind mode).pending = s.pending := by
  unfold State.admitRecord
  simp

@[simp] theorem State.deferCell_kept (s : State) (c : CellId) :
    (s.deferCell c).shared = s.shared ∧ (s.deferCell c).pending = s.pending := by
  unfold State.deferCell
  simp

@[simp] theorem State.refreshRecord_kept (s : State) (c : CellId) (r : DueRecord) (e : Entry) :
    (s.refreshRecord c r e).shared = s.shared ∧ (s.refreshRecord c r e).pending = s.pending := by
  unfold State.refreshRecord
  repeat' split
  all_goals simp

@[simp] theorem State.routeRead_kept (s : State) (c : CellId) (r : DueRecord) (e : Entry) :
    (s.routeRead c r e).shared = s.shared ∧ (s.routeRead c r e).pending = s.pending := by
  unfold State.routeRead
  repeat' split
  all_goals simp

@[simp] theorem State.settleResult_kept (s : State) (c : CellId) (r : DueRecord) :
    (s.settleResult c r).shared = s.shared ∧ (s.settleResult c r).pending = s.pending := by
  unfold State.settleResult
  dsimp only
  repeat' split
  all_goals simp

@[simp] theorem State.itemResult_kept (s : State) (c : CellId) (index : Nat) (b : BeaconNo) (res : ItemResult) :
    (s.itemResult c index b res).shared = s.shared ∧ (s.itemResult c index b res).pending = s.pending := by
  unfold State.itemResult
  repeat' split
  all_goals simp

@[simp] theorem State.storeCheck_kept (s : State) (c : CellId) (index : Nat) (value : BitVec 16) :
    (s.storeCheck c index value).shared = s.shared ∧ (s.storeCheck c index value).pending = s.pending := by
  unfold State.storeCheck
  simp

@[simp] theorem State.contentBad_kept (s : State) (c : CellId) (index : Nat) :
    (s.contentBad c index).shared = s.shared ∧ (s.contentBad c index).pending = s.pending := by
  unfold State.contentBad
  repeat' split
  all_goals simp

@[simp] theorem State.contentRestart_kept (s : State) (c : CellId) (index : Nat) :
    (s.contentRestart c index).shared = s.shared ∧ (s.contentRestart c index).pending = s.pending := by
  unfold State.contentRestart
  simp

@[simp] theorem State.flipRecords_kept (s : State) (g : BitVec 4) :
    (s.flipRecords g).shared = s.shared ∧ (s.flipRecords g).pending = s.pending := by
  unfold State.flipRecords
  dsimp only
  split <;> simp [forCells_eq]

@[simp] theorem State.drainWaiting_kept (s : State) :
    s.drainWaiting.shared = s.shared ∧ s.drainWaiting.pending = s.pending := by
  unfold State.drainWaiting
  simp

@[simp] theorem State.discardRecords_kept (s : State) :
    s.discardRecords.shared = s.shared ∧ s.discardRecords.pending = s.pending := by
  unfold State.discardRecords
  simp

/-! ### Machine/Links.lean -/

@[simp] theorem State.kick_kept (s : State) (c : CellId) :
    (s.kick c).shared = s.shared ∧ (s.kick c).pending = s.pending := by
  unfold State.kick
  simp

@[simp] theorem State.kickAll_kept (s : State) :
    s.kickAll.shared = s.shared ∧ s.kickAll.pending = s.pending := by
  unfold State.kickAll
  exact forCells_kept _ (fun _ _ => by simp) s

@[simp] theorem State.cellOff_kept (s : State) (c : CellId) :
    (s.cellOff c).shared = s.shared ∧ (s.cellOff c).pending = s.pending := by
  unfold State.cellOff
  simp

@[simp] theorem State.goQuiet_kept (s : State) (c : CellId) :
    (s.goQuiet c).shared = s.shared ∧ (s.goQuiet c).pending = s.pending := by
  unfold State.goQuiet
  dsimp only
  repeat' split
  all_goals simp

/-! ### Machine/Stores.lean -/

@[simp] theorem State.abandonFetch_kept (s : State) (c : CellId) (b : BeaconNo) (place : Nat) :
    (s.abandonFetch c b place).shared = s.shared ∧ (s.abandonFetch c b place).pending = s.pending := by
  unfold State.abandonFetch
  dsimp only
  repeat' split
  all_goals simp

@[simp] theorem State.modItem_kept (s : State) (c : CellId) (b : BeaconNo) (place : Nat) (f : PlanItem → PlanItem) :
    (s.modItem c b place f).shared = s.shared ∧ (s.modItem c b place f).pending = s.pending := by
  unfold State.modItem
  dsimp only
  simp

@[simp] theorem State.releaseBuffers_kept (s : State) (c : CellId) (numbers : List Nat) :
    (s.releaseBuffers c numbers).shared = s.shared ∧ (s.releaseBuffers c numbers).pending = s.pending := by
  unfold State.releaseBuffers
  simp

@[simp] theorem State.dropItem_kept (s : State) (c : CellId) (b : BeaconNo) (place : Nat) :
    (s.dropItem c b place).shared = s.shared ∧ (s.dropItem c b place).pending = s.pending := by
  unfold State.dropItem
  repeat' split
  all_goals simp

@[simp] theorem State.notSent_kept (s : State) (c : CellId) (b : BeaconNo) (place : Nat) :
    (s.notSent c b place).shared = s.shared ∧ (s.notSent c b place).pending = s.pending := by
  unfold State.notSent
  repeat' split
  all_goals simp

@[simp] theorem State.notSentAll_kept (s : State) (c : CellId) (p : Plan) :
    (s.notSentAll c p).shared = s.shared ∧ (s.notSentAll c p).pending = s.pending := by
  unfold State.notSentAll
  exact foldl_kept _ (fun _ _ => by simp) _ s

/-! ### Machine/Flip.lean -/

@[simp] theorem State.modGroup_kept (s : State) (g : GroupId) (f : GroupRecord → GroupRecord) :
    (s.modGroup g f).shared = s.shared ∧ (s.modGroup g f).pending = s.pending := by
  unfold State.modGroup
  dsimp only
  simp

@[simp] theorem State.takeFlip_kept (b : BeaconNo) (s : State) (g : GroupId) :
    (s.takeFlip b g).shared = s.shared ∧ (s.takeFlip b g).pending = s.pending := by
  unfold State.takeFlip
  dsimp only
  repeat' split
  all_goals simp

@[simp] theorem State.takeFlips_kept (s : State) (b : BeaconNo) :
    (s.takeFlips b).shared = s.shared ∧ (s.takeFlips b).pending = s.pending := by
  unfold State.takeFlips
  exact foldl_kept _ (fun _ _ => by simp) _ s

@[simp] theorem State.reportBeacon_kept (s : State) (c : CellId) (b : BeaconNo) (sent : Bool) :
    (s.reportBeacon c b sent).shared = s.shared ∧ (s.reportBeacon c b sent).pending = s.pending := by
  unfold State.reportBeacon
  dsimp only
  repeat' split
  all_goals simp

@[simp] theorem State.reopenGroups_kept (s : State) :
    s.reopenGroups.shared = s.shared ∧ s.reopenGroups.pending = s.pending := by
  unfold State.reopenGroups
  dsimp only
  simp

/-! ### Machine/Windows.lean -/

@[simp] theorem State.takeOffPending_kept (s : State) (c : CellId) :
    (s.takeOffPending c).shared = s.shared ∧ (s.takeOffPending c).pending = s.pending := by
  unfold State.takeOffPending
  repeat' split
  all_goals simp

@[simp] theorem State.endWindow_kept (s : State) (c : CellId) :
    (s.endWindow c).shared = s.shared ∧ (s.endWindow c).pending = s.pending := by
  unfold State.endWindow
  simp

@[simp] theorem State.beaconSent_kept (s : State) (c : CellId) (b : BeaconNo) :
    (s.beaconSent c b).shared = s.shared ∧ (s.beaconSent c b).pending = s.pending := by
  unfold State.beaconSent
  repeat' split
  all_goals simp

@[simp] theorem State.beaconFault_kept (s : State) (c : CellId) (b : BeaconNo) :
    (s.beaconFault c b).shared = s.shared ∧ (s.beaconFault c b).pending = s.pending := by
  unfold State.beaconFault
  dsimp only
  repeat' split
  all_goals simp

@[simp] theorem State.missWaiting_kept (s : State) (c : CellId) :
    (s.missWaiting c).shared = s.shared ∧ (s.missWaiting c).pending = s.pending := by
  unfold State.missWaiting
  repeat' split
  all_goals simp

@[simp] theorem State.beaconMissed_kept (s : State) (c : CellId) (b : BeaconNo) :
    (s.beaconMissed c b).shared = s.shared ∧ (s.beaconMissed c b).pending = s.pending := by
  unfold State.beaconMissed
  dsimp only
  repeat' split
  all_goals simp

@[simp] theorem State.portFault_kept (s : State) (c : CellId) (b : BeaconNo) :
    (s.portFault c b).shared = s.shared ∧ (s.portFault c b).pending = s.pending := by
  unfold State.portFault
  repeat' split
  all_goals simp

@[simp] theorem State.dropComing_kept (s : State) (c : CellId) :
    (s.dropComing c).shared = s.shared ∧ (s.dropComing c).pending = s.pending := by
  unfold State.dropComing
  repeat' split
  all_goals simp

/-! ### Machine/Probes.lean -/

@[simp] theorem State.checkLoadProbes_kept (s : State) :
    s.checkLoadProbes.shared = s.shared ∧ s.checkLoadProbes.pending = s.pending := by
  unfold State.checkLoadProbes
  dsimp only
  repeat' split
  all_goals simp

@[simp] theorem State.finishCellOn_kept (s : State) (c : CellId) (ok : Bool) :
    (s.finishCellOn c ok).shared = s.shared ∧ (s.finishCellOn c ok).pending = s.pending := by
  unfold State.finishCellOn
  dsimp only
  repeat' split
  all_goals simp

@[simp] theorem State.probeEnd_kept (s : State) (c : CellId) (status : ProbeStatus) (ok : Bool) :
    (s.probeEnd c status ok).shared = s.shared ∧ (s.probeEnd c status ok).pending = s.pending := by
  unfold State.probeEnd
  dsimp only
  repeat' split
  all_goals simp

@[simp] theorem State.identAnswered_kept (s : State) (c : CellId) (kind : BitVec 8) :
    (s.identAnswered c kind).shared = s.shared ∧ (s.identAnswered c kind).pending = s.pending := by
  unfold State.identAnswered
  repeat' split
  all_goals simp

@[simp] theorem State.identSilent_kept (s : State) (c : CellId) (seen : DataIn) :
    (s.identSilent c seen).shared = s.shared ∧ (s.identSilent c seen).pending = s.pending := by
  unfold State.identSilent
  dsimp only
  repeat' split
  all_goals simp

/-! ### Machine/Commands.lean -/

@[simp] theorem State.endSweep_kept (s : State) (hand : Option InHand) :
    (s.endSweep hand).shared = s.shared ∧ (s.endSweep hand).pending = s.pending := by
  unfold State.endSweep
  simp

@[simp] theorem State.cutCell_kept (s : State) (c : CellId) :
    (s.cutCell c).shared = s.shared ∧ (s.cutCell c).pending = s.pending := by
  unfold State.cutCell
  dsimp only
  simp

@[simp] theorem State.cutNight_kept (s : State) (hand : Option InHand) :
    (s.cutNight hand).shared = s.shared ∧ (s.cutNight hand).pending = s.pending := by
  unfold State.cutNight
  dsimp only
  simp [forCells_eq]

@[simp] theorem State.wrongState_kept (s : State) :
    s.wrongState.shared = s.shared ∧ s.wrongState.pending = s.pending := by
  unfold State.wrongState
  simp

@[simp] theorem State.takeLoad_kept (s : State) :
    s.takeLoad.shared = s.shared ∧ s.takeLoad.pending = s.pending := by
  unfold State.takeLoad
  repeat' split
  all_goals simp

@[simp] theorem State.takeStart_kept (s : State) :
    s.takeStart.shared = s.shared ∧ s.takeStart.pending = s.pending := by
  unfold State.takeStart
  dsimp only
  repeat' split
  all_goals simp

@[simp] theorem State.takePause_kept (s : State) :
    s.takePause.shared = s.shared ∧ s.takePause.pending = s.pending := by
  unfold State.takePause
  repeat' split
  all_goals simp

@[simp] theorem State.takeResume_kept (s : State) :
    s.takeResume.shared = s.shared ∧ s.takeResume.pending = s.pending := by
  unfold State.takeResume
  repeat' split
  all_goals simp

@[simp] theorem State.offIfNoWindow_kept (s : State) (c : CellId) :
    (s.offIfNoWindow c).shared = s.shared ∧ (s.offIfNoWindow c).pending = s.pending := by
  unfold State.offIfNoWindow
  repeat' split
  all_goals simp

@[simp] theorem State.takeStop_kept (s : State) :
    s.takeStop.shared = s.shared ∧ s.takeStop.pending = s.pending := by
  unfold State.takeStop
  dsimp only
  repeat' split
  all_goals simp [forCells_eq]

@[simp] theorem State.takeRescan_kept (s : State) :
    s.takeRescan.shared = s.shared ∧ s.takeRescan.pending = s.pending := by
  unfold State.takeRescan
  repeat' split
  all_goals simp

@[simp] theorem State.takeFlipAt_kept (s : State) (group : BitVec 4) (delta : BitVec 20) :
    (s.takeFlipAt group delta).shared = s.shared ∧ (s.takeFlipAt group delta).pending = s.pending := by
  unfold State.takeFlipAt
  dsimp only
  repeat' split
  all_goals simp

@[simp] theorem State.takeCancelFlip_kept (s : State) (group : BitVec 4) :
    (s.takeCancelFlip group).shared = s.shared ∧ (s.takeCancelFlip group).pending = s.pending := by
  unfold State.takeCancelFlip
  dsimp only
  repeat' split
  all_goals simp

@[simp] theorem State.nightIfLoaded_kept (s : State) :
    s.nightIfLoaded.shared = s.shared ∧ s.nightIfLoaded.pending = s.pending := by
  unfold State.nightIfLoaded
  repeat' split
  all_goals simp

@[simp] theorem State.takeCellOn_kept (s : State) (cell : BitVec 8) :
    (s.takeCellOn cell).shared = s.shared ∧ (s.takeCellOn cell).pending = s.pending := by
  unfold State.takeCellOn
  repeat' split
  all_goals simp

@[simp] theorem State.takeCellOff_kept (s : State) (cell : BitVec 8) :
    (s.takeCellOff cell).shared = s.shared ∧ (s.takeCellOff cell).pending = s.pending := by
  unfold State.takeCellOff
  dsimp only
  repeat' split
  all_goals simp

@[simp] theorem State.takeSetAttnMask_kept (s : State) (mask : BitVec 9) :
    (s.takeSetAttnMask mask).shared = s.shared ∧ (s.takeSetAttnMask mask).pending = s.pending := by
  unfold State.takeSetAttnMask
  dsimp only
  simp

@[simp] theorem State.abortNight_kept (s : State) :
    s.abortNight.shared = s.shared ∧ s.abortNight.pending = s.pending := by
  unfold State.abortNight
  dsimp only
  simp

@[simp] theorem State.abortCellOn_kept (s : State) (c : CellId) :
    (s.abortCellOn c).shared = s.shared ∧ (s.abortCellOn c).pending = s.pending := by
  unfold State.abortCellOn
  dsimp only
  repeat' split
  all_goals simp

@[simp] theorem State.abortLoad_kept (s : State) (before : ControllerState) (phase : LoadPhase) :
    (s.abortLoad before phase).shared = s.shared ∧ (s.abortLoad before phase).pending = s.pending := by
  unfold State.abortLoad
  dsimp only
  repeat' split
  all_goals simp [forCells_eq]

@[simp] theorem State.takeAbort_kept (s : State) :
    s.takeAbort.shared = s.shared ∧ s.takeAbort.pending = s.pending := by
  unfold State.takeAbort
  repeat' split
  all_goals simp

@[simp] theorem State.powerOnState_kept (s : State) :
    s.powerOnState.shared = s.shared ∧ s.powerOnState.pending = s.pending := by
  unfold State.powerOnState
  dsimp only
  simp

@[simp] theorem State.resetState_kept (s : State) (busy : Bool) :
    (s.resetState busy).shared = s.shared ∧ (s.resetState busy).pending = s.pending := by
  unfold State.resetState
  dsimp only
  repeat' split
  all_goals simp

@[simp] theorem State.takeReset_kept (s : State) :
    s.takeReset.shared = s.shared ∧ s.takeReset.pending = s.pending := by
  unfold State.takeReset
  dsimp only
  repeat' split
  all_goals simp

@[simp] theorem State.takeCommand_kept (s : State) (hc : HostCommand) :
    (s.takeCommand hc).shared = s.shared ∧ (s.takeCommand hc).pending = s.pending := by
  cases hc <;> simp [State.takeCommand]

@[simp] theorem State.queueCommand_kept (s : State) (c : HostCommand) :
    (s.queueCommand c).shared = s.shared ∧ (s.queueCommand c).pending = s.pending := by
  unfold State.queueCommand
  dsimp only
  repeat' split
  all_goals simp

@[simp] theorem State.writeCommand_kept (s : State) (c : HostCommand) :
    (s.writeCommand c).shared = s.shared ∧ (s.writeCommand c).pending = s.pending := by
  unfold State.writeCommand
  repeat' split
  all_goals simp

@[simp] theorem State.proceed_kept (s : State) :
    s.proceed.shared = s.shared ∧ s.proceed.pending = s.pending := by
  unfold State.proceed
  simp

@[simp] theorem State.conclude_kept (s : State) :
    s.conclude.shared = s.shared ∧ s.conclude.pending = s.pending := by
  unfold State.conclude
  repeat' split
  all_goals simp

@[simp] theorem State.enterFaulted_kept (s : State) :
    s.enterFaulted.shared = s.shared ∧ s.enterFaulted.pending = s.pending := by
  unfold State.enterFaulted
  dsimp only
  repeat' split
  all_goals simp [forCells_eq]

/-! ### Machine/Registers.lean -/

@[simp] theorem State.loseNotice_kept (s : State) :
    s.loseNotice.shared = s.shared ∧ s.loseNotice.pending = s.pending := by
  unfold State.loseNotice
  dsimp only
  simp

@[simp] theorem State.takeNotice_kept (s : State) (first spanMinusOne : BitVec 16) :
    (s.takeNotice first spanMinusOne).shared = s.shared ∧ (s.takeNotice first spanMinusOne).pending = s.pending := by
  unfold State.takeNotice
  repeat' split
  all_goals simp

@[simp] theorem State.clearCauses_kept (s : State) (value : Word) :
    (s.clearCauses value).shared = s.shared ∧ (s.clearCauses value).pending = s.pending := by
  unfold State.clearCauses
  dsimp only
  simp

@[simp] theorem State.writeAnchor_kept (s : State) (value : Word) :
    (s.writeAnchor value).shared = s.shared ∧ (s.writeAnchor value).pending = s.pending := by
  unfold State.writeAnchor
  dsimp only
  simp

@[simp] theorem State.writeRegister_kept (s : State) (offset value : Word) :
    (s.writeRegister offset value).shared = s.shared ∧ (s.writeRegister offset value).pending = s.pending := by
  unfold State.writeRegister
  repeat' split
  all_goals simp

/-! ### Machine/AirEvents.lean -/

@[simp] theorem State.countBeacon_kept (s : State) :
    s.countBeacon.shared = s.shared ∧ s.countBeacon.pending = s.pending := by
  unfold State.countBeacon
  dsimp only
  simp

@[simp] theorem State.cellBeacon_kept (b : BeaconNo) (notices : List FlipNotice) (s : State) (c : CellId) :
    (s.cellBeacon b notices c).shared = s.shared ∧ (s.cellBeacon b notices c).pending = s.pending := by
  unfold State.cellBeacon
  dsimp only
  repeat' split
  all_goals simp

@[simp] theorem State.takeBeacon_kept (s : State) :
    s.takeBeacon.shared = s.shared ∧ s.takeBeacon.pending = s.pending := by
  unfold State.takeBeacon
  dsimp only
  simp [forCells_eq]

@[simp] theorem State.handPlan_kept (s : State) (c : CellId) (plan : Plan) :
    (s.handPlan c plan).shared = s.shared ∧ (s.handPlan c plan).pending = s.pending := by
  unfold State.handPlan
  dsimp only
  simp

@[simp] theorem State.planCell_kept (b : BeaconNo) (s : State) (c : CellId) :
    (s.planCell b c).shared = s.shared ∧ (s.planCell b c).pending = s.pending := by
  unfold State.planCell
  repeat' split
  all_goals simp

@[simp] theorem State.takePlanPoint_kept (s : State) :
    s.takePlanPoint.shared = s.shared ∧ s.takePlanPoint.pending = s.pending := by
  unfold State.takePlanPoint
  dsimp only
  simp [forCells_eq]

@[simp] theorem State.sendItem_kept (s : State) (c : CellId) (plan : Plan) (i : PlanItem) :
    (s.sendItem c plan i).shared = s.shared ∧ (s.sendItem c plan i).pending = s.pending := by
  unfold State.sendItem
  dsimp only
  simp

@[simp] theorem State.fetchLate_kept (s : State) (c : CellId) (plan : Plan) :
    (s.fetchLate c plan).shared = s.shared ∧ (s.fetchLate c plan).pending = s.pending := by
  unfold State.fetchLate
  dsimp only
  simp

@[simp] theorem State.slotStart_kept (s : State) (c : CellId) :
    (s.slotStart c).shared = s.shared ∧ (s.slotStart c).pending = s.pending := by
  unfold State.slotStart
  repeat' split
  all_goals simp

@[simp] theorem State.frameSlot_kept (s : State) (c : CellId) :
    (s.frameSlot c).shared = s.shared ∧ (s.frameSlot c).pending = s.pending := by
  unfold State.frameSlot
  dsimp only
  repeat' split
  all_goals simp

@[simp] theorem State.replyStart_kept (s : State) (c : CellId) :
    (s.replyStart c).shared = s.shared ∧ (s.replyStart c).pending = s.pending := by
  unfold State.replyStart
  dsimp only
  repeat' split
  all_goals simp

@[simp] theorem State.takeSlotFrames_kept (s : State) (c : CellId) :
    (s.takeSlotFrames c).shared = s.shared ∧ (s.takeSlotFrames c).pending = s.pending := by
  unfold State.takeSlotFrames
  dsimp only
  simp

@[simp] theorem State.endItem_kept (s : State) (c : CellId) (plan : Plan) (i : PlanItem) (res : ItemResult) :
    (s.endItem c plan i res).shared = s.shared ∧ (s.endItem c plan i res).pending = s.pending := by
  unfold State.endItem
  dsimp only
  simp

@[simp] theorem State.replyEnd_kept (s : State) (c : CellId) :
    (s.replyEnd c).shared = s.shared ∧ (s.replyEnd c).pending = s.pending := by
  unfold State.replyEnd
  dsimp only
  repeat' split
  all_goals simp

/-! ### Machine/LinkEvents.lean -/

@[simp] theorem State.countdownOver_kept (s : State) (c : CellId) :
    (s.countdownOver c).shared = s.shared ∧ (s.countdownOver c).pending = s.pending := by
  unfold State.countdownOver
  dsimp only
  repeat' split
  all_goals simp

@[simp] theorem State.endExchange_kept (s : State) (c : CellId) :
    (s.endExchange c).shared = s.shared ∧ (s.endExchange c).pending = s.pending := by
  unfold State.endExchange
  simp

@[simp] theorem State.cutCommandOver_kept (s : State) (c : CellId) :
    (s.cutCommandOver c).shared = s.shared ∧ (s.cutCommandOver c).pending = s.pending := by
  unfold State.cutCommandOver
  repeat' split
  all_goals simp

@[simp] theorem State.answered_kept (s : State) (c : CellId) (k : LinkCommand) (purpose : Purpose) (kind : BitVec 8) :
    (s.answered c k purpose kind).shared = s.shared ∧ (s.answered c k purpose kind).pending = s.pending := by
  unfold State.answered
  repeat' split
  all_goals simp

@[simp] theorem State.reportFault_kept (s : State) (c : CellId) (k : LinkCommand) (purpose : Purpose) :
    (s.reportFault c k purpose).shared = s.shared ∧ (s.reportFault c k purpose).pending = s.pending := by
  unfold State.reportFault
  repeat' split
  all_goals simp

@[simp] theorem State.quietCheck_kept (s : State) (c : CellId) :
    (s.quietCheck c).shared = s.shared ∧ (s.quietCheck c).pending = s.pending := by
  unfold State.quietCheck
  dsimp only
  repeat' split
  all_goals simp

@[simp] theorem State.linkFault_kept (s : State) (c : CellId) (k : LinkCommand) (purpose : Purpose) :
    (s.linkFault c k purpose).shared = s.shared ∧ (s.linkFault c k purpose).pending = s.pending := by
  unfold State.linkFault
  dsimp only
  simp

@[simp] theorem State.unanswered_kept (s : State) (c : CellId) (k : LinkCommand) (purpose : Purpose) (second last : Bool) (seen : DataIn) :
    (s.unanswered c k purpose second last seen).shared = s.shared ∧ (s.unanswered c k purpose second last seen).pending = s.pending := by
  unfold State.unanswered
  repeat' split
  all_goals simp

@[simp] theorem State.takeAnswer_kept (s : State) (c : CellId) (answer : Word) :
    (s.takeAnswer c answer).shared = s.shared ∧ (s.takeAnswer c answer).pending = s.pending := by
  unfold State.takeAnswer
  dsimp only
  repeat' split
  all_goals simp

@[simp] theorem State.takeTimeout_kept (s : State) (c : CellId) (seen : DataIn) :
    (s.takeTimeout c seen).shared = s.shared ∧ (s.takeTimeout c seen).pending = s.pending := by
  unfold State.takeTimeout
  repeat' split
  all_goals simp

@[simp] theorem State.raiseFrameReady_kept (s : State) (c : CellId) :
    (s.raiseFrameReady c).shared = s.shared ∧ (s.raiseFrameReady c).pending = s.pending := by
  unfold State.raiseFrameReady
  dsimp only
  repeat' split
  all_goals simp

@[simp] theorem State.takePull_kept (s : State) (c : CellId) (lengthWord : Word) (words : List Word) :
    (s.takePull c lengthWord words).shared = s.shared ∧ (s.takePull c lengthWord words).pending = s.pending := by
  unfold State.takePull
  repeat' split
  all_goals simp

@[simp] theorem State.takeHeadFrame_kept (s : State) (c : CellId) :
    (s.takeHeadFrame c).shared = s.shared ∧ (s.takeHeadFrame c).pending = s.pending := by
  unfold State.takeHeadFrame
  repeat' split
  all_goals simp

/-! ### Machine/SweepEvents.lean -/

@[simp] theorem State.beginVisit_kept (s : State) (index : Nat) (source : HandSource) (visit : Visit) :
    (s.beginVisit index source visit).shared = s.shared ∧ (s.beginVisit index source visit).pending = s.pending := by
  unfold State.beginVisit
  dsimp only
  simp

@[simp] theorem State.takeReread_kept (s : State) (index : Nat) (rest : List Nat) :
    (s.takeReread index rest).shared = s.shared ∧ (s.takeReread index rest).pending = s.pending := by
  unfold State.takeReread
  dsimp only
  repeat' split
  all_goals simp

@[simp] theorem State.takeNoticeEntry_kept (s : State) (n : Notice) :
    (s.takeNoticeEntry n).shared = s.shared ∧ (s.takeNoticeEntry n).pending = s.pending := by
  unfold State.takeNoticeEntry
  repeat' split
  all_goals simp

@[simp] theorem State.takeEntry_kept (s : State) :
    s.takeEntry.shared = s.shared ∧ s.takeEntry.pending = s.pending := by
  unfold State.takeEntry
  repeat' split
  all_goals simp

@[simp] theorem State.setPhase_kept (s : State) (phase : HandPhase) :
    (s.setPhase phase).shared = s.shared ∧ (s.setPhase phase).pending = s.pending := by
  unfold State.setPhase
  dsimp only
  simp

@[simp] theorem State.beginWrite_kept (s : State) (index : Nat) (written : PartHalf) (w : SweepWrite) :
    (s.beginWrite index written w).shared = s.shared ∧ (s.beginWrite index written w).pending = s.pending := by
  unfold State.beginWrite
  simp

@[simp] theorem State.writeIfChanged_kept (s : State) (index : Nat) (read written : PartHalf) :
    (s.writeIfChanged index read written).shared = s.shared ∧ (s.writeIfChanged index read written).pending = s.pending := by
  unfold State.writeIfChanged
  repeat' split
  all_goals simp

@[simp] theorem State.carryOut_kept (s : State) (index : Nat) (read : PartHalf) (e : Entry) (v : Verdict) :
    (s.carryOut index read e v).shared = s.shared ∧ (s.carryOut index read e v).pending = s.pending := by
  unfold State.carryOut
  repeat' split
  all_goals simp

@[simp] theorem State.plainVisit_kept (s : State) (index : Nat) (e : Entry) :
    (s.plainVisit index e).shared = s.shared ∧ (s.plainVisit index e).pending = s.pending := by
  unfold State.plainVisit
  simp

@[simp] theorem State.openingVisit_kept (s : State) (index : Nat) (e : Entry) :
    (s.openingVisit index e).shared = s.shared ∧ (s.openingVisit index e).pending = s.pending := by
  unfold State.openingVisit
  dsimp only
  simp

@[simp] theorem State.makeUnsure_kept (s : State) (index : Nat) (e : Entry) :
    (s.makeUnsure index e).shared = s.shared ∧ (s.makeUnsure index e).pending = s.pending := by
  unfold State.makeUnsure
  dsimp only
  repeat' split
  all_goals simp

@[simp] theorem State.movedOn_kept (s : State) (index : Nat) (e : Entry) :
    (s.movedOn index e).shared = s.shared ∧ (s.movedOn index e).pending = s.pending := by
  unfold State.movedOn
  repeat' split
  all_goals simp

@[simp] theorem State.changeoverEntry_kept (s : State) (g : GroupId) (index : Nat) (e : Entry) :
    (s.changeoverEntry g index e).shared = s.shared ∧ (s.changeoverEntry g index e).pending = s.pending := by
  unfold State.changeoverEntry
  dsimp only
  repeat' split
  all_goals simp

@[simp] theorem State.changeoverVisit_kept (s : State) (h : InHand) (e : Entry) :
    (s.changeoverVisit h e).shared = s.shared ∧ (s.changeoverVisit h e).pending = s.pending := by
  unfold State.changeoverVisit
  repeat' split
  all_goals simp

@[simp] theorem State.dealWith_kept (s : State) (h : InHand) (e : Entry) :
    (s.dealWith h e).shared = s.shared ∧ (s.dealWith h e).pending = s.pending := by
  unfold State.dealWith State.routeOr
  repeat' split
  all_goals simp

@[simp] theorem State.entryRead_kept (s : State) :
    s.entryRead.shared = s.shared ∧ s.entryRead.pending = s.pending := by
  unfold State.entryRead
  repeat' split
  all_goals simp

@[simp] theorem State.followPoll_kept (s : State) (index : Nat) (e : Entry) :
    (s.followPoll index e).shared = s.shared ∧ (s.followPoll index e).pending = s.pending := by
  unfold State.followPoll
  repeat' split
  all_goals simp

@[simp] theorem State.afterMarks_kept (s : State) (index : Nat) (w : SweepWrite) :
    (s.afterMarks index w).shared = s.shared ∧ (s.afterMarks index w).pending = s.pending := by
  unfold State.afterMarks
  repeat' split
  all_goals simp

@[simp] theorem State.sweepWritten_kept (s : State) :
    s.sweepWritten.shared = s.shared ∧ s.sweepWritten.pending = s.pending := by
  unfold State.sweepWritten
  repeat' split
  all_goals simp

@[simp] theorem State.sweepMarked_kept (s : State) :
    s.sweepMarked.shared = s.shared ∧ s.sweepMarked.pending = s.pending := by
  unfold State.sweepMarked
  repeat' split
  all_goals simp

/-! ### Machine/FetchEvents.lean -/

@[simp] theorem State.beginFetch_kept (s : State) :
    s.beginFetch.shared = s.shared ∧ s.beginFetch.pending = s.pending := by
  unfold State.beginFetch
  dsimp only
  repeat' split
  all_goals simp

@[simp] theorem State.setFetching_kept (s : State) (f : Option Fetch) :
    (s.setFetching f).shared = s.shared ∧ (s.setFetching f).pending = s.pending := by
  unfold State.setFetching
  dsimp only
  simp

@[simp] theorem State.offerNext_kept (s : State) (f : Fetch) :
    (s.offerNext f).shared = s.shared ∧ (s.offerNext f).pending = s.pending := by
  unfold State.offerNext
  repeat' split
  all_goals simp

@[simp] theorem State.fetchBad_kept (s : State) (e : FetchElem) :
    (s.fetchBad e).shared = s.shared ∧ (s.fetchBad e).pending = s.pending := by
  unfold State.fetchBad
  simp

@[simp] theorem State.fetchRestart_kept (s : State) (e : FetchElem) :
    (s.fetchRestart e).shared = s.shared ∧ (s.fetchRestart e).pending = s.pending := by
  unfold State.fetchRestart
  simp

@[simp] theorem State.fetchReady_kept (s : State) (f : Fetch) :
    (s.fetchReady f).shared = s.shared ∧ (s.fetchReady f).pending = s.pending := by
  unfold State.fetchReady
  dsimp only
  repeat' split
  all_goals simp

@[simp] theorem State.takeHeader_kept (s : State) :
    s.takeHeader.shared = s.shared ∧ s.takeHeader.pending = s.pending := by
  unfold State.takeHeader
  dsimp only
  repeat' split
  all_goals simp

@[simp] theorem State.fetchOver_kept (s : State) (f : Fetch) :
    (s.fetchOver f).shared = s.shared ∧ (s.fetchOver f).pending = s.pending := by
  unfold State.fetchOver
  repeat' split
  all_goals simp

@[simp] theorem State.takeBurst_kept (s : State) :
    s.takeBurst.shared = s.shared ∧ s.takeBurst.pending = s.pending := by
  unfold State.takeBurst
  dsimp only
  repeat' split
  all_goals simp

/-! ### Machine/WriteBackEvents.lean -/

@[simp] theorem State.setWbPhase_kept (s : State) (phase : WriteBackPhase) :
    (s.setWbPhase phase).shared = s.shared ∧ (s.setWbPhase phase).pending = s.pending := by
  unfold State.setWbPhase
  dsimp only
  simp

@[simp] theorem State.beginWriteBack_kept (s : State) :
    s.beginWriteBack.shared = s.shared ∧ s.beginWriteBack.pending = s.pending := by
  unfold State.beginWriteBack
  repeat' split
  all_goals simp

@[simp] theorem State.resumeVisit_kept (s : State) (index : Nat) :
    (s.resumeVisit index).shared = s.shared ∧ (s.resumeVisit index).pending = s.pending := by
  unfold State.resumeVisit
  repeat' split
  all_goals simp

@[simp] theorem State.refillAfterRemoval_kept (s : State) (c : CellId) :
    (s.refillAfterRemoval c).shared = s.shared ∧ (s.refillAfterRemoval c).pending = s.pending := by
  unfold State.refillAfterRemoval
  repeat' split
  all_goals simp

@[simp] theorem State.rereadAfterRemoval_kept (s : State) (r : DueRecord) :
    (s.rereadAfterRemoval r).shared = s.shared ∧ (s.rereadAfterRemoval r).pending = s.pending := by
  unfold State.rereadAfterRemoval
  repeat' split
  all_goals simp

@[simp] theorem State.removeRecord_kept (s : State) (c : CellId) (r : DueRecord) :
    (s.removeRecord c r).shared = s.shared ∧ (s.removeRecord c r).pending = s.pending := by
  unfold State.removeRecord
  dsimp only
  simp

@[simp] theorem State.partHalfDone_kept (s : State) :
    s.partHalfDone.shared = s.shared ∧ s.partHalfDone.pending = s.pending := by
  unfold State.partHalfDone
  repeat' split
  all_goals simp

@[simp] theorem State.markDone_kept (s : State) :
    s.markDone.shared = s.shared ∧ s.markDone.pending = s.pending := by
  unfold State.markDone
  repeat' split
  all_goals simp

@[simp] theorem State.nightWritten_kept (s : State) :
    s.nightWritten.shared = s.shared ∧ s.nightWritten.pending = s.pending := by
  unfold State.nightWritten
  repeat' split
  all_goals simp

@[simp] theorem State.nightDone_kept (s : State) :
    s.nightDone.shared = s.shared ∧ s.nightDone.pending = s.pending := by
  unfold State.nightDone
  repeat' split
  all_goals simp

@[simp] theorem State.refuseLoad_kept (s : State) (before : ControllerState) :
    (s.refuseLoad before).shared = s.shared ∧ (s.refuseLoad before).pending = s.pending := by
  unfold State.refuseLoad
  simp

@[simp] theorem State.probeForLoad_kept (s : State) (before : ControllerState) (aside : Settings) (clamps : Nat)
    (saved : PerCell SavedPort) : (s.probeForLoad before aside clamps saved).shared = s.shared ∧
      (s.probeForLoad before aside clamps saved).pending = s.pending := by
  unfold State.probeForLoad
  dsimp only
  simp [forCells_eq]

@[simp] theorem State.anchorRead_kept (s : State) :
    s.anchorRead.shared = s.shared ∧ s.anchorRead.pending = s.pending := by
  unfold State.anchorRead
  repeat' split
  all_goals simp

/-! ### Machine/BusEvents.lean -/

@[simp] theorem State.deliverEntry_kept (s : State) (words : List Word) :
    (s.deliverEntry words).shared = s.shared ∧ (s.deliverEntry words).pending = s.pending := by
  unfold State.deliverEntry
  dsimp only
  simp

@[simp] theorem State.deliverWriteBack_kept (s : State) :
    s.deliverWriteBack.shared = s.shared ∧ s.deliverWriteBack.pending = s.pending := by
  unfold State.deliverWriteBack
  simp

@[simp] theorem State.deliverFetch_kept (s : State) (words : List Word) :
    (s.deliverFetch words).shared = s.shared ∧ (s.deliverFetch words).pending = s.pending := by
  unfold State.deliverFetch
  dsimp only
  repeat' split
  all_goals simp

@[simp] theorem State.deliverAnchor_kept (s : State) (words : List Word) :
    (s.deliverAnchor words).shared = s.shared ∧ (s.deliverAnchor words).pending = s.pending := by
  unfold State.deliverAnchor
  dsimp only
  repeat' split
  all_goals simp

@[simp] theorem State.deliver_kept (s : State) (r : Requester) (words : List Word) :
    (s.deliver r words).shared = s.shared ∧ (s.deliver r words).pending = s.pending := by
  unfold State.deliver
  repeat' split
  all_goals simp

@[simp] theorem State.entryFailed_kept (s : State) :
    s.entryFailed.shared = s.shared ∧ s.entryFailed.pending = s.pending := by
  unfold State.entryFailed
  dsimp only
  repeat' split
  all_goals simp

@[simp] theorem State.fetchFailed_kept (s : State) :
    s.fetchFailed.shared = s.shared ∧ s.fetchFailed.pending = s.pending := by
  unfold State.fetchFailed
  repeat' split
  all_goals simp

@[simp] theorem State.anchorFailed_kept (s : State) :
    s.anchorFailed.shared = s.shared ∧ s.anchorFailed.pending = s.pending := by
  unfold State.anchorFailed
  repeat' split
  all_goals simp

@[simp] theorem State.failed_kept (s : State) (r : Requester) :
    (s.failed r).shared = s.shared ∧ (s.failed r).pending = s.pending := by
  unfold State.failed
  repeat' split
  all_goals simp

end Sys2Proof.Machine
end

