-- ==== Sys2Proof/Laws/Memory.lean ====
section
/-! SUPPORT. Shared memory as the part writes it: every write keeps the canonical form, a read after a write to the same byte
gives the byte written, and every other byte reads as before. -/

namespace Sys2Proof.Machine

/-- The canonical form as a proposition. -/
theorem Memory.wf_iff (m : Memory) : Memory.wf m = true ↔ m.Pairwise fun p q => p.1 < q.1 := by
  simp [Memory.wf]

/-- What writeByte leaves at the other addresses of the list. -/
theorem writeByte_keys (m : Memory) (a : Nat) (b : Byte) :
    ∀ p ∈ writeByte m a b, p.1 = a ∨ ∃ q ∈ m, q.1 = p.1 := by
  induction m with
  | nil => intro p hp; simp [writeByte] at hp; exact .inl (by rw [hp])
  | cons c rest ih =>
    obtain ⟨x, y⟩ := c
    intro p hp
    simp only [writeByte] at hp
    split at hp
    · rcases List.mem_cons.1 hp with h | h
      · exact .inl (by rw [h])
      · exact .inr ⟨p, h, rfl⟩
    · split at hp
      · rcases List.mem_cons.1 hp with h | h
        · exact .inl (by rw [h])
        · exact .inr ⟨p, List.mem_cons_of_mem _ h, rfl⟩
      · rcases List.mem_cons.1 hp with h | h
        · exact .inr ⟨(x, y), List.mem_cons_self, by rw [h]⟩
        · rcases ih p h with h | ⟨q, hq, e⟩
          · exact .inl h
          · exact .inr ⟨q, List.mem_cons_of_mem _ hq, e⟩

/-- A byte written keeps the canonical form. -/
theorem writeByte_wf (m : Memory) (a : Nat) (b : Byte) (h : Memory.wf m = true) :
    Memory.wf (writeByte m a b) = true := by
  rw [Memory.wf_iff] at h ⊢
  induction m with
  | nil => simp [writeByte]
  | cons c rest ih =>
    obtain ⟨x, y⟩ := c
    obtain ⟨hx, hr⟩ := List.pairwise_cons.1 h
    simp only [writeByte]
    split
    · next hlt =>
      refine List.pairwise_cons.2 ⟨?_, h⟩
      intro q hq
      rcases List.mem_cons.1 hq with e | e
      · rw [e]; exact hlt
      · exact Nat.lt_trans hlt (hx q e)
    · split
      · next he => subst he; exact List.pairwise_cons.2 ⟨hx, hr⟩
      · next hlt hne =>
        refine List.pairwise_cons.2 ⟨?_, ih hr⟩
        intro q hq
        rcases writeByte_keys rest a b q hq with e | ⟨p, hp, e⟩
        · rw [e]; exact Nat.lt_of_le_of_ne (Nat.le_of_not_lt hlt) (fun k => hne k.symm)
        · rw [← e]; exact hx p hp

/-- A read of a byte just written gives the byte written. -/
theorem readByte_writeByte_same (m : Memory) (a : Nat) (b : Byte) : readByte (writeByte m a b) a = some b := by
  induction m with
  | nil => simp [writeByte, readByte]
  | cons c rest ih =>
    obtain ⟨x, y⟩ := c
    simp only [writeByte]
    split
    · simp [readByte]
    · split
      · simp [readByte]
      · next hne =>
        have hx : (x == a) = false := by simp; exact fun e => hne e.symm
        simpa [readByte, hx] using ih

/-- A write leaves every other byte as it was. -/
theorem readByte_writeByte_other (m : Memory) (a c : Nat) (b : Byte) (h : c ≠ a) :
    readByte (writeByte m a b) c = readByte m c := by
  have ha : (a == c) = false := by simp; exact fun e => h e.symm
  induction m with
  | nil => simp [writeByte, readByte, ha]
  | cons p rest ih =>
    obtain ⟨x, y⟩ := p
    simp only [writeByte]
    split
    · simp [readByte, ha]
    · split
      · next he => subst he; simp [readByte, ha]
      · by_cases hc : x = c
        · simp [readByte, hc]
        · have hx : (x == c) = false := by simp [hc]
          simpa [readByte, hx] using ih

/-- A word written keeps the canonical form. -/
theorem writeWord_wf (m : Memory) (a w : Word) (h : Memory.wf m = true) : Memory.wf (writeWord m a w) = true := by
  simp only [writeWord, List.foldl]
  exact writeByte_wf _ _ _ (writeByte_wf _ _ _ (writeByte_wf _ _ _ (writeByte_wf _ _ _ h)))

/-- A word written leaves every byte outside its four as it was. -/
theorem readByte_writeWord_other (m : Memory) (a w : Word) (c : Nat) (h : c < a.toNat ∨ a.toNat + 4 ≤ c) :
    readByte (writeWord m a w) c = readByte m c := by
  simp only [writeWord, List.foldl]
  rw [readByte_writeByte_other, readByte_writeByte_other, readByte_writeByte_other, readByte_writeByte_other] <;>
    omega

/-- A read of a word just written gives its bytes. -/
theorem readByte_writeWord_same (m : Memory) (a w : Word) (i : Nat) (h : i < 4) :
    readByte (writeWord m a w) (a.toNat + i) = some (wordByte w i) := by
  simp only [writeWord, List.foldl]
  have h' : i = 0 ∨ i = 1 ∨ i = 2 ∨ i = 3 := by omega
  rcases h' with rfl | rfl | rfl | rfl
  · rw [readByte_writeByte_other _ _ _ _ (by omega), readByte_writeByte_other _ _ _ _ (by omega),
      readByte_writeByte_other _ _ _ _ (by omega), readByte_writeByte_same]
  · rw [readByte_writeByte_other _ _ _ _ (by omega), readByte_writeByte_other _ _ _ _ (by omega),
      readByte_writeByte_same]
  · rw [readByte_writeByte_other _ _ _ _ (by omega), readByte_writeByte_same]
  · rw [readByte_writeByte_same]

end Sys2Proof.Machine
end

