-- ==== Sys2Proof/Laws/Results.lean ====
section
/-! SUPPORT. One spec lemma for each shared operation behind item results, flips and the reports of a beacon: it does what the
relation of Safety.lean between two states says. -/

namespace Sys2Proof.Machine

/-! ### Retirements and requests -/

/-- Records that join the write-back list; STOP counts those that join while it drains (R63, R65). -/
theorem State.enqueueWriteBack_eq (s : State) (l : List Nat) :
    s.enqueueWriteBack l =
      { s with wb := { s.wb with list := s.wb.list ++ l },
               drained := if s.stopping then s.drained + l.length else s.drained } := by
  unfold State.enqueueWriteBack
  split <;> rfl

theorem State.nightOn_not_stopping {s : State} (h : s.nightOn = true) : s.stopping = false := by
  simp only [State.nightOn, Bool.or_eq_true, decide_eq_true_eq] at h
  rcases h with h | h <;> simp [State.stopping, h]

theorem State.retireRecord_eq (s : State) (c : CellId) (index : Nat) (o : EntryState) (f : DueRecord → DueRecord) :
    s.retireRecord c index o f =
      { s with due := cellPut s.due c ((s.dueAt c).map fun r => if r.index = index then (f r).retire o else r),
               wb := { s.wb with list := s.wb.list ++ [index] },
               drained := if s.stopping then s.drained + 1 else s.drained } :=
  State.enqueueWriteBack_eq _ _

theorem State.retireIn_eq (p : DueRecord → Bool) (o : EntryState) (s : State) (c : CellId) :
    State.retireIn p o s c =
      { s with due := cellPut s.due c ((s.dueAt c).map fun r => if p r then r.retire o else r),
               wb := { s.wb with list := s.wb.list ++ ((s.dueAt c).filter p).map (·.index) },
               drained := if s.stopping then s.drained + (((s.dueAt c).filter p).map (·.index)).length
                 else s.drained } :=
  State.enqueueWriteBack_eq _ _

/-- The records that satisfy a test retire into the tail of the write-back list (R63). -/
theorem State.retireWhere_retires (s : State) (p : DueRecord → Bool) (o : EntryState) :
    s.retiresInto (s.retireWhere p o) p o := by
  unfold State.retireWhere
  simp only [forCells_eq, State.retireIn_eq]
  refine ⟨fun c => ?_, ?_⟩
  · rcases CellId.cases c with rfl | rfl | rfl | rfl <;> simp [State.dueAt]
  · simp [State.inListOrder, State.dueAt, allCells]

theorem State.retireWhere_drained (s : State) (p : DueRecord → Bool) (o : EntryState) (h : s.stopping = false) :
    (s.retireWhere p o).drained = s.drained := by
  have h' : decide (s.cmd.controller = .stopping) = false := h
  unfold State.retireWhere
  simp only [forCells_eq, State.retireIn_eq, State.stopping, h', Bool.false_eq_true, if_false]

theorem State.rescanRetirement_retires (s : State) :
    s.retiresInto s.rescanRetirement DueRecord.isWaiting .queued ∧
      (∀ c : CellId, cellAt s.rescanRetirement.deferred c = false) ∧ s.rescanRetirement.sweep = s.sweep ∧
      (s.stopping = false → s.rescanRetirement.drained = s.drained) := by
  unfold State.rescanRetirement
  obtain ⟨d, w, n, e⟩ := (s.clearDeferred).retireWhere_frame DueRecord.isWaiting .queued
  refine ⟨(s.clearDeferred).retireWhere_retires _ _, fun c => ?_, ?_, (s.clearDeferred).retireWhere_drained _ _⟩
  · rw [e]
    simp [State.clearDeferred, cellAt]
  · rw [e]
    rfl

/-- A rescan request is taken by what is live (R31, R36, R37). -/
theorem State.rescanRequest_takes (s : State) (h : s.nightOn = true) : s.takesRescan s.rescanRequest := by
  have begun : ∀ x : Sweep, s.retiresInto (s.setSweep x).rescanRetirement DueRecord.isWaiting .queued ∧
      (∀ c : CellId, cellAt (s.setSweep x).rescanRetirement.deferred c = false) ∧
      (s.setSweep x).rescanRetirement.sweep = x := fun x =>
    ⟨(s.setSweep x).rescanRetirement_retires.1, (s.setSweep x).rescanRetirement_retires.2.1,
      (s.setSweep x).rescanRetirement_retires.2.2.1⟩
  unfold State.takesRescan State.rescanRequest
  rcases hr : s.sweep.running with _ | ⟨k, a, b⟩ <;> rcases hs : s.sweep.suspended with _ | ⟨k', a', b'⟩ <;>
    simp only [h, Sweep.live, hr, hs, Sweep.anyLive] <;> (try cases k) <;> (try cases k') <;>
    simp [begun, State.fullCircle, flagBit, State.newPass]

theorem State.rescanRequest_drained (s : State) (h : s.nightOn = true) : s.rescanRequest.drained = s.drained := by
  have key : ∀ x : Sweep, (s.setSweep x).rescanRetirement.drained = s.drained :=
    fun x => (s.setSweep x).rescanRetirement_retires.2.2.2 (State.nightOn_not_stopping h)
  unfold State.rescanRequest
  repeat' split
  all_goals first | rfl | exact key _

/-- A changeover request is taken by what is live (R30). -/
theorem State.changeoverRequest_takes (s : State) (g : GroupId) : s.takesChangeover (s.changeoverRequest g) g := by
  unfold State.takesChangeover State.changeoverRequest
  refine ⟨fun h => ?_, fun h l => ?_, fun h l => ?_⟩
  · simp [h]
  · have e : s.fullCircle .changeover = fun p => if p.kind = .changeover then
        { p with remaining := s.settings.entryCount + if s.sweep.visiting .changeover then 1 else 0 } else p := rfl
    simp [h, l, e, State.setSweep]
  · simp [h, l, State.newPass]

/-- An index that joins the re-read list is held once, and a full list asks for a rescan (R27). -/
theorem State.joinReread_handsOn (s : State) (index : Nat) : s.handsOn (s.joinReread index) index := by
  unfold State.handsOn State.joinReread
  refine ⟨fun h => ?_, fun h n => ?_, fun h n => ?_⟩
  · rw [if_neg (by simpa [Config.rereadCapacity] using h)]
    split <;> rfl
  · rw [if_pos (by simpa [Config.rereadCapacity] using h)]
    simp [State.rescanRequest, n]
  · rw [if_pos (by simpa [Config.rereadCapacity] using h)]
    obtain ⟨x, d, w, k, f, e⟩ := s.rescanRequest_frame
    refine ⟨s.rescanRequest_takes n, ?_⟩
    have k' := s.rescanRequest_drained n
    rw [e] at k' ⊢
    simp only at k'
    rw [k']

/-! ### Item results -/

/-- Steps 6 and 7 of R52 on a record judged by steps 1 to 5 (R52, R63, R65). -/
theorem State.settleResult_settles (s : State) (c : CellId) (after : DueRecord) :
    s.settlesResult (s.settleResult c after) c after := by
  unfold State.settlesResult State.settleResult
  refine ⟨fun h => ?_, fun h o e => ?_, fun h e => ⟨fun p => ?_, fun p => ?_⟩⟩
  · simp only [h, if_true, State.retireRecord_eq]
    rfl
  · simp only [h, e, State.retireRecord_eq, Bool.false_eq_true, if_false]
    rfl
  · simp [h, e, p]
    rfl
  · simp [h, e, p]
    exact State.joinReread_handsOn _ _

/-! ### Dropped items and ended plans -/

/-- The fetch of an item is in progress: it is abandoned, and its words have no requester any more (R92, R100). -/
theorem State.abandonFetch_current (s : State) (c : CellId) (b : BeaconNo) (place : Nat) (f : Fetch)
    (h : s.fetch.current = some f) (hi : f.elem.isItem c b place = true) :
    s.abandonFetch c b place =
      { s with fetch := { list := s.fetch.list.filter fun x => !x.isItem c b place, current := none },
               bus := { s.bus with
                 fetchReq := none,
                 current := s.bus.current.map fun tr =>
                   if tr.requester = .fetch then { tr with orphan := true } else tr } } := by
  simp only [State.abandonFetch, h, hi, if_true]
  rfl

/-- The fetch of an item is not in progress: its element leaves the list (R100). -/
theorem State.abandonFetch_listed (s : State) (c : CellId) (b : BeaconNo) (place : Nat)
    (h : ∀ f, s.fetch.current = some f → f.elem.isItem c b place = false) :
    s.abandonFetch c b place =
      { s with fetch := { s.fetch with list := s.fetch.list.filter fun x => !x.isItem c b place } } := by
  unfold State.abandonFetch
  split
  · rfl
  · next f e =>
    simp only [h f e, Bool.false_eq_true, if_false]
    rfl

theorem FetchElem.isItem_iff (x : FetchElem) (c : CellId) (b : BeaconNo) (place : Nat) :
    x.isItem c b place = decide (x.cell = c ∧ x.beacon = b ∧ x.place = place) := by
  simp [FetchElem.isItem, Bool.decide_and, Bool.and_assoc]

/-- An item of a plan that is dropped (R86, R92, R100, R101). -/
theorem State.dropItem_drops (s : State) (c : CellId) (b : BeaconNo) (place : Nat) (i : PlanItem)
    (h : s.itemAt c b place = some i) : s.dropsItem (s.dropItem c b place) c b place i := by
  have filters : (fun x : FetchElem => !x.isItem c b place) =
      fun x => !decide (x.cell = c ∧ x.beacon = b ∧ x.place = place) := funext fun x => by rw [x.isItem_iff]
  unfold State.dropsItem State.dropItem
  rw [h]
  by_cases hc : ∃ f, s.fetch.current = some f ∧ f.elem.isItem c b place = true
  · obtain ⟨f, e, hi⟩ := hc
    simp only [s.abandonFetch_current c b place f e hi, filters]
    refine ⟨rfl, fun f' _ _ => ⟨rfl, rfl⟩, fun n => ?_⟩
    rw [f.elem.isItem_iff, decide_eq_true_eq] at hi
    exact absurd hi (n f e)
  · have hn : ∀ f, s.fetch.current = some f → f.elem.isItem c b place = false := fun f e => by
      by_contra hi
      exact hc ⟨f, e, by simpa using hi⟩
    simp only [s.abandonFetch_listed c b place hn, filters]
    refine ⟨rfl, fun f e i => ?_, fun _ => ⟨rfl, rfl⟩⟩
    have hf := hn f e
    rw [f.elem.isItem_iff, decide_eq_false_iff_not] at hf
    exact absurd i hf

/-- An item that ends as NOT_SENT (R52, R60, R86). -/
theorem State.notSent_ends (s : State) (c : CellId) (b : BeaconNo) (place : Nat) :
    s.endsNotSent (s.notSent c b place) c b place := by
  unfold State.endsNotSent State.notSent
  refine ⟨fun i h l => ⟨s.dropItem c b place, s.dropItem_drops c b place i h, fun r e => ⟨fun w => ?_, fun w => ?_⟩,
    fun e => ?_⟩, fun h => ?_⟩
  all_goals
    obtain ⟨q, f, x, y, k⟩ := s.dropItem_frame c b place
  · have e' : (s.dropItem c b place).recordIn c i.index = some r := by
      rw [k]
      exact e
    have same : (s.dropItem c b place).settings = s.settings ∧
        (s.dropItem c b place).groupDone r.group = s.groupDone r.group := by
      rw [k]
      exact ⟨rfl, rfl⟩
    simp only [h, l, State.itemResult, e', w, if_true, same.1, same.2]
    exact State.settleResult_settles _ _ _
  · have e' : (s.dropItem c b place).recordIn c i.index = some r := by
      rw [k]
      exact e
    simp only [h, l, if_true, State.itemResult, e']
    rcases w with w | w <;> simp [w]
  · have e' : (s.dropItem c b place).recordIn c i.index = none := by
      rw [k]
      exact e
    simp only [h, l, if_true, State.itemResult, e']
  · split
    · rfl
    · next i e => simp [h i e]

theorem State.endsItems_fold (c : CellId) (b : BeaconNo) (places : List Nat) (s : State) :
    State.endsItems c b places s (places.foldl (fun t place => t.notSent c b place) s) := by
  induction places generalizing s with
  | nil => rfl
  | cons place rest ih => exact ⟨_, s.notSent_ends c b place, ih _⟩

/-- Every live item of a plan that ends as NOT_SENT (R86, R109, R123, R125). -/
theorem State.notSentAll_ends (s : State) (c : CellId) (plan : Plan) : s.endsPlan (s.notSentAll c plan) c plan :=
  State.endsItems_fold c plan.beacon _ s

/-! ### Flips and the reports of a beacon -/

/-- A flip's changes to the records do not depend on the flip unit or the attention register. -/
theorem State.flipRecords_after (s : State) (g : BitVec 4) (k : FlipUnit) (a : BitVec 9) :
    ({ s with flip := k, cmd := { s.cmd with attn := a } } : State).flipRecords g =
      { s with flip := k, cmd := { s.cmd with attn := a }, due := (s.flipRecords g).due, wb := (s.flipRecords g).wb,
               drained := (s.flipRecords g).drained } := by
  unfold State.flipRecords
  by_cases h : s.settings.policy = .holdOld
  · simp only [h, if_true, State.retireWhere, forCells_eq, State.retireIn_eq]
    rfl
  · simp only [h, if_false]
    rfl

/-- The flip of one group (R134, R135). -/
theorem State.takeFlip_flips (b : BeaconNo) (s : State) (g : GroupId) :
    s.flipsGroup b (State.takeFlip b s g) g := by
  unfold State.flipsGroup State.takeFlip
  refine ⟨fun e a => ?_, fun e a => ?_, fun e => ?_⟩
  · rw [if_neg (by simp [e])]
    simp only [a]
    let u : State := { s with
      flip := { s.flip with groups := groupPut s.flip.groups g { s.groupRec g with state := .done } },
      cmd := { s.cmd with attn := s.cmd.attn ||| 16 }, due := (s.flipRecords (groupNumber g)).due,
      wb := (s.flipRecords (groupNumber g)).wb, drained := (s.flipRecords (groupNumber g)).drained }
    rw [show ((s.modGroup g fun q => { q with state := .done }).raise .flip).flipRecords (groupNumber g) = u from
      s.flipRecords_after (groupNumber g)
        { s.flip with groups := groupPut s.flip.groups g { s.groupRec g with state := .done } } (s.cmd.attn ||| 16)]
    refine ⟨?_, u.changeoverRequest_takes g⟩
    obtain ⟨x, k⟩ := u.changeoverRequest_frame g
    rw [k]
    rfl
  · rw [if_neg (by simp [e])]
    simp only [a]
    rfl
  · rcases e with e | e | e <;> simp [e]

theorem State.flipsGroups_fold (b : BeaconNo) (gs : List GroupId) (s : State) :
    State.flipsGroups b gs s (gs.foldl (State.takeFlip b) s) := by
  induction gs generalizing s with
  | nil => rfl
  | cons g rest ih => exact ⟨_, s.takeFlip_flips b g, ih _⟩

/-- A cell's report of a beacon, and the flip when it completes the four (R133, R134). -/
theorem State.reportBeacon_takes (s : State) (c : CellId) (b : BeaconNo) (sent : Bool) :
    s.takesReport (s.reportBeacon c b sent) c b sent := by
  unfold State.takesReport
  let groups := if sent then s.flip.groups else tableMap (GroupRecord.missed c b) s.flip.groups
  have gap : ∀ (g : GroupId) (n : BitVec 4), ({ s with flip := { groups := groups, reported := n } } : State).groupRec g =
      if sent = false ∧ ((s.groupRec g).state = .announced ∨ (s.groupRec g).state = .cancelling) ∧
          (b - (s.groupRec g).announce).toNat < 2 ^ 31 ∧ b ≠ (s.groupRec g).announce ∧
          ((s.groupRec g).flipBeacon - b).toNat < 2 ^ 31 then
        { s.groupRec g with gap := (s.groupRec g).gap ||| BitVec.ofNat 4 (2 ^ c.val) }
      else s.groupRec g := by
    intro g n
    have e : ∀ v : PerGroup GroupRecord,
        ({ s with flip := { groups := v, reported := n } } : State).groupRec g = groupAt v g := fun _ => rfl
    have d : s.groupRec g = groupAt s.flip.groups g := rfl
    rw [e]
    cases sent
    · simp only [groups, Bool.false_eq_true, if_false, groupAt_tableMap, ← d, true_and]
      have i : ((s.groupRec g).state.pending && afterBeacon b (s.groupRec g).announce &&
          atOrAfter (s.groupRec g).flipBeacon b) = true ↔
          ((s.groupRec g).state = .announced ∨ (s.groupRec g).state = .cancelling) ∧
          (b - (s.groupRec g).announce).toNat < 2 ^ 31 ∧ b ≠ (s.groupRec g).announce ∧
          ((s.groupRec g).flipBeacon - b).toNat < 2 ^ 31 := by
        cases hs : (s.groupRec g).state <;> simp [GroupState.pending, afterBeacon, atOrAfter, and_assoc]
      unfold GroupRecord.missed
      by_cases p : ((s.groupRec g).state = .announced ∨ (s.groupRec g).state = .cancelling) ∧
          (b - (s.groupRec g).announce).toNat < 2 ^ 31 ∧ b ≠ (s.groupRec g).announce ∧
          ((s.groupRec g).flipBeacon - b).toNat < 2 ^ 31
      · rw [if_pos (i.mpr p), if_pos p]
        rfl
      · rw [if_neg (fun q => p (i.mp q)), if_neg p]
    · simp [groups, d]
  by_cases hb : b = s.timer.now
  · refine ⟨s.setFlip { groups := groups, reported := s.flip.reported ||| cellBit c }, rfl, fun g => gap g _,
      fun h => absurd hb h, fun _ => ⟨rfl, fun h => ?_, fun h => ?_⟩⟩
    · exact (if_pos hb).trans (if_neg h)
    · rw [show s.reportBeacon c b sent =
        (s.setFlip { groups := groups, reported := s.flip.reported ||| cellBit c }).takeFlips b from
        (if_pos hb).trans (if_pos h)]
      exact State.flipsGroups_fold b allGroups _
  · exact ⟨s.setFlip { s.flip with groups := groups }, rfl, fun g => gap g _,
      fun _ => ⟨rfl, if_neg hb⟩, fun h => absurd h hb⟩

/-- A cell that misses a beacon (R86, R107, R109). -/
theorem State.beaconMissed_misses (s : State) (c : CellId) (b : BeaconNo) :
    State.missesBeacon b s (s.beaconMissed c b) c := by
  refine ⟨_, s.reportBeacon_takes c b false, fun h => ?_, fun plan h => ⟨_, State.notSentAll_ends _ c plan, ?_⟩⟩
  · simp only [State.beaconMissed, h]
  · simp only [State.beaconMissed, h]
    rfl

theorem State.missBeacons_fold (b : BeaconNo) (cs : List CellId) (s : State) :
    State.missBeacons b cs s (cs.foldl (fun t c => t.beaconMissed c b) s) := by
  induction cs generalizing s with
  | nil => rfl
  | cons c rest ih => exact ⟨_, s.beaconMissed_misses c b, ih _⟩

/-- A beacon taken up that ends in a link fault is lost; while STOPPING a pending CELL_OFF then takes effect (R107, R109, R122). -/
theorem State.beaconFault_loses (s : State) (c : CellId) (b : BeaconNo) (plan : Plan) (h : (s.seqAt c).standing = some plan) :
    ∃ u : State, s.losesBeacon u c b plan ∧ s.beaconFault c b = if u.stopping then u.takeOffPending c else u := by
  refine ⟨_, ⟨_, _, s.reportBeacon_takes c b false, State.notSentAll_ends _ c plan, rfl⟩, ?_⟩
  simp only [State.beaconFault, h]
  rfl

end Sys2Proof.Machine
end

