-- ==== Sys2Proof/WellFormed.lean ====
section
/-! DEFINITION. Which terms of Instr stand for a step of the part: the operands that the table's row and the formats of chapter
11 admit. exec is total, so an ill-formed term has a meaning too; it is that of the row it really belongs to. -/

namespace Sys2Proof

/-- A word that names a command is not a BAD_COMMAND (R175). -/
def badCommandFits (code : BitVec 8) : Bool := !codeNamesCommand code

/-- A write to CMD, NOTICE or ATTN is a row of its own (R174). -/
def otherOffsetFits (offset : Word) : Bool :=
  decide (offset ≠ 0x04) && decide (offset ≠ 0x08) && decide (offset ≠ 0x14)

/-- A frame pull takes the length word and just the words that hold a frame of that length (R191). -/
def pullWordsFit (lengthWord : Word) (words : List Word) : Bool :=
  decide (words.length = ((lengthWord.extractLsb' 0 8).toNat + 3) / 4)

/-- The well-formed commands. -/
def Instr.wellFormed : Instr → Bool
  | .badCommand code _ => badCommandFits code
  | .otherRegisterWrite offset _ => otherOffsetFits offset
  | .framePullDone _ lengthWord words => pullWordsFit lengthWord words
  | _ => true

end Sys2Proof
end

