-- ==== Sys2Proof/Tests/Slice0.lean ====
section
/-! SUPPORT. Tests: the well-formedness smoke, the manual's worked figures, a few single steps, and for each statement with
hypotheses a witness theorem whose concrete states and operands meet them. -/

namespace Sys2Proof.Tests

open Sys2Proof.Machine

set_option Elab.async false

/-! ### Small states -/

/-- Entry count 40; P 1,000, lead 100, W 840, L 2; T 12, A 4; HOLD_OLD, parity on; cell 0 enabled at 100 kbit/s with wake
ceiling 4, so that K is 4. -/
def anchor : List Word :=
  [0x7140A5C3, 40, 0x10000, 0x20000, 0x8000, 0x30000, 0x31000, 0x32000, 0x006403E8, 0x00020348, 0x040C1234, 0x23,
    0x0745, 0, 0, 0]

/-- The same block with no cell enabled. -/
def anchorOff : List Word := anchor.set 12 0x0744

def settings : Settings := anchorSettings anchor

/-- RUNNING at beacon 52,000 with cell 0 ACTIVE. -/
def night : State :=
  { State.reset with
    settings := settings, inForce := true, cmd := { State.reset.cmd with controller := .running },
    timer := { now := 52000, schedule := some { nextBeacon := 1000, nextPlan := some 900 } },
    port := cellPut State.reset.port 0 { radioPortReset with state := .active, status := .present } }

def inState (c : ControllerState) : State :=
  { night with cmd := { night.cmd with controller := c }, timer := { night.timer with schedule := none } }

def loaded : State := inState .loaded

def withPort (s : State) (f : RadioPort → RadioPort) : State := s.modPort 0 f

def withSeq (s : State) (f : Sequencer → Sequencer) : State := s.modSeq 0 f

def withGroup (s : State) (r : GroupRecord) : State :=
  { s with flip := { s.flip with groups := groupPut s.flip.groups 2 r } }

def announced (b : BeaconNo) : GroupRecord :=
  { state := .announced, flipBeacon := b, announce := 52000, cancel := 0, gap := 0 }

/-- Entry 5: label 0x0012341 of cell 0, k 2, p 1, group 3, version 0x0300 of 200 bytes at the pool's start, never served. -/
def entryWords : List Word := [0x0012341, 0x00030102, 0x00C80300, 0x00020000, 0, 0, 0, 0]

def entry : Entry := decodeEntry entryWords

def record : DueRecord := newRecord settings 5 entry .deliver .stage 101

def planned : DueRecord := { record with state := .planned, needed := [4] }

def item : PlanItem :=
  { index := 5, kind := .deliver, mode := .stage, label := 0x0012341, target := 0x0300, needed := [4], cost := 7520,
    offset := 0, buffers := [0], length := 200, group := 3, status := .ready }

def plan : Plan := { beacon := 52000, cell := 0, items := [item], filters := [] }

/-- The window of the plan, before its item. -/
def window : State :=
  { withSeq night fun q => { q with standing := some plan, position := .before } with
    due := cellPut night.due 0 [planned],
    store := cellPut night.store 0
      [{ number := 0, index := 5, segment := 4, filled := true, data := List.replicate 48 0 }] }

/-- The plan's item is under way in its reply slot. -/
def inReply : State :=
  { withSeq window fun q => { q with position := .inReply, upNext := 1 } with
    due := cellPut night.due 0 [{ planned with state := .inAir }] }

def sending (k : LinkCommand) (purpose : Purpose) (second : Bool) : State :=
  withPort window fun p => { p with exchange := some (.command k purpose second false) }

def probing (reason : ProbeReason) (tries : List DataIn) (k : LinkCommand) (s : State) : State :=
  withPort s fun p => { p with
    state := .probing, exchange := some (.command k .probe false false),
    probe := some { reason := reason, channel := 7, rate := .k100, tries := tries, tuning := false } }

/-- The port holds the bus in a transfer. -/
def holding (s : State) (r : Requester) (a : Action) (next : Nat) : State :=
  { s with bus := { s.bus with
    bus := .holding, current := some { requester := r, action := a, orphan := false, checked := true },
    nextWord := next } }

def inHand (source : HandSource) (visit : Visit) (phase : HandPhase) : State :=
  { night with
    notices := if source = .notice then [{ first := 5, span := 1, progress := 5 }] else [],
    sweep := { night.sweep with
      hand := some { index := 5, source := source, visit := visit, groups := [], phase := phase },
      running := match source with
        | .pass k => some { kind := k, cursor := 5, remaining := 3 }
        | _ => none,
      groupSet := if visit = .changeover then [2] else [] } }

def passOf (k : PassKind) : Option Pass := some { kind := k, cursor := 5, remaining := 3 }

def sweeping (running suspended : Option Pass) : State :=
  { night with sweep := { night.sweep with running := running, suspended := suspended } }

/-- The state a step answers. -/
def after (o : Host.Outcome State Fault Refusal) : State :=
  match o with
  | .next t => t
  | .fault r => nomatch r
  | .refused _ => State.reset

/-! ### Well-formedness: each check refuses an ill-formed term -/

theorem test_bad_command_with_the_code_of_load : (Instr.badCommand 0x01 0).wellFormed = false := by decide

theorem test_other_write_to_cmd_notice_attn :
    (Instr.otherRegisterWrite 0x04 1).wellFormed = false ∧ (Instr.otherRegisterWrite 0x08 1).wellFormed = false ∧
      (Instr.otherRegisterWrite 0x14 1).wellFormed = false := by decide

theorem test_pull_of_five_bytes_in_one_word : (Instr.framePullDone 0 5 [0]).wellFormed = false := by decide

theorem test_well_formed :
    (Instr.badCommand 0x00 0).wellFormed = true ∧ (Instr.badCommand 0x0E 0).wellFormed = true ∧
      (Instr.otherRegisterWrite 0x18 1).wellFormed = true ∧
      (Instr.framePullDone 0 5 [0, 0]).wellFormed = true := by decide

/-! ### Formats (chapter 11) -/

/-- R193: the CRC over the nine ASCII digits. -/
theorem test_crc_of_the_digits :
    crc16 [0x31, 0x32, 0x33, 0x34, 0x35, 0x36, 0x37, 0x38, 0x39] = 0x29B1 := by decide +kernel

/-- 11.3: FLIP_AT is code 0x09 with the group in bits 31:28 and delta in bits 27:8. -/
theorem test_command_words :
    decodeCommand 0x30000A09 = .flipAt 3 10 ∧ decodeCommand 0x5000000A = .cancelFlip 5 ∧
      decodeCommand 0x0000020B = .cellOn 2 ∧ decodeCommand 0x000001FF = .bad 0xFF 1 ∧
      encodeCommand (.flipAt 3 10) = 0x30000A09 := by decide +kernel

/-- 4.1, the table of timing clamps, row by row: P, lead_eff, W_eff. -/
theorem test_timing_clamps :
    ([(1000, 100, 900), (1234, 20, 1000), (180, 50, 200), (300, 200, 200), (250, 137, 400), (5000, 10, 45)].map
      fun x : Nat × Nat × Nat =>
        let p := effectivePeriod x.1
        let l := effectiveLead p x.2.1
        (p, l, effectiveWindow p l x.2.2)) =
    [(1000, 100, 840), (1200, 20, 900), (250, 50, 140), (300, 190, 50), (250, 137, 50), (4000, 20, 50)] := by
  decide +kernel

/-- 11.2: the host half of entry 5, bit by bit from its words. -/
theorem test_entry_fields :
    entry.host = { label := 0x0012341, cell := 0, hold := false, urgent := false, k := 2, phase := 1, group := 3,
                   requested := 0x0300, length := 200, reference := 0x20000 } := by decide +kernel

/-- 11.3: STATUS shows RUNNING in bits 2:0 and cell 0 ACTIVE in bits 18:16. -/
theorem test_status_word : night.readRegister 0x0C = 0x00020003 := by decide +kernel

/-! ### Commands -/

/-- R23: entry count 40, first index 30, span 50 is cut to entries 30 to 39; index 40 is discarded. -/
theorem test_notice_cut :
    (after (exec (.notice 30 49) night)).notices = [{ first := 30, span := 10, progress := 30 }] ∧
      (after (exec (.notice 40 0) night)).notices = [] := by decide +kernel

/-- 7.2, the worked example: FLIP_AT(3, 10) at 52,000 with K = 4 is CLAMPED to 16, and CANCEL_FLIP is then TOO_LATE. -/
theorem test_flip_at_is_clamped :
    let t := after (exec (.flipAt 3 10) night)
    let u := after (exec (.cancelFlip 3) t)
    t.cmd.resultCode = .clamped ∧ t.cmd.resultValue = 16 ∧ t.groupRec 2 = announced 52016 ∧
      u.cmd.resultCode = .tooLate ∧ u.cmd.resultValue = 16 ∧ u.groupRec 2 = announced 52016 := by decide +kernel

/-- 7.2: FLIP_AT(3, 40) at 52,000 gives B = 52,040; a cancel at 52,010 has notices in beacons 52,011 to 52,039. -/
theorem test_cancelled_flip_notices :
    let t := after (exec (.flipAt 3 40) night)
    let u := after (exec (.cancelFlip 3) { t with timer := { t.timer with now := 52010 } })
    t.cmd.resultCode = .ok ∧ t.cmd.resultValue = 40 ∧ t.flipNotices 52000 = [] ∧
      t.flipNotices 52001 = [{ group := 2, cancel := false, beacon := 52040 }] ∧
      u.flipNotices 52011 = [{ group := 2, cancel := true, beacon := 52040 }] ∧
      u.flipNotices 52039 = [{ group := 2, cancel := true, beacon := 52040 }] ∧ u.flipNotices 52040 = [] := by
  decide +kernel

/-- R175: CMD_LOST leaves the waiting command; R187: ATTN_CLEAR clears just the bits written as one. -/
theorem test_lost_command_and_clear :
    let s : State := { night with cmd := { night.cmd with inProgress := some (.cellOn 1), waiting := some .pause } }
    let t := after (exec (.cmdLost 0x02) s)
    t.cmd.waiting = some .pause ∧ t.cmd.attn = 2 ∧ (after (exec (.attnClear 2) t)).cmd.attn = 0 := by decide +kernel

/-! ### Planning (4.5, 4.6) -/

def eligible (n segments : Nat) : DueRecord :=
  { record with index := n, label := BitVec.ofNat 28 (n + 1), needed := List.range segments, k := 0, phase := 0 }

/-- 4.5, the worked selection at 100 kbit/s over 120 ms: items A to F and H, 19 segments; and their slot offsets. -/
theorem test_worked_selection :
    let l := [(0, 2), (1, 5), (2, 1), (3, 3), (4, 5), (5, 2), (6, 3), (7, 1)].map fun x : Nat × Nat => eligible x.1 x.2
    let r := selection { budget := 120000, buffers := 256, rate := .k100 } 52001 l
    r.map (·.index) = [0, 1, 2, 3, 4, 5, 7] ∧ (r.map DueRecord.claim).sum = 19 ∧
      (layItems .k100 0 (List.range 256) r).map (·.offset) =
        [0, 12960, 42240, 49760, 68160, 97440, 110400] := by decide +kernel

/-- 4.6, the worked cover of six IDs: four filters, spread 2. -/
theorem test_worked_cover :
    let g := coverGroups [0x0012340, 0x0012341, 0x0012347, 0x0012350, 0x00A0000, 0x00A0003]
    g.map IdGroup.filter =
        [{ value := 0x0012340, mask := 0xFFFFFFE }, { value := 0x0012347, mask := 0xFFFFFFF },
          { value := 0x0012350, mask := 0xFFFFFFF }, { value := 0x00A0000, mask := 0xFFFFFFC }] ∧
      spreadOf g 6 = 2 := by decide +kernel

/-- 4.6: with L = 0 the removals go on to four items; the wide group loses its fifth item. -/
theorem test_worked_removals :
    let named := fun (ids : List Nat) => ids.map fun v => { record with label := BitVec.ofNat 28 v }
    labelIds (withinSpread 0 6 (named [0x0012340, 0x0012347, 0x0012350, 0x00A0000, 0x00A0003, 0x0012341])) =
        [0x0012340, 0x0012347, 0x0012350, 0x00A0000] ∧
      labelIds (withinSpread 65535 5 (named [0x0000100, 0x0040000, 0x0080000, 0x00C0000, 0x0100000])) =
        [0x0000100, 0x0040000, 0x0080000, 0x00C0000] := by decide +kernel

/-! ### Content fetch (5.3) -/

/-- R94, the table of bursts for a payload of 200 bytes. -/
theorem test_payload_bursts :
    (payloadBursts 200 [0, 1, 2, 3, 4]).map (·.words) = [8, 8, 8, 8, 8, 8, 2] ∧
      (payloadBursts 200 [3, 4]).map (·.words) = [8, 6] ∧ (payloadBursts 200 [1, 3]).map (·.words) = [8, 4, 8, 4] ∧
      (payloadBursts 200 [4]).map (·.words) = [2] := by decide +kernel

/-! ### Item results (3.6) -/

/-- The worked example of backoff: NO_REPLY at beacon 1,000 with k = 4 and attempts 2 after it gives 1,032. -/
theorem test_backoff : eligibleAfter 1000 4 2 .noReply = 1032 ∧ eligibleAfter 1000 4 5 .noReply = 1064 := by
  decide +kernel

def partlyReply : Reply := { kind := .partly, staged := 0, shown := 0, battery := 9, missing := 0x18 }

/-- The worked example of one record to GAVE_UP: health, attempts, next eligible beacon. -/
theorem test_gave_up :
    let r0 : DueRecord := { record with health := 3 }
    let r1 := r0.afterResult settings false 101 (.good partlyReply)
    let r2 := r1.afterResult settings false 105 .noReply
    let r3 := r2.afterResult settings false 113 .damaged
    let r4 := r3.afterResult settings false 125 .lostAtPort
    let r5 := r4.afterResult settings false 129 .noReply
    (r1.health, r1.attempts, r1.needed, r1.eligible) = (2, 1, [3, 4], 105) ∧
      (r2.health, r2.attempts, r2.eligible) = (4, 2, 113) ∧ (r3.health, r3.attempts, r3.eligible) = (5, 3, 125) ∧
      (r4.health, r4.attempts, r4.eligible) = (5, 3, 129) ∧ (r5.health, r5.attempts, r5.outcome) =
        (7, 4, some .gaveUp) := by decide +kernel

/-- The worked example of one list: an urgent record joins behind the urgent ones. -/
theorem test_urgent_class :
    let r := fun (i : Nat) (u : Bool) => { record with index := i, urgent := u }
    (joinClass [r 1 true, r 2 false, r 3 false] (r 4 true)).map (·.index) = [1, 4, 2, 3] := by decide +kernel

/-! ### Evaluation (1.6) -/

/-- An entry never served in a group not DONE gets a DELIVER item in mode STAGE; under HOLD_OLD once DONE it is LATE. -/
theorem test_evaluation :
    evaluate settings (plainInput false entry) = .item .deliver .stage ∧
      evaluate settings (plainInput true entry) = .state .late ∧
      evaluate settings (plainInput false { entry with host := { entry.host with hold := true } }) = .state .held ∧
      evaluate settings (plainInput false { entry with host := { entry.host with phase := 4 } }) =
        .state .entryBad := by decide +kernel

/-! ### The memory port -/

/-- R162, R190: the write of a locked pair sets bit 5 of the word it read, little-endian. -/
theorem test_locked_pair_writes_its_bit :
    let s := holding night .writeBack (.pair 0x30000 5) 1
    readWord (after (exec (.wordComplete 0 0) { s with bus := { s.bus with got := [0x80000001], lock := true } })).shared
      0x30000 = some 0x80000021 := by decide +kernel

/-- R163: a read word with bad parity makes the port repeat the transfer from its first word. -/
theorem test_parity_repeat :
    let t := after (exec (.wordComplete 1 0) (holding night .entry (.read 0x10000 8) 3))
    t.bus.retry = true ∧ t.bus.nextWord = 0 ∧ t.bus.bus = .holding := by decide +kernel

/-- R191: SEND of five bytes is code 2, the length in bits 15:8, and the frame with its first byte in bits 7:0. -/
theorem test_send_words :
    (LinkCommand.send [1, 2, 3, 4, 5]).words = [0x00000502, 0x04030201, 0x00000005] ∧
      (wordBits 0x00000502).take 24 = List.replicate 21 false ++ [true, false, true] := by decide +kernel

/-- R10: an invalid entry in a cell of the gap set is written UNSURE with no POLL to follow. -/
theorem test_invalid_entry_gets_no_poll :
    let poll := fun (words : List Word) =>
      let s := withGroup (inHand (.pass .changeover) .changeover (.read words)) { announced 52000 with gap := 1 }
      (after (exec .entryReadDone s)).sweep.hand.map fun h =>
        match h.phase with
        | .writing w => (w.written, w.poll.isSome)
        | _ => (.idle, false)
    poll [0x0012341, 0x00030102, 0x00C80300, 0x00020000, 0x3, 0x0300, 0x0300, 0] = some (.unsure, true) ∧
      poll [0x0012341, 0x00030102, 0x00000300, 0x00020000, 0x3, 0x0300, 0x0300, 0] = some (.unsure, false) := by
  decide +kernel

/-! ### Witnesses: for each statement with hypotheses, states and operands that meet them, clause by clause -/

theorem witness_StepRunsTheFrontCommand :
    ({ night with pending := [.start, .stop] } : State).pending = .start :: [.stop] ∧ night.pending = [] := by
  decide +kernel

theorem witness_Resets :
    night.bus.current = none ∧
      (let s := holding night .entry (.read 0x10000 8) 7
      s.bus.current = some { requester := .entry, action := .read 0x10000 8, orphan := false, checked := true } ∧
        s.bus.bus ≠ .idle) ∧
      let tr : Transfer := { requester := .entry, action := .read 0x10000 8, orphan := true, checked := false }
      let s : State :=
        { State.reset with
          cmd := { State.reset.cmd with inProgress := some (.reset true) },
          bus := { State.reset.bus with bus := .holding, current := some tr, nextWord := 7 } }
      s.cmd.inProgress = some (.reset true) ∧ s.bus.bus = .holding ∧ s.bus.current = some tr ∧
        tr.checked = false ∧ s.bus.nextWord + 1 = tr.action.words := by decide +kernel

/-- A checked read that RESET has left without its requester, with a word to come. -/
def orphanRead (retry : Bool) (next : Nat) : State :=
  let tr : Transfer := { requester := .entry, action := .read 0x10000 8, orphan := true, checked := true }
  { State.reset with
    cmd := { State.reset.cmd with inProgress := some (.reset true) },
    bus := { State.reset.bus with bus := .holding, current := some tr, nextWord := next, retry := retry } }

theorem witness_ResetsChecked :
    let tr : Transfer := { requester := .entry, action := .read 0x10000 8, orphan := true, checked := true }
    (∀ retry : Bool, (orphanRead retry 7).cmd.inProgress = some (.reset true) ∧ (orphanRead retry 7).bus.bus = .holding ∧
        (orphanRead retry 7).bus.current = some tr ∧ (orphanRead retry 7).bus.retry = retry) ∧
      tr.checked = true ∧ tr.action.readsAt 7 = true ∧ parityGood 5 0 = true ∧ parityGood 5 15 = false ∧
      tr.action.words ≤ 7 + 1 ∧
      (after (exec (.wordComplete 5 0) (orphanRead true 7))).cmd.resultCode = .aborted ∧
      (after (exec (.wordComplete 5 15) (orphanRead true 3))).cmd.resultCode = .aborted ∧
      (after (exec (.wordComplete 5 15) (orphanRead false 7))).bus.retry = true ∧
      (after (exec .transferError (orphanRead false 3))).cmd.inProgress = none := by decide +kernel

theorem witness_RegisterWindow :
    (0x18 : Word) ≠ 0x00 ∧ (0x18 : Word) ≠ 0x04 ∧ (0x18 : Word) ≠ 0x08 ∧ (0x18 : Word) ≠ 0x0C ∧
      (0x18 : Word) ≠ 0x10 ∧ (0x18 : Word) ≠ 0x14 := by decide

theorem witness_NoticeIsCheckedCutAndQueued :
    loaded.nightOn = false ∧ night.nightOn = true ∧ night.settings.entryCount ≤ (40 : BitVec 16).toNat ∧
      (39 : BitVec 16).toNat < night.settings.entryCount ∧
      (List.replicate 7 ({ first := 0, span := 1, progress := 0 } : Notice)).length < 8 := by decide +kernel

theorem witness_LostNotice :
    let full := fun (s : State) =>
      ({ s with notices := List.replicate 8 { first := 0, span := 1, progress := 0 } } : State)
    (39 : BitVec 16).toNat < night.settings.entryCount ∧ (full night).nightOn = true ∧
      8 ≤ (full night).notices.length ∧ (full night).sweep.anyLive = false ∧
      (full (sweeping (passOf .opening) none)).sweep.live .opening = true ∧
      (full (sweeping (passOf .rescan) none)).sweep.running = passOf .rescan ∧
      (full (sweeping (passOf .changeover) (passOf .refill))).sweep.suspended = passOf .refill := by decide +kernel

theorem witness_OneCommandWaits :
    let s : State := { night with cmd := { night.cmd with inProgress := some (.cellOn 1) } }
    let t : State := { s with cmd := { s.cmd with waiting := some .pause } }
    let u : State := { loaded with cmd := { loaded.cmd with inProgress := some (.abort .ok 0) } }
    let v : State := { loaded with cmd := { loaded.cmd with inProgress := some (.abortProbe 0), waiting := some .start } }
    u.settled = true ∧ u.cmd.waiting = none ∧ v.settled = true ∧ v.cmd.waiting.isSome = true ∧
      s.settled = true ∧ s.cmd.inProgress.isSome = true ∧ s.cmd.waiting = none ∧
      t.settled = true ∧ t.cmd.waiting.isSome = true ∧
      (7 : Word).extractLsb' 0 8 = 7 ∧ (6 : Word).extractLsb' 0 8 = 6 ∧
      (5 : Word).extractLsb' 0 8 ≠ 6 ∧ (5 : Word).extractLsb' 0 8 ≠ 7 := by decide +kernel

/-- A command waits behind one that an event completes: a CELL_ON whose probe fails, a STOP whose record is written, and a LOAD ended
by a parity repeat that fails, by a transfer error, by an anchor block it does not take, or by ABORT. -/
theorem witness_WaitingCommandIsTaken :
    let waits := fun (s : State) (w : HostCommand) => ({ s with cmd := { s.cmd with waiting := some w } } : State)
    let completes := fun (s : State) (event : Instr) (w : HostCommand) =>
      (waits s w).settled = true ∧ s.cmd.inProgress.isSome = true ∧ s.cmd.waiting = none ∧
        (after (exec event s)).cmd.inProgress = none ∧
        (after (exec event (waits s w))).cmd.waiting = none
    let probe := probing (.cellOn .off) [.varied, .varied] .ident
      { night with cmd := { night.cmd with inProgress := some (.cellOn 0) } }
    let stop : State := { night with
      cmd := { night.cmd with controller := .stopping, inProgress := some (.stop true) },
      night := { writeCount := 7, waiting := none, current := some {
        snapshot := { base := 0x32000, words := [], awaited := true }, offered := 84, complete := true, cut := false } } }
    let load : State := { loaded with cmd := { loaded.cmd with
      controller := .loading,
      inProgress := some (.load .loaded (.reading 0 [] (Vector.replicate 4 radioPortReset.saved))) } }
    let reading := holding load .anchor (.read 0 8) 3
    let bad : State := { load with cmd := { load.cmd with
      inProgress := some (.load .loaded (.read [] (Vector.replicate 4 radioPortReset.saved))) } }
    completes probe (.linkTimeout 0 .varied) .pause ∧
      (∀ c : CellId, (probe.portAt c).frameReady = false ∧ (probe.portAt c).due = [] ∧
        (probe.portAt c).clockNext = none) ∧
      completes stop .nightRecordWriteDone .start ∧ stop.night.waiting = none ∧
      (after (exec .nightRecordWriteDone (waits stop .start))).cmd.controller = .running ∧
      completes { reading with bus := { reading.bus with retry := true } } (.wordComplete 5 15) .start ∧
      completes reading .transferError .load ∧ completes bad .anchorReadDone .start ∧ completes load .abort .start := by
  decide +kernel

theorem witness_RefusedCommands :
    night.free = true ∧ 13 < (14 : BitVec 8).toNat ∧ night.cmd.controller ∉ [.unloaded, .loaded, .faulted] ∧
      night.cmd.controller ≠ .loaded ∧ loaded.free = true ∧ loaded.cmd.controller ≠ .running ∧
      night.cmd.controller ≠ .paused ∧ loaded.cmd.controller ∈ [.unloaded, .loaded, .faulted] ∧
      loaded.nightOn = false ∧ State.reset.free = true ∧ State.reset.nightOn = false ∧
      State.reset.cmd.controller ≠ .loaded := by decide +kernel

theorem witness_MaskPauseAndResume :
    night.free = true ∧ night.cmd.controller = .running ∧ (inState .paused).free = true ∧
      (inState .paused).cmd.controller = .paused := by decide +kernel

theorem witness_StartBeginsANight : loaded.free = true ∧ loaded.cmd.controller = .loaded := by decide +kernel

theorem witness_LoadReadsTheAnchor :
    let s : State := { loaded with cmd := { loaded.cmd with anchor := 0x103F } }
    let t : State := { loaded with cmd := { loaded.cmd with anchor := 0x1040 } }
    s.free = true ∧ s.cmd.controller ∈ [.unloaded, .loaded, .faulted] ∧ s.cmd.anchor.toNat % 64 ≠ 0 ∧
      t.free = true ∧ t.cmd.controller ∈ [.unloaded, .loaded, .faulted] ∧ t.cmd.anchor.toNat % 64 = 0 := by
  decide +kernel

/-- What the ports held before LOAD, cell 0 in a given state. -/
def saved (state : CellState) : PerCell SavedPort :=
  cellPut (Vector.replicate 4 radioPortReset.saved) 0 { radioPortReset.saved with state := state }

/-- LOADING with the anchor block read. -/
def anchorRead (ws : List Word) : State :=
  { State.reset with
    cmd := { State.reset.cmd with
      controller := .loading, inProgress := some (.load .unloaded (.read ws (saved .off))) } }

theorem witness_AnchorChecks :
    (anchorRead (anchor.set 1 65537)).quiet = true ∧
      (anchorRead (anchor.set 1 65537)).cmd.inProgress = some (.load .unloaded (.read (anchor.set 1 65537) (saved .off))) ∧
      anchorAccepted (anchor.set 1 65537) = false ∧ anchorAccepted (anchor.set 1 65536) = true := by decide +kernel

theorem witness_AcceptedAnchorProbes :
    (anchorRead anchor).quiet = true ∧ anchorAccepted anchor = true ∧
      (anchorRead anchor).cmd.inProgress = some (.load .unloaded (.read anchor (saved .off))) ∧
      ((anchorRead anchor).portAt 0).exchange = none ∧
      ((withPort (anchorRead anchor) fun p => { p with exchange := some (.pull false) }).portAt 0).exchange ≠ none ∧
      (∃ c : CellId, (cellAt (anchorSettings anchor).cells c).enabled = true) ∧
      (anchorRead anchorOff).quiet = true ∧ anchorAccepted anchorOff = true ∧
      ∀ c : CellId, (cellAt (anchorSettings anchorOff).cells c).enabled = false := by decide +kernel

/-- An off-pending cell has a beacon with no window to send; its link is in a SEND for a given purpose. -/
def bareBeacon (purpose : Purpose) : State :=
  withSeq (sending (.send [1]) purpose false) fun q =>
    { q with offPending := true, position := .beaconSend, standing := some { plan with items := [] } }

theorem witness_StopDrainsTheNight :
    let s := withSeq night fun q => { q with offPending := true }
    (withGroup night (announced 52016)).free = true ∧ (withGroup night (announced 52016)).nightOn = true ∧
      (withGroup night (announced 52016)).pendingGroups ≠ 0 ∧
      s.free = true ∧ s.nightOn = true ∧ s.pendingGroups = 0 ∧ (s.seqAt 0).standing = none ∧
      (s.seqAt 0).offPending = true ∧ (∀ c : CellId, (s.seqAt c).coming = none) ∧
      (bareBeacon (.beacon 52000)).free = true ∧ (bareBeacon (.beacon 52000)).nightOn = true ∧
      (bareBeacon (.beacon 52000)).pendingGroups = 0 ∧ ((bareBeacon (.beacon 52000)).portAt 0).beaconOut = true ∧
      (let t := after (exec .stop (bareBeacon (.beacon 52000)))
      (t.portAt 0).state = .off ∧ (t.seqAt 0).standing = some { plan with items := [] }) ∧
      (bareBeacon (.window 51999)).free = true ∧ ((bareBeacon (.window 51999)).portAt 0).beaconOut = false ∧
      ((after (exec .stop (bareBeacon (.window 51999)))).seqAt 0).standing = none := by decide +kernel

/-- R122, R158: a probe in an off-pending cell does not cut the beacon's SEND that is out when STOP is taken. -/
theorem test_stop_leaves_the_send_of_a_beacon :
    let s := withPort (bareBeacon (.beacon 52000)) fun p =>
      { p with probe := some { reason := .restart false, channel := 7, rate := .k100, tries := [], tuning := false } }
    let t := after (exec .stop s)
    s.free = true ∧ (t.portAt 0).exchange = (s.portAt 0).exchange ∧
      (t.seqAt 0).standing = some { plan with items := [] } ∧ (t.portAt 0).state = .off := by decide +kernel

theorem witness_AbortCutsTheNight :
    night.cmd.controller ∈ [.running, .paused, .stopping] ∧ night.cmd.inProgress.any Running.isAbort = false ∧
      ((withSeq night fun q => { q with offPending := true }).seqAt 0).offPending = true ∧
      (night.seqAt 0).offPending = false ∧ (night.portAt 0).probe = none ∧
      (let s := probing (.restart true) [] .ident night
      (s.portAt 0).probe.map (·.reason) = some (.restart true) ∧ (s.seqAt 0).offPending = false) ∧
      (let w : SweepWrite := { written := .queued, reportable := false, poll := none }
      let s := holding (inHand .notice .plain (.writing w)) .entry (.write 0x100B0 [0, 0, 0, 0]) 2
      s.cmd.controller ∈ [.running, .paused, .stopping] ∧ s.cmd.inProgress.any Running.isAbort = false ∧
        s.bus.current.isSome = true ∧ s.sweep.hand.map (·.phase) = some (.writing w) ∧
        (after (exec .abort s)).sweep.hand.map (·.phase) = some (.writing w) ∧
        (after (exec .abort (inHand .notice .plain (.writing w)))).sweep.hand = none) ∧
      let s := probing (.cellOn .off) [] .ident night
      (s.portAt 0).probe.map (·.reason) = some (.cellOn .off) := by decide +kernel

/-- LOAD's probes, cell 0 probing. -/
def loadProbing (state : CellState) : State :=
  probing .load [] .ident
    { loaded with cmd := { loaded.cmd with
        controller := .loading, inProgress := some (.load .loaded (.probing settings 0 (saved state))) } }

theorem witness_AbortOfLoadAndCellOn :
    (loadProbing .quiet).quiet = true ∧ (loadProbing .quiet).cmd.controller = .loading ∧
      (loadProbing .quiet).cmd.inProgress = some (.load .loaded (.probing settings 0 (saved .quiet))) ∧
      (cellAt (saved .quiet) 0).state ≠ .probing ∧ (cellAt (saved .probing) 0).state = .probing ∧
      (anchorRead anchor).quiet = true ∧ (anchorRead anchor).cmd.controller = .loading ∧
      (let s : State := { loaded with cmd := { loaded.cmd with inProgress := some (.load .unloaded (.recording 2)) } }
      s.settled = true ∧ s.cmd.controller = .loaded) ∧
      let s := probing (.cellOn .off) [] .ident
        { loaded with cmd := { loaded.cmd with inProgress := some (.cellOn 0) } }
      let t := withPort s fun p => { p with exchange := some (.command .ident .orphan false true),
                                            due := [.command .ident .probe] }
      s.quiet = true ∧ s.cmd.controller = .loaded ∧ s.cmd.inProgress = some (.cellOn 0) ∧
        (s.portAt 0).probe.map (·.reason) = some (.cellOn .off) ∧ (s.portAt 0).probeCommandOut = true ∧
        t.quiet = true ∧ (t.portAt 0).probe.map (·.reason) = some (.cellOn .off) ∧
        (t.portAt 0).probeCommandOut = false := by decide +kernel

/-- ABORT of a CELL_ON waits for the probe's command: it completes with its answer or its timeout (R185). -/
theorem witness_AbortOfCellOnCompletes :
    let s : State := { loaded with cmd := { loaded.cmd with inProgress := some (.abortProbe 0) } }
    let t := withPort s fun p =>
      { p with state := .off, exchange := some (.command (.tune 7 .k100) .orphan true true) }
    t.quiet = true ∧ t.cmd.controller = .loaded ∧ (LinkCommand.tune 7 .k100).moves = false ∧
      (t.portAt 0).exchange = some (.command (.tune 7 .k100) .orphan true true) ∧ (t.portAt 0).state ≠ .active ∧
      (after (exec (.linkTimeout 0 .varied) t)).cmd.inProgress = none ∧
      (after (exec (.linkAnswer 0 1) t)).cmd.resultCode = .ok := by decide +kernel

/-- ABORT of a CELL_ON that has adopted a restart probe (R157, R159, R185). -/
theorem witness_AbortOfAdoptedProbe :
    let s := probing (.restart true) [] .ident { loaded with cmd := { loaded.cmd with inProgress := some (.cellOn 0) } }
    let probe : Probe := { reason := .restart true, channel := 7, rate := .k100, tries := [], tuning := false }
    s.quiet = true ∧ s.cmd.controller = .loaded ∧ s.cmd.inProgress = some (.cellOn 0) ∧
      (s.portAt 0).probe = some probe ∧ probe.reason ≠ .load ∧ (s.portAt 0).probeCommandOut = true ∧
      ((after (exec .abort s)).portAt 0).state = .quiet := by decide +kernel

theorem witness_RescanRequest :
    (sweeping none none).free = true ∧ (sweeping none none).nightOn = true ∧ (sweeping none none).sweep.anyLive = false ∧
      (sweeping (passOf .opening) none).free = true ∧ (sweeping (passOf .opening) none).sweep.live .opening = true ∧
      (sweeping (passOf .refill) none).free = true ∧ (sweeping (passOf .refill) none).sweep.live .opening = false ∧
      (sweeping (passOf .changeover) none).free = true ∧
      (sweeping (passOf .rescan) none).free = true ∧
      (sweeping (passOf .changeover) (passOf .refill)).free = true ∧
      (sweeping (passOf .changeover) (passOf .refill)).sweep.suspended = passOf .refill ∧
      (sweeping (passOf .changeover) (passOf .rescan)).free = true ∧
      (sweeping (passOf .changeover) (passOf .rescan)).sweep.suspended = passOf .rescan := by decide +kernel

theorem witness_FlipAtAnnounces :
    loaded.free = true ∧ loaded.cmd.controller ≠ .running ∧ loaded.cmd.controller ≠ .paused ∧ night.free = true ∧
      night.cmd.controller = .running ∧ (3 : BitVec 4).toNat = (2 : GroupId).val + 1 ∧
      (night.groupRec 2).state = .opened ∧ (15 : BitVec 20).toNat < 2 ^ night.settings.bigK ∧
      ¬(16 : BitVec 20).toNat < 2 ^ night.settings.bigK ∧
      (withGroup night { announced 52016 with state := .done }).free = true ∧
      ((withGroup night { announced 52016 with state := .done }).groupRec 2).state = .done ∧
      ((withGroup night (announced 52016)).groupRec 2).state = .announced ∧
      ((withGroup night { announced 52016 with state := .cancelling }).groupRec 2).state = .cancelling := by
  decide +kernel

theorem witness_CancelFlip :
    let least := night.timer.now + BitVec.ofNat 32 (2 ^ night.settings.bigK + 1)
    least = 52017 ∧ night.free = true ∧ (3 : BitVec 4).toNat = (2 : GroupId).val + 1 ∧
      (withGroup night (announced 52016)).free = true ∧
      2 ^ 31 ≤ (((withGroup night (announced 52016)).groupRec 2).flipBeacon - least).toNat ∧
      (((withGroup night (announced 52017)).groupRec 2).flipBeacon - least).toNat < 2 ^ 31 := by decide +kernel

theorem witness_CellOn :
    night.free = true ∧ night.nightOn = true ∧ loaded.free = true ∧ loaded.cmd.controller = .loaded ∧
      4 ≤ (4 : BitVec 8).toNat ∧ (0 : BitVec 8).toNat = (0 : CellId).val ∧ (3 : BitVec 8).toNat = (3 : CellId).val ∧
      (night.portAt 0).state = .active ∧ (night.portAt 3).state = .off ∧
      (let s := withPort night fun p => { p with state := .quiet, countdown := 3 }
      s.free = true ∧ (s.portAt 0).state ∈ [.off, .quiet, .failed] ∧ (s.portAt 0).state ≠ .off) ∧
      let s := probing (.restart false) [] .ident night
      s.free = true ∧ (s.portAt 0).state = .probing := by decide +kernel

theorem witness_CellOff :
    night.free = true ∧ night.nightOn = true ∧ (night.portAt 0).state = .active ∧ (night.portAt 3).state = .off ∧
      loaded.free = true ∧ loaded.cmd.controller = .loaded ∧ (loaded.portAt 0).state = .active ∧
      let s := probing (.restart false) [] .ident night
      s.free = true ∧ (s.portAt 0).state = .probing := by decide +kernel

/-- The plan point of beacon 52,001 has been taken. -/
def planTaken : State :=
  { night with timer := { night.timer with schedule := some { nextBeacon := 1000, nextPlan := none } } }

theorem witness_BeaconEvent :
    planTaken.settled = true ∧ planTaken.beaconDue = true ∧
      planTaken.timer.schedule = some { nextBeacon := 1000, nextPlan := none } ∧ planTaken.night.current = none ∧
      planTaken.nightOn = true ∧ (planTaken.portAt 0).state = .active ∧ (planTaken.portAt 1).state ≠ .active ∧
      (let s := withPort planTaken fun p => { p with state := .quiet, countdown := 1 }
      s.settled = true ∧ s.beaconDue = true ∧ (s.portAt 0).state = .quiet) ∧
      let w : NightWrite :=
        { snapshot := { base := 0x32000, words := [], awaited := false }, offered := 8, complete := false, cut := false }
      let s : State := { planTaken with night := { planTaken.night with current := some w } }
      s.settled = true ∧ s.beaconDue = true ∧ s.night.current = some w := by decide +kernel

/-- A cell that has failed since its plan was made misses the beacon, and its item ends as NOT_SENT. -/
theorem witness_BeaconMissedByACell :
    let s : State := { withPort (withSeq planTaken fun q => { q with coming := some { plan with beacon := 52001 } })
        (fun p => { p with state := .failed }) with
      due := cellPut night.due 0 [planned] }
    let t := withGroup s (announced 52001)
    s.settled = true ∧ s.beaconDue = true ∧ (s.seqAt 0).coming = some { plan with beacon := 52001 } ∧
      (s.itemAt 0 52001 0).map PlanItem.live = some true ∧ s.recordIn 0 5 = some planned ∧
      (after (exec .beaconEvent s)).recordIn 0 5 = some { planned with state := .waiting, eligible := 52005 } ∧
      t.settled = true ∧ t.beaconDue = true ∧
      (t.groupRec 2).flipBeacon = t.timer.now + 1 ∧ ((after (exec .beaconEvent t)).groupRec 2).state = .done ∧
      (after (exec .beaconEvent t)).sweep.live .changeover = true := by decide +kernel

/-- The window's beacon SEND is out and three cells have reported. -/
def lastReport (reported : BitVec 4) : State :=
  let s := withSeq (sending (.send [1]) (.beacon 52000) false) fun q => { q with position := .beaconSend }
  { s with flip := { s.flip with reported := reported } }

theorem witness_FlipAtTheFourthReport :
    (lastReport 0xE).settled = true ∧ (lastReport 0xE).nightOn = true ∧
      ((lastReport 0xE).portAt 0).exchange =
        some (.command (.send [1]) (.beacon (lastReport 0xE).timer.now) false false) ∧
      answers (.send [1]) 2 = true ∧ ((lastReport 0xE).seqAt 0).standing = some plan ∧ plan.hasWindow = true ∧
      (lastReport 0xE).flip.reported ||| cellBit 0 = 0xF ∧ (lastReport 0x6).flip.reported ||| cellBit 0 ≠ 0xF ∧
      (lastReport 0x6).settled = true ∧
      ((withGroup (lastReport 0xE) (announced 52000)).groupRec 2).flipBeacon = (lastReport 0xE).timer.now ∧
      ((withGroup (lastReport 0xE) (announced 52001)).groupRec 2).flipBeacon ≠ (lastReport 0xE).timer.now ∧
      (let s := bareBeacon (.beacon 52000)
      s.settled = true ∧ (s.seqAt 0).standing = some { plan with items := [] } ∧ (s.seqAt 0).offPending = true ∧
        s.nightOn = true ∧ ((after (exec (.linkAnswer 0 2) s)).portAt 0).state = .off) := by
  decide +kernel

def fetchElem : FetchElem :=
  { cell := 0, beacon := 52000, place := 0, index := 5, target := 0x0300, reference := 0x20000, length := 200,
    segments := 5, needed := [4], buffers := [0] }

theorem witness_PlanPoint :
    night.timer.schedule = some { nextBeacon := 1000, nextPlan := some 900 } ∧ night.cmd.controller = .running ∧
      (night.portAt 0).state = .active ∧ (night.portAt 1).state ≠ .active ∧
      (∀ x ∈ night.fetch.list, (52001 - x.beacon).toNat < 2 ^ 31 ∧ x.beacon ≠ (52001 : BeaconNo)) ∧
      (let u : State := { night with
        due := cellPut night.due 0 [eligible 5 2],
        fetch := { list := [{ fetchElem with beacon := 52001, cell := 1 }], current := none } }
      (∀ x ∈ u.fetch.list, x.beacon = u.timer.now + 1) ∧
        (after (exec .planPoint u)).fetch.list.map (fun x => x.cell.val) = [0, 1]) := by decide +kernel

theorem witness_PlanWithinLimits :
    ((makePlan settings 0 52001 [eligible 5 2] []).items.map fun i => (i.index, i.cost, i.buffers)) =
      [(5, 12960, [0, 1])] := by decide +kernel

theorem witness_ItemSlotStart :
    window.settled = true ∧ (window.seqAt 0).nextItem = some (plan, item) ∧ item.status = .ready ∧
      (window.portAt 0).holding = none ∧ (window.portAt 0).exchange = none ∧
      (let s := sending (.listen 2080) (.window 52000) false
      s.settled = true ∧ (s.seqAt 0).nextItem = some (plan, item) ∧ (s.portAt 0).exchange ≠ none) ∧
      let unready : PlanItem := { item with status := .unready }
      let dropped : PlanItem := { item with status := .dropped }
      let s := withSeq window fun q => { q with standing := some { plan with items := [unready] } }
      let t := withSeq window fun q => { q with standing := some { plan with items := [dropped] } }
      s.settled = true ∧ (s.seqAt 0).nextItem = some ({ plan with items := [unready] }, unready) ∧
        s.recordIn 0 5 = some planned ∧ planned.state = .planned ∧ planned.outcome = none ∧
        planned.lateAtFlip = false ∧ planned.refreshPending = false ∧ s.stopping = false ∧
        t.settled = true ∧ (t.seqAt 0).nextItem = some ({ plan with items := [dropped] }, dropped) := by
  decide +kernel

theorem witness_FrameAndReplySlotStarts :
    let s := withSeq window fun q => { q with position := .inFrames, upNext := 1, slotsLeft := 1 }
    let t := withPort s fun p => { p with holding := some { frame := [2], beacon := 52000 } }
    let u := withPort t fun p => { p with exchange := some (.command (.send [1]) (.window 52000) false false) }
    let v := withSeq s fun q => { q with slotsLeft := 0 }
    t.settled = true ∧ (t.seqAt 0).position = .inFrames ∧ 0 < (t.seqAt 0).slotsLeft ∧
      (t.portAt 0).exchange = none ∧ (t.portAt 0).holding = some { frame := [2], beacon := 52000 } ∧
      u.settled = true ∧ (u.portAt 0).exchange ≠ none ∧
      v.settled = true ∧ (v.seqAt 0).slotsLeft = 0 ∧ (v.seqAt 0).standing = some plan := by decide +kernel

theorem witness_ReplySlotEnd :
    let r : DueRecord := { planned with state := .inAir }
    inReply.settled = true ∧ (inReply.seqAt 0).position = .inReply ∧ (inReply.seqAt 0).standing = some plan ∧
      (inReply.seqAt 0).currentItem = some item ∧ inReply.recordIn 0 item.index = some r ∧ r.state = .inAir ∧
      r.refreshPending = false ∧ inReply.stopping = false ∧
      (r.afterResult settings false 52000 .noReply).outcome = none ∧
      (({ r with attempts := 3 } : DueRecord).afterResult settings false 52000 .noReply).outcome = some .gaveUp ∧
      (let s : State := { inReply with due := cellPut night.due 0 [{ r with refreshPending := true }] }
      let full : State := { s with sweep := { s.sweep with reread := List.replicate 4096 0 } }
      s.settled = true ∧ s.sweep.reread.length < 4096 ∧ full.settled = true ∧ 4096 ≤ full.sweep.reread.length ∧
        full.nightOn = true) ∧
      (let s : State := { inReply with cmd := { inReply.cmd with controller := .stopping, inProgress := some (.stop false) } }
      s.settled = true ∧ s.stopping = true) ∧
      (({ r with health := 63 } : DueRecord).afterResult { settings with threshold := 62 } false 52000 .noReply).outcome =
        some .unreachable := by
  decide +kernel

/-- The controller is STOPPING with the drain still to end. -/
def stopping (s : State) : State :=
  { s with cmd := { s.cmd with controller := .stopping, inProgress := some (.stop false) },
           timer := { s.timer with schedule := none } }

/-- A beacon's SEND is answered while the controller is STOPPING: its window runs on, and with no window the drain ends (R123, R184);
a beacon before the present one is no present report. -/
theorem witness_BeaconSentWhileStopping :
    let s := stopping (lastReport 0xE)
    let bare := withSeq { s with due := Vector.replicate 4 [] } fun q => { q with standing := some { plan with items := [] } }
    let late := { s with timer := { s.timer with now := 52001 } }
    s.settled = true ∧ s.nightOn = false ∧ (s.seqAt 0).standing = some plan ∧ s.flip.reported ||| cellBit 0 = 0xF ∧
      ((after (exec (.linkAnswer 0 2) s)).seqAt 0).position = .before ∧ bare.settled = true ∧
      (after (exec (.linkAnswer 0 2) bare)).cmd.inProgress = some (.stop true) ∧ late.settled = true ∧
      (after (exec (.linkAnswer 0 2) late)).flip = late.flip := by decide +kernel

theorem witness_WindowEnd :
    let s := withSeq inReply fun q => { q with position := .between }
    let t := withSeq s fun q => { q with offPending := true }
    let u : State :=
      { s with due := Vector.replicate 4 [], cmd := { s.cmd with controller := .stopping, inProgress := some (.stop false) } }
    s.settled = true ∧ (s.seqAt 0).windowOver = true ∧ (s.seqAt 0).offPending = false ∧
      t.settled = true ∧ (t.seqAt 0).windowOver = true ∧ (t.seqAt 0).offPending = true ∧
      (t.portAt 0).state = .active ∧ u.settled = true ∧ (u.seqAt 0).windowOver = true ∧
      (after (exec (.windowEnd 0) u)).cmd.inProgress = some (.stop true) := by decide +kernel

theorem witness_Probes :
    (let s := withPort night fun p => { p with state := .quiet }
    s.settled = true ∧ (s.portAt 0).state = .quiet ∧ (s.portAt 0).countdown = 0 ∧
      ((withPort s fun p => { p with countdown := 1 }).portAt 0).countdown ≠ 0) ∧
      answers .ident 0x5C05 = true ∧ (0x5C05 : Word).extractLsb' 8 8 = 0x5C ∧ answers (.tune 7 .k100) 1 = true ∧
      (let s := probing (.restart false) [.allZeros] .ident night
      s.settled = true ∧ [DataIn.allZeros].length < 2 ∧ s.cmd.inProgress ≠ some (.cellOn 0)) ∧
      (let s := probing (.restart false) [] (.tune 7 .k100) night
      s.settled = true ∧
        (s.portAt 0).exchange = some (.command (.tune 7 .k100) .probe false false) ∧ (s.portAt 0).restartCount < 7 ∧
        7 ≤ ((withPort s fun p => { p with restartCount := 7 }).portAt 0).restartCount) ∧
      (let on := fun (reason : ProbeReason) => probing reason [] (.tune 7 .k100)
        { loaded with cmd := { loaded.cmd with inProgress := some (.cellOn 0) } }
      (on (.cellOn .quiet)).settled = true ∧ (on (.cellOn .quiet)).cmd.inProgress = some (.cellOn 0) ∧
        (on (.cellOn .quiet)).cmd.waiting = none ∧ (on (.cellOn .quiet)).cmd.controller = .loaded ∧
        (on (.restart true)).settled = true ∧ ((on (.restart true)).portAt 0).state = .probing) ∧
      let s := withPort (loadProbing .off) fun p =>
        { p with exchange := some (.command (.tune 7 .k100) .probe false false) }
      let two := s.modPort 1 fun _ => (s.portAt 0)
      s.settled = true ∧ s.cmd.inProgress = some (.load .loaded (.probing settings 0 (saved .off))) ∧
        (∀ d : CellId, d ≠ 0 → (s.portAt d).loadProbing = false) ∧
        two.settled = true ∧ (two.portAt 1).loadProbing = true := by decide +kernel

/-- The three ways in which a probe fails. -/
theorem witness_ProbesFailing :
    let reason := ProbeReason.restart false
    let probe := fun (tries : List DataIn) =>
      ({ reason := reason, channel := 7, rate := .k100, tries := tries, tuning := false } : Probe)
    (probing reason [] .ident night).probeFails 0 (probe []) (.linkAnswer 0 0x5D05) .wrongKind ∧
      (probing reason [.allOnes, .allOnes] .ident night).probeFails 0 (probe [.allOnes, .allOnes])
        (.linkTimeout 0 .allOnes) .lineStuck ∧
      (withPort (probing reason [] .ident night) fun p =>
        { p with exchange := some (.command (.tune 7 .k100) .probe true false) }).probeFails 0 (probe [])
        (.linkTimeout 0 .allZeros) .noAnswer :=
  ⟨⟨by decide +kernel, .inl ⟨_, false, false, rfl, by decide +kernel, by decide +kernel, by decide +kernel, rfl⟩⟩,
    ⟨by decide +kernel, .inr (.inl ⟨_, false, false, rfl, by decide +kernel, rfl, by decide +kernel⟩)⟩,
    ⟨by decide +kernel, .inr (.inr ⟨_, 7, .k100, false, rfl, by decide +kernel, rfl⟩)⟩⟩

theorem witness_LinkFaults :
    let k := LinkCommand.listen 2080
    let s := sending k (.window 52000) true
    let t := withPort s fun p => { p with runCount := 2 }
    s.settled = true ∧ answers k 2 = false ∧ answers k 3 = true ∧ k.moves = true ∧ (s.portAt 0).state = .active ∧
      (sending k (.window 52000) false).settled = true ∧ (sending .rest .port false).settled = true ∧
      ((sending .rest .port false).portAt 0).due = [] ∧
      ((withPort (sending .rest .port false) fun p => { p with due := [.command .ident .probe] }).portAt 0).due =
        .command .ident .probe :: [] ∧
      (s.seqAt 0).standing = some plan ∧ plan.beacon = 52000 ∧ (s.portAt 0).runCount + 1 < 3 ∧
      t.settled = true ∧ 3 ≤ (t.portAt 0).runCount + 1 ∧ (t.seqAt 0).offPending = false ∧
      ((withSeq t fun q => { q with offPending := true }).seqAt 0).offPending = true ∧
      (let b := lastReport 0x6
      let v := withPort b fun p => { p with exchange := some (.command (.send [1]) (.beacon 52000) true false) }
      v.settled = true ∧ (v.portAt 0).state = .active ∧ (v.seqAt 0).standing = some plan ∧
        v.flip.reported ||| cellBit 0 ≠ 0xF ∧ (∀ x ∈ v.dueAt 0, x.refreshPending = false) ∧ item.live = true ∧
        v.recordIn 0 5 = some planned ∧ planned.state = .planned ∧ planned.outcome = none ∧ planned.lateAtFlip = false ∧
        (after (exec (.linkTimeout 0 .varied) v)).recordIn 0 5 =
          some { planned with state := .waiting, eligible := 52004 }) ∧
      let w := withPort s fun p => { p with due := [.command (.send [1]) (.beacon 52001)] }
      w.settled = true := by decide +kernel

/-- Link faults outside ACTIVE: a beacon's in a cell that STOP has made OFF, and a window's in a cell that has left ACTIVE, whose plan
stands, stands no more, or is the next beacon's; the third in a row of an ACTIVE cell misses that beacon. -/
theorem witness_LinkFaultsOutsideActive :
    let off := fun (s : State) => withPort s fun p => { p with state := .off, runCount := 2 }
    let k := LinkCommand.listen 2080
    let b := withPort (stopping (lastReport 0x6)) fun p => { p with
      state := .off, exchange := some (.command (.send [1]) (.beacon 52000) true false) }
    let w := off (sending k (.window 52000) true)
    let none := withSeq w fun q => { q with standing := none, position := .noWindow }
    let next := withSeq (withPort w fun p => { p with state := .active, due := [.command (.send [1]) (.beacon 52001)] }) fun q =>
      { q with standing := some { plan with beacon := 52001 }, position := .beaconSend }
    b.settled = true ∧ (b.seqAt 0).standing = some plan ∧ (b.portAt 0).state = .off ∧
      ((after (exec (.linkTimeout 0 .varied) b)).seqAt 0).standing = .none ∧
      w.settled = true ∧ (w.seqAt 0).standing = some plan ∧
      ((after (exec (.linkTimeout 0 .varied) w)).portAt 0).runCount = 2 ∧
      ((after (exec (.linkAnswer 0 3) w)).portAt 0).runCount = 2 ∧ none.settled = true ∧
      (none.seqAt 0).standing = .none ∧ next.settled = true ∧ (next.portAt 0).runCount + 1 = 3 ∧
      ((after (exec (.linkTimeout 0 .varied) next)).seqAt 0).standing = .none ∧
      ((after (exec (.linkTimeout 0 .varied) next)).portAt 0).state = .quiet := by decide +kernel

/-- A beacon's link fault whose report is the fourth: the flip is taken with it. -/
theorem witness_FourthReportMissed :
    let v := withPort (withGroup (lastReport 0xE) (announced 52000)) fun p =>
      { p with exchange := some (.command (.send [1]) (.beacon 52000) true false) }
    v.settled = true ∧ (v.portAt 0).state = .active ∧ (v.seqAt 0).standing = some plan ∧ plan.beacon = 52000 ∧
      v.flip.reported ||| cellBit 0 = 0xF ∧ (v.groupRec 2).flipBeacon = v.timer.now ∧
      ((after (exec (.linkTimeout 0 .varied) v)).groupRec 2).state = .done ∧
      (after (exec (.linkTimeout 0 .varied) v)).recordIn 0 5 =
        some { planned with state := .retiring, outcome := some .late } := by decide +kernel

theorem witness_Receiving :
    let f : RxFrame := { bytes := [4], inSlot := false }
    let one := withPort night fun p => { p with fifo := [f] }
    let two := withPort night fun p => { p with fifo := [f, f] }
    let stopped := withPort night fun p => { p with fifo := [f], blocked := true }
    let pull := withPort night fun p => { p with exchange := some (.pull false) }
    one.settled = true ∧ (one.portAt 0).exchange = none ∧ (one.portAt 0).fifo.length < 2 ∧
      (one.portAt 0).blocked = false ∧ (one.portAt 1).state ≠ .active ∧
      stopped.settled = true ∧ (stopped.portAt 0).blocked = true ∧
      two.settled = true ∧ (two.portAt 0).blocked = false ∧ 2 ≤ (two.portAt 0).fifo.length ∧
      pull.settled = true ∧ (pull.portAt 0).exchange = some (.pull false) ∧ (pull.portAt 0).state = .active := by
  decide +kernel

theorem witness_FramesJudged :
    let f : RxFrame := { bytes := [4], inSlot := true }
    let s := withPort inReply fun p => { p with fifo := [f], blocked := true }
    s.settled = true ∧ (s.portAt 0).fifo = f :: [] ∧ f.inSlot = true ∧ (s.seqAt 0).position = .inReply ∧
      (s.seqAt 0).standing = some plan ∧ (s.seqAt 0).currentItem = some item ∧ (s.seqAt 0).cut = false ∧
      ((withSeq s fun q => { q with cut := true }).seqAt 0).cut = true ∧ crcGood [4] = false := by decide +kernel

/-- A reply frame for the item of the window: kind STAGED, staged version 0x0300. -/
def replyFrame : Frame :=
  sealFrame [4, 0x41, 0x23, 0x01, 0x00, 0x34, 0x12, 0x20, 1, 9, 0x00, 0x03, 0x00, 0x00, 0, 0, 0, 0]

theorem test_reply_is_good :
    crcGood replyFrame = true ∧ judge 0x1234 52000 0x0012341 replyFrame =
      .good { kind := .staged, staged := 0x0300, shown := 0, battery := 9, missing := 0 } ∧
      judge 0x1234 52001 0x0012341 replyFrame = .stray ∧ judge 0x1235 52000 0x0012341 replyFrame = .stray := by
  decide +kernel

theorem witness_HealthMoves :
    planned.health ≤ 63 ∧ ({ planned with health := 63 } : DueRecord).health ≤ 63 ∧ planned.outcome = none ∧
      ({ settings with threshold := 63 } : Settings).threshold = 63 := by decide +kernel

theorem witness_DeliverReplies :
    let y : Reply := { kind := .staged, staged := 0x0300, shown := 0, battery := 9, missing := 0 }
    record.kind = .deliver ∧ y.kind ≠ .rejected ∧ y.shown ≠ record.target ∧ y.staged = record.target ∧
      record.mode = .stage ∧ partlyReply.kind = .partly ∧ partlyReply.shown ≠ record.target := by decide +kernel

theorem witness_DisplayAndPollReplies :
    let r : DueRecord := { record with kind := .poll, mode := .display }
    r.kind ≠ .deliver ∧ r.kind = .poll ∧ partlyReply.kind ≠ .rejected ∧ partlyReply.shown ≠ r.target ∧ r.group ≠ 0 ∧
      settings.policy = .holdOld ∧ ({ r with kind := .display } : DueRecord).kind = .display := by decide +kernel

theorem witness_NextEligible :
    (planned.afterResult settings false 101 .noReply).outcome = none ∧
      (101 : BeaconNo).toNat % 2 ^ planned.k.toNat = planned.phase.toNat := by decide +kernel

theorem witness_LateAtFlip :
    let r : DueRecord := { planned with lateAtFlip := true }
    planned.lateAtFlip = false ∧ r.lateAtFlip = true ∧ r.outcome = none ∧ r.kind = .deliver ∧ r.mode = .stage ∧
      r.state = .planned ∧ ({ r with outcome := some .staged } : DueRecord).outcome = some .staged := by decide +kernel

theorem witness_EvaluationSteps :
    entryValid settings entry.host = true ∧ entry.host.hold = false ∧ entry.host.requested ≠ 0 ∧
      entry.host.requested ≠ entry.part.shown ∧ entry.host.group ≠ 0 ∧
      (let e := { entry with part := { entry.part with state := .late, outcome := 0x0300 } }
      entryValid settings e.host = true ∧ e.part.state ∈ [EntryState.late] ∧ e.host.requested = e.part.outcome) ∧
      (let e := { entry with part := { entry.part with staged := 0x0300 } }
      e.host.requested = e.part.staged ∧ e.part.state ≠ .unsure) ∧
      entryValid settings { entry.host with requested := 0 } = true ∧
      entryValid settings { entry.host with length := 1536 } = true ∧
      entryValid settings { entry.host with length := 1537 } = false ∧
      entryValid settings { entry.host with reference := 0x27F28 } = true ∧
      entryValid settings { entry.host with reference := 0x27F2C } = false := by decide +kernel

theorem witness_EntryReaderTakes :
    let n : Notice := { first := 4, span := 3, progress := 5 }
    let s := sweeping (passOf .opening) none
    let t : State := { s with sweep := { s.sweep with reread := [5] } }
    let u : State := { s with notices := [n] }
    t.settled = true ∧ t.sweep.hand = none ∧ t.sweep.reread = 5 :: [] ∧ t.sweep.aheadOfOpening 5 = true ∧
      t.sweep.aheadOfOpening 4 = false ∧ u.settled = true ∧ u.sweep.reread = [] ∧ u.notices = n :: [] ∧
      u.sweep.aheadOfOpening n.progress = true ∧ s.settled = true ∧ s.notices = [] ∧
      s.sweep.running = some { kind := .opening, cursor := 5, remaining := 3 } ∧ night.sweep.running = none := by
  decide +kernel

/-- A visit of a pass that has one entry left. -/
def lastVisit (k : PassKind) (pending : Bool) : State :=
  { inHand (.pass k) k.visit .reading with sweep := { (inHand (.pass k) k.visit .reading).sweep with
      running := some { kind := k, cursor := 39, remaining := 1 }, rescanPending := pending,
      suspended := if k = .changeover then passOf .rescan else none } }

theorem witness_EntryFinished :
    let h : HandSource → InHand := fun source =>
      { index := 5, source := source, visit := .plain, groups := [], phase := .reading }
    (inHand .notice .plain .reading).sweep.hand = some (h .notice) ∧
      (inHand .notice .plain .reading).notices = { first := 5, span := 1, progress := 5 } :: [] ∧
      (inHand .reread .plain .reading).sweep.hand = some (h .reread) ∧
      (inHand (.pass .rescan) .plain .reading).sweep.running = some { kind := .rescan, cursor := 5, remaining := 3 } ∧
      (inHand (.pass .rescan) .plain .reading).sweep.suspended = none ∧
      (lastVisit .changeover false).finishHand.sweep.running = passOf .rescan ∧
      (lastVisit .rescan false).finishHand.cmd.attn = 256 ∧
      ({ lastVisit .refill false with deferred := Vector.replicate 4 true } : State).finishHand.sweep.running =
        some { kind := .refill, cursor := 0, remaining := 40 } ∧
      (lastVisit .opening true).sweep.rescanPending = true ∧ (lastVisit .opening true).nightOn = true ∧
      (lastVisit .opening true).finishHand.sweep.running =
        some { kind := .rescan, cursor := 0, remaining := 40 } := by decide +kernel

theorem witness_EntryReadDone :
    let s := inHand .notice .plain (.read entryWords)
    let t : State := { s with due := cellPut s.due 0 [planned] }
    let u : State := { s with due := cellPut s.due 0 [planned.retire .staged] }
    let v : State := { s with due := cellPut s.due 0 [record] }
    s.settled = true ∧ s.sweep.hand.map (·.phase) = some (.read entryWords) ∧ s.findRecord 5 = none ∧
      evaluate settings (plainInput (s.groupDone entry.host.group) entry) = .item .deliver .stage ∧
      (inHand (.pass .opening) .opening (.read entryWords)).settled = true ∧
      (inHand (.pass .refill) .refill (.read entryWords)).settled = true ∧ entry.part.state ≠ .deferred ∧
      (decodeEntry (entryWords.set 4 1)).part.state = .deferred ∧
      t.settled = true ∧ t.findRecord 5 = some (0, planned) ∧ planned.state = .planned ∧
      u.settled = true ∧ (u.findRecord 5).map (·.2.state) = some .retiring ∧
      v.settled = true ∧ v.findRecord 5 = some (0, record) ∧ record.state = .waiting ∧
      (entry.host.cell = record.cell ∧ record.kind = .deliver ∧ record.mode = .stage) ∧
      entry.host.urgent = record.urgent ∧ (decodeEntry (entryWords.set 0 0x80012341)).host.urgent ≠ record.urgent := by
  decide +kernel

/-- Entry 5 STAGED with the version requested of it. -/
def stagedWords : List Word := [0x0012341, 0x00030102, 0x00C80300, 0x00020000, 0x3, 0x0300, 0x0300, 0]

theorem witness_ChangeoverVisit :
    let s := inHand (.pass .changeover) .changeover (.read stagedWords)
    let e := decodeEntry stagedWords
    s.settled = true ∧ s.sweep.hand.map (·.visit) = some .changeover ∧ e.host.group.toNat = (2 : GroupId).val + 1 ∧
      2 ∈ s.sweep.groupSet ∧ (3 : GroupId) ∉ s.sweep.groupSet ∧ s.findRecord 5 = none ∧ e.part.state = .staged ∧
      e.part.staged = e.host.requested ∧ (s.groupRec 2).gap.getLsbD e.host.cell.val = false ∧
      ((withGroup s { announced 52000 with gap := 1 }).groupRec 2).gap.getLsbD e.host.cell.val = true ∧
      (decodeEntry (entryWords.set 1 0x00000102)).host.group = 0 ∧
      (decodeEntry (stagedWords.set 2 0x00C80301)).part.staged ≠ (decodeEntry (stagedWords.set 2 0x00C80301)).host.requested ∧
      (decodeEntry (stagedWords.set 4 0x6)).part.state = .late ∧
      2 ^ 31 ≤ (((decodeEntry stagedWords).part.lastContact - 52000 : BeaconNo)).toNat ∧
      ({ s with due := cellPut s.due 0 [planned.retire .staged] } : State).findRecord 5 =
        some (0, planned.retire .staged) := by decide +kernel

theorem witness_SweepWritesAndMarks :
    let w : SweepWrite := { written := .shown, reportable := true, poll := none }
    let p : SweepWrite := { written := .unsure, reportable := true, poll := some entry }
    (inHand .notice .plain (.written w)).settled = true ∧
      (inHand .notice .plain (.entryMarked w)).settled = true ∧
      (inHand .notice .plain (.groupMarked w)).settled = true ∧
      (inHand (.pass .changeover) .changeover (.groupMarked p)).settled = true ∧
      (inHand (.pass .changeover) .changeover (.groupMarked p)).nightOn = true ∧
      ((inHand (.pass .changeover) .changeover (.groupMarked p)).dueAt entry.host.cell).length < 1024 ∧
      ({ inHand (.pass .changeover) .changeover (.groupMarked p) with cmd := (inState .stopping).cmd } : State).nightOn =
        false := by
  decide +kernel

def fetch (full headerTaken : Bool) (known : Option (BitVec 16)) (words : List Word) (offered : List Burst) : Fetch :=
  { elem := fetchElem, full := full, known := known, headerTaken := headerTaken, headerCheck := 0x9A3C, crc := crcStart,
    toOffer := [], offered := offered, delivered := [words] }

/-- The window with its item's fetch in progress. -/
def fetching (f : Fetch) : State :=
  { withSeq window fun q => { q with standing := some { plan with items := [{ item with status := .unready }] } } with
    fetch := { list := [], current := some f } }

theorem witness_FetchSteps :
    let header : List Word := [0x00C80300, 0x9A3C, 0, 0]
    let s := fetching (fetch false false (some 0x9A3C) header [])
    let t := fetching (fetch false true (some 0x9A3C) [0, 0] [{ offset := 192, words := 2 }])
    (let u : State := { window with fetch := { list := [fetchElem], current := none } }
    u.settled = true ∧ u.fetch.current = none ∧ u.fetch.list = fetchElem :: []) ∧
      s.settled = true ∧ s.recordIn 0 5 = some planned ∧
      s.itemAt 0 52000 0 = some { item with status := .unready } ∧
      (wordOf header 0).extractLsb' 0 16 = fetchElem.target ∧ (wordOf header 0).extractLsb' 16 16 = fetchElem.length ∧
      (wordOf header 1).extractLsb' 0 16 = 0x9A3C ∧
      payloadBursts 200 (fetch false false (some 0x9A3C) header []).reads = [{ offset := 192, words := 2 }] ∧
      t.settled = true ∧ t.recordIn 0 5 = some planned ∧ planned.state = .planned ∧
      ({ item with status := .unready } : PlanItem).live = true ∧
      payloadBursts 200 (List.range' 1 2 ++ [4]) =
        [{ offset := 48, words := 8 }, { offset := 80, words := 8 }, { offset := 112, words := 8 },
          { offset := 192, words := 2 }] := by
  decide +kernel

/-- Headers that disagree: a resend fetch restarts the content, a full fetch retires its record as CONTENT_BAD. -/
theorem witness_FetchFailures :
    let header : List Word := [0x00C80300, 0x9A3C, 0, 0]
    let s := fetching (fetch false false (some 0x9A3D) header [])
    let t := fetching (fetch true false none (header.set 0 0x00C80301) [])
    s.settled = true ∧ s.recordIn 0 5 = some planned ∧ s.itemAt 0 52000 0 = some { item with status := .unready } ∧
      item.index = fetchElem.index ∧ (wordOf header 1).extractLsb' 0 16 ≠ 0x9A3D ∧
      (after (exec .fetchHeaderRead s)).recordIn 0 5 =
        some { planned with state := .waiting, eligible := 52004, needed := [0, 1, 2, 3, 4] } ∧
      t.settled = true ∧ (wordOf (header.set 0 0x00C80301) 0).extractLsb' 0 16 ≠ fetchElem.target ∧
      (after (exec .fetchHeaderRead t)).wb.list = [5] := by decide +kernel

/-- The bursts of a full fetch: one with its successor offered, and a last one whose CRC disagrees. -/
theorem witness_FetchBursts :
    let b : Burst := { offset := 160, words := 8 }
    let f : Fetch := { fetch true true none (List.replicate 8 0) [b] with offered := [b, { offset := 192, words := 2 }] }
    let g := fetch true true none [0, 0] [{ offset := 192, words := 2 }]
    (fetching f).settled = true ∧ f.delivered = List.replicate 8 0 :: [] ∧ f.offered = b :: [{ offset := 192, words := 2 }] ∧
      (fetching g).settled = true ∧ g.toOffer = [] ∧ g.full = true ∧
      crcOver g.crc (payloadBytes 200 { offset := 192, words := 2 } [0, 0]) ≠ g.headerCheck ∧
      (let h : Fetch := { g with headerCheck := crcOver g.crc (payloadBytes 200 { offset := 192, words := 2 } [0, 0]) }
      (fetching h).settled = true) ∧
      ((after (exec .fetchBurstRead (fetching f))).fetch.current.map (·.offered)) =
        some [{ offset := 192, words := 2 }] := by decide +kernel

/-- The record of entry 5 retires with an outcome, its write-back at a given phase. -/
def retiring (outcome : EntryState) (phase : WriteBackPhase) : State :=
  { night with due := cellPut night.due 0 [planned.retire outcome], wb := { list := [5], phase := phase } }

theorem witness_WriteBackSteps :
    (retiring .staged .idle).settled = true ∧
      (retiring .staged .idle).headRecord = some (0, planned.retire .staged, .staged) ∧
      (retiring .staged .idle).sweepWrites 5 = false ∧
      (retiring .staged .partHalfWritten).headRecord = some (0, planned.retire .staged, .staged) ∧
      (retiring .deferred .partHalfWritten).headRecord = some (0, planned.retire .deferred, .deferred) ∧
      (retiring .staged .entryMarked).settled = true ∧ (retiring .staged .groupMarked).settled = true ∧
      (retiring .staged .groupMarked).sweep.reread.length < 4096 ∧
      (List.replicate 4096 0).length = 4096 ∧ (planned.retire .staged).reply = none ∧
      (let w : SweepWrite := { written := .queued, reportable := false, poll := none }
      let s : State := { retiring .staged .idle with sweep := (inHand .notice .plain (.writing w)).sweep }
      s.settled = true ∧ s.sweepWrites 5 = true) ∧
      let s : State := { retiring .deferred .partHalfWritten with
        sweep := (inHand (.pass .changeover) .changeover .awaitingRemoval).sweep }
      s.settled = true := by decide +kernel

/-- A night record write whose last burst has completed. -/
def recordWritten (s : State) (awaited : Bool) (waiting : Option Snapshot) : State :=
  { s with night :=
    { writeCount := 7, waiting := waiting,
      current := some { snapshot := { base := 0x32000, words := [], awaited := awaited }, offered := 84,
                        complete := true, cut := false } } }

theorem witness_NightRecordWriteDone :
    let running := fun (s : State) (r : Running) => { s with cmd := { s.cmd with inProgress := some r } }
    (recordWritten (running loaded (.load .unloaded (.recording 0))) true none).quiet = true ∧
      (recordWritten (running (inState .stopping) (.stop true)) true none).quiet = true ∧
      (recordWritten (running loaded (.abort .ok 4)) true none).quiet = true ∧
      (recordWritten night false none).quiet = true ∧
      (recordWritten night false (some { base := 0x32000, words := [], awaited := false })).quiet = true := by
  decide +kernel

theorem witness_BusHandshake :
    let s := holding night .writeBack (.pair 0x30000 5) 1
    let tr : Transfer := { requester := .writeBack, action := .pair 0x30000 5, orphan := false, checked := true }
    s.bus.current = some tr ∧ s.bus.bus = .holding ∧ tr.action = .pair 0x30000 5 ∧
      ({ s with bus := { s.bus with bus := .requesting } } : State).bus.bus = .requesting ∧
      ({ s with bus := { s.bus with bus := .backedOff } } : State).bus.bus = .backedOff ∧
      s.bus.burstLast = true ∧ s.bus.nextWord + 1 = 2 := by decide +kernel

theorem witness_WordComplete :
    let s := holding (inHand .notice .plain .reading) .entry (.read 0x100A0 8) 7
    let t : State := { s with bus := { s.bus with retry := true } }
    let tr : Transfer := { requester := .entry, action := .read 0x100A0 8, orphan := false, checked := true }
    s.quiet = true ∧ s.bus.bus = .holding ∧ s.bus.current = some tr ∧ tr.action.readsAt 7 = true ∧
      parityGood 1 0 = false ∧ parityGood 1 1 = true ∧ tr.action.words ≤ s.bus.nextWord + 1 ∧ s.bus.highest = none ∧
      (holding (inHand .notice .plain .reading) .entry (.read 0x100A0 8) 6).quiet = true ∧
      t.quiet = true ∧ t.bus.retry = true ∧ t.cmd.inProgress = none := by decide +kernel

/-- The other requesters with a last word to come: a payload burst with a successor left to offer, a write-back's part half, a
night record write that ABORT has cut, and LOAD's second burst. -/
theorem witness_WordCompleteRequesters :
    let f : Fetch := { fetch true true none (List.replicate 8 0) [] with toOffer := [{ offset := 192, words := 2 }] }
    let n : State := { night with night := { night.night with
      current := some { snapshot := { base := 0x32000, words := [], awaited := false }, offered := 8, complete := false,
                        cut := true },
      waiting := some { base := 0x32000, words := [], awaited := true } } }
    let l : State := { State.reset with cmd := { State.reset.cmd with
      controller := .loading, inProgress := some (.load .unloaded (.reading 0x1000 [1] (saved .off))) } }
    (holding (fetching f) .fetch (.read 0x200A0 8) 7).quiet = true ∧ f.toOffer = { offset := 192, words := 2 } :: [] ∧
      (fetching f).itemAt 0 52000 0 = some { item with status := .unready } ∧ (fetching f).recordIn 0 5 = some planned ∧
      (holding (retiring .staged .partHalf) .writeBack (.write 0x100B0 [0, 0, 0, 0]) 3).quiet = true ∧
      (holding n .night (.write 0x32000 [0]) 0).quiet = true ∧ n.night.waiting.isSome = true ∧
      (holding l .anchor (.read 0x1020 8) 7).quiet = true := by decide +kernel

theorem witness_OnlyTransfersWriteMemory :
    let s := holding night .writeBack (.write 0x100B0 [1, 2]) 1
    let tr : Transfer := { requester := .writeBack, action := .write 0x100B0 [1, 2], orphan := false, checked := true }
    s.bus.bus = .holding ∧ s.bus.current = some tr ∧ tr.wordBad s.bus.nextWord 0 0 = false ∧
      tr.action.writesAt s.bus.got s.bus.nextWord = some 2 ∧ night.settled = true ∧ night.bus.bus ≠ .holding ∧
      (holding night .entry (.read 0x10000 8) 0).settled = true ∧
      ({ s with bus := { s.bus with current := none } } : State).settled = true := by decide +kernel

theorem witness_TransferErrorFaults :
    let s := holding night .entry (.read 0x10000 8) 0
    s.cmd.waiting = none ∧ s.bus.bus = .holding ∧ s.cmd.inProgress = none ∧
      ({ s with cmd := { s.cmd with inProgress := some (.cellOn 1) } } : State).cmd.inProgress.isSome = true ∧
      (holding (loadProbing .quiet) .night (.write 0x32000 [0]) 0).cmd.inProgress =
        some (.load .loaded (.probing settings 0 (saved .quiet))) := by
  decide +kernel

/-- The invariants hold in states that are far from reset. -/
theorem witness_StepKeepsTheInvariants :
    Memory.wf [(0x100, 1), (0x101, 2)] = true ∧ night.settled = true ∧ night.withinCapacity = true ∧
      night.controllerFits = true ∧ (anchorRead anchor).controllerFits = true ∧
      (step { window with pending := [.itemSlotStart 0] } = exec (.itemSlotStart 0) window) := by
  refine ⟨by decide +kernel, by decide +kernel, by decide +kernel, by decide +kernel, by decide +kernel, rfl⟩

end Sys2Proof.Tests
end

