-- ==== Sys2Proof/Proofs/Notices.lean ====
section
/-! PROOFS. What a write to NOTICE does in each situation of R23, and that a write at NOTICE's offset is that write. -/

namespace Sys2Proof.Machine

/-! ### The range of a notice -/

section
variable {entryCount : Nat} {first : BitVec 16} (spanMinusOne : BitVec 16)

@[simp] theorem noticeRange_of_ge (h : entryCount ≤ first.toNat) : noticeRange entryCount first spanMinusOne = none :=
  if_neg (Nat.not_lt.mpr h)

@[simp] theorem noticeRange_of_lt (h : first.toNat < entryCount) :
    noticeRange entryCount first spanMinusOne =
      some { first := first.toNat, span := min (spanMinusOne.toNat + 1) (entryCount - first.toNat),
             progress := first.toNat } :=
  if_pos h

end

/-! ### What becomes of a notice -/

theorem State.nightOn_iff (s : State) :
    s.nightOn = true ↔ s.cmd.controller = .running ∨ s.cmd.controller = .paused := by
  simp [State.nightOn]

section
variable {s : State} {first : BitVec 16} (spanMinusOne : BitVec 16)

theorem State.takeNotice_of_not_nightOn (first : BitVec 16) (hoff : s.nightOn = false) :
    s.takeNotice first spanMinusOne = s := by
  simp [State.takeNotice, hoff]

theorem State.takeNotice_of_ge (hon : s.nightOn = true) (hrange : s.settings.entryCount ≤ first.toNat) :
    s.takeNotice first spanMinusOne = s := by
  simp [State.takeNotice, hon, hrange]

/-- With room in the queue, a notice that passes its range check joins the tail. -/
theorem State.takeNotice_of_lt (hon : s.nightOn = true) (hrange : first.toNat < s.settings.entryCount)
    (hroom : s.notices.length < Config.noticeCapacity) :
    s.takeNotice first spanMinusOne = s.setNotices (s.notices ++
      [{ first := first.toNat, span := min (spanMinusOne.toNat + 1) (s.settings.entryCount - first.toNat),
         progress := first.toNat }]) := by
  simp [State.takeNotice, hon, hrange, hroom]

end

/-! ### The two rows that write to NOTICE -/

theorem exec_notice (s : State) (first spanMinusOne : BitVec 16) :
    exec (.notice first spanMinusOne) s = .next (s.takeNotice first spanMinusOne) := rfl

theorem exec_otherRegisterWrite (s : State) (offset value : Word) :
    exec (.otherRegisterWrite offset value) s = .next (s.writeRegister offset value) := rfl

/-- NOTICE stands at offset 0x08, its first index in the low half of the word and its span in the high half (11.3). -/
theorem State.writeRegister_notice (s : State) (value : Word) :
    s.writeRegister 0x08 value = s.takeNotice (value.extractLsb' 0 16) (value.extractLsb' 16 16) := by
  simp [State.writeRegister]

/-- Settles O6, situation by situation of R23, each by the lemma that says what becomes of the notice there. -/
theorem noticeIsCheckedCutAndQueued : Obligations.NoticeIsCheckedCutAndQueued := by
  unfold Obligations.NoticeIsCheckedCutAndQueued
  intro s first spanMinusOne
  refine ⟨fun hoff => ?ignored, fun hon hrange => ?discarded, fun hon hrange hroom => ?queued, s.nightOn_iff,
    fun value => ?register⟩
  case ignored => rw [exec_notice, State.takeNotice_of_not_nightOn spanMinusOne first hoff]
  case discarded => rw [exec_notice, State.takeNotice_of_ge spanMinusOne hon hrange]
  case queued => rw [exec_notice, State.takeNotice_of_lt spanMinusOne hon hrange hroom, State.setNotices]
  case register => rw [exec_otherRegisterWrite, exec_notice, State.writeRegister_notice]

end Sys2Proof.Machine
end

