-- ==== Sys2Proof/Proofs/ItemResults.lean ====
section
/-! PROOFS. What the steps of R52 do to one due record: the effect of a good reply (R56, R57), the charges to health and attempts (R53,
R54), the threshold checks, the late policy (R61), and what the five steps together leave of health and outcome. -/

namespace Sys2Proof.Machine

/-! ### The health count (R53) -/

theorem healthAfter_le {health : Nat} (h : health ≤ 63) (res : ItemResult) : healthAfter health res ≤ 63 := by
  cases res <;> simp only [healthAfter] <;> omega

theorem DueRecord.writeBack_health (t : Settings) (r : DueRecord) (outcome : EntryState) :
    (r.writeBack t outcome).health = r.health := by
  unfold DueRecord.writeBack
  cases r.reply <;> rfl

/-! ### Step 1: what is heard (R56) -/

section
variable (t : Settings) (b : BeaconNo) (r : DueRecord) (res : ItemResult)

@[simp] theorem DueRecord.hear_health : (r.hear t b res).health = r.health := by
  cases res <;> rfl

@[simp] theorem DueRecord.hear_outcome : (r.hear t b res).outcome = r.outcome := by
  cases res <;> rfl

end

/-! ### Step 2: a good reply to a DELIVER item (R57) -/

section
variable {r : DueRecord} {y : Reply}

theorem deliverEffect_of_rejected (hy : y.kind = .rejected) : deliverEffect r y = r.ends .refused := by
  simp [deliverEffect, hy]

theorem deliverEffect_of_shown (hy : y.kind ≠ .rejected) (hs : y.shown = r.target) :
    deliverEffect r y = r.ends .shown := by
  simp [deliverEffect, hy, hs]

/-- The page is staged at the label: the work is over in mode STAGE, and is to show it in mode SHOW. -/
theorem deliverEffect_of_staged (hy : y.kind = .staged ∨ y.kind = .status) (hs : y.shown ≠ r.target)
    (hv : y.staged = r.target) :
    deliverEffect r y = if r.mode = .stage then r.ends .staged else { record := r.toDisplay, attempt := true } := by
  rcases hy with hy | hy <;> simp [deliverEffect, hy, hs, hv]

theorem deliverEffect_of_partly (hy : y.kind = .partly) (hs : y.shown ≠ r.target) :
    deliverEffect r y =
      { record := { r with
          needed := if missingSegments r.segments y.missing = [] then r.allSegments
            else missingSegments r.segments y.missing },
        attempt := true } := by
  simp [deliverEffect, hy, hs]

/-- The label shows or stages another version: the whole content is sent again. -/
theorem deliverEffect_of_otherVersion
    (hy : y.kind = .shown ∨ ((y.kind = .staged ∨ y.kind = .status) ∧ y.staged ≠ r.target))
    (hs : y.shown ≠ r.target) :
    deliverEffect r y = { record := { r with needed := r.allSegments }, attempt := true } := by
  rcases hy with hy | ⟨hy | hy, hv⟩
  · simp [deliverEffect, hy, hs]
  · simp [deliverEffect, hy, hs, hv]
  · simp [deliverEffect, hy, hs, hv]

theorem resultEffect_good_of_deliver (t : Settings) (done : Bool) (hk : r.kind = .deliver) :
    resultEffect t done r (.good y) = deliverEffect r y := by
  simp [resultEffect, hk]

end

/-! ### Step 2: what every effect keeps -/

/-- An effect on r moves only the outcome and the work still to be done, and an outcome it gives is one of those a reply can give. -/
def Effect.actsOn (e : Effect) (r : DueRecord) : Prop :=
  e.record = { r with outcome := e.record.outcome, kind := e.record.kind, mode := e.record.mode,
                      needed := e.record.needed, check := e.record.check } ∧
    (e.record.outcome = r.outcome ∨
      ∃ o ∈ [EntryState.refused, .shown, .staged, .late], e.record.outcome = some o)

theorem DueRecord.ends_actsOn (r : DueRecord) {o : EntryState} (h : o ∈ [EntryState.refused, .shown, .staged, .late]) :
    (r.ends o).actsOn r :=
  ⟨rfl, .inr ⟨o, h, rfl⟩⟩

theorem deliverEffect_actsOn (r : DueRecord) (y : Reply) : (deliverEffect r y).actsOn r := by
  unfold deliverEffect
  split_ifs
  · exact r.ends_actsOn (by decide)
  · exact r.ends_actsOn (by decide)
  · exact r.ends_actsOn (by decide)
  all_goals exact ⟨rfl, .inl rfl⟩

theorem displayEffect_actsOn (r : DueRecord) (y : Reply) : (displayEffect r y).actsOn r := by
  unfold displayEffect
  split_ifs
  · exact r.ends_actsOn (by decide)
  · exact r.ends_actsOn (by decide)
  all_goals exact ⟨rfl, .inl rfl⟩

theorem pollEffect_actsOn (policy : LatePolicy) (done : Bool) (r : DueRecord) (y : Reply) :
    (pollEffect policy done r y).actsOn r := by
  unfold pollEffect
  split_ifs
  · exact r.ends_actsOn (by decide)
  · exact r.ends_actsOn (by decide)
  · exact r.ends_actsOn (by decide)
  · exact ⟨rfl, .inl rfl⟩
  · exact ⟨rfl, .inl rfl⟩
  · exact ⟨rfl, .inl rfl⟩
  · exact r.ends_actsOn (by decide)
  · exact ⟨rfl, .inl rfl⟩

theorem resultEffect_actsOn (t : Settings) (done : Bool) (r : DueRecord) (res : ItemResult) :
    (resultEffect t done r res).actsOn r := by
  cases res with
  | good y =>
    simp only [resultEffect]
    cases r.kind with
    | deliver => exact deliverEffect_actsOn r y
    | display => exact displayEffect_actsOn r y
    | poll => exact pollEffect_actsOn t.policy done r y
  | damaged | noReply | lostAtPort | notSent => exact ⟨rfl, .inl rfl⟩

section
variable {e : Effect} {r : DueRecord}

theorem Effect.actsOn.health_eq (h : e.actsOn r) : e.record.health = r.health := by
  rw [h.1]

theorem Effect.actsOn.attempts_eq (h : e.actsOn r) : e.record.attempts = r.attempts := by
  rw [h.1]

theorem Effect.actsOn.outcome_ne_unreachable (h : e.actsOn r) (hr : r.outcome ≠ some .unreachable) :
    e.record.outcome ≠ some .unreachable := by
  obtain ⟨-, same | ⟨o, ho, given⟩⟩ := h
  · rwa [same]
  · rw [given]
    rintro ⟨⟩
    exact absurd ho (by decide)

end

/-! ### Step 3: the charges (R53, R54) -/

section
variable (t : Settings) (e : Effect) (res : ItemResult)

@[simp] theorem Effect.charge_health : (e.charge t res).health = healthAfter e.record.health res := rfl

@[simp] theorem Effect.charge_attempts :
    (e.charge t res).attempts = if e.attempt then min t.cap (e.record.attempts + 1) else e.record.attempts := rfl

@[simp] theorem Effect.charge_outcome : (e.charge t res).outcome = e.record.outcome := rfl

end

/-! ### Step 4: the threshold checks -/

@[simp] theorem DueRecord.threshold_health (t : Settings) (res : ItemResult) (r : DueRecord) :
    (r.threshold t res).health = r.health := by
  unfold DueRecord.threshold
  split_ifs <;> rfl

/-- At or below the health threshold the checks make no record UNREACHABLE. -/
theorem DueRecord.threshold_outcome_ne_unreachable {t : Settings} {r : DueRecord} (res : ItemResult)
    (hle : r.health ≤ t.threshold) (hr : r.outcome ≠ some .unreachable) :
    (r.threshold t res).outcome ≠ some .unreachable := by
  unfold DueRecord.threshold
  split_ifs with charged above
  · exact absurd above (Nat.not_lt.mpr hle)
  · simp
  · exact hr
  · exact hr

/-! ### Step 5: the late policy (R61) -/

section
variable {r : DueRecord}

theorem DueRecord.applyLate_of_clear (policy : LatePolicy) (h : r.lateAtFlip = false) : r.applyLate policy = r := by
  simp [DueRecord.applyLate, h]

theorem DueRecord.applyLate_of_staged (policy : LatePolicy) (h : r.lateAtFlip = true) (ho : r.outcome = some .staged) :
    r.applyLate policy =
      if policy = .holdOld then { r with lateAtFlip := false, outcome := some .late }
      else { r with lateAtFlip := false, outcome := none, kind := .display, mode := .display, needed := [] } := by
  simp [DueRecord.applyLate, h, ho, DueRecord.toDisplay]

theorem DueRecord.applyLate_of_staging (policy : LatePolicy) (h : r.lateAtFlip = true) (ho : r.outcome = none)
    (hk : r.kind = .deliver) (hm : r.mode = .stage) :
    r.applyLate policy =
      if policy = .holdOld then { r with lateAtFlip := false, outcome := some .late }
      else { r with lateAtFlip := false, mode := .display } := by
  simp [DueRecord.applyLate, h, ho, hk, hm]

theorem DueRecord.applyLate_of_other (policy : LatePolicy) (h : r.lateAtFlip = true) (ho : r.outcome ≠ some .staged)
    (hs : ¬(r.outcome = none ∧ r.kind = .deliver ∧ r.mode = .stage)) :
    r.applyLate policy = { r with lateAtFlip := false } := by
  unfold DueRecord.applyLate
  rw [if_pos h]
  split
  · next staged => exact absurd staged ho
  · rfl
  · next works => exact if_neg fun ⟨delivers, stages⟩ => hs ⟨works, delivers, stages⟩

end

/-- Every record falls under one of the four cases of the late policy. -/
theorem DueRecord.applyLate_cases (policy : LatePolicy) (r : DueRecord) :
    r.applyLate policy = r ∨ r.applyLate policy = { r with lateAtFlip := false } ∨
      r.applyLate policy = { r with lateAtFlip := false, outcome := some .late } ∨
      r.applyLate policy = { r with lateAtFlip := false, mode := .display } ∨
      r.applyLate policy =
        { r with lateAtFlip := false, outcome := none, kind := .display, mode := .display, needed := [] } := by
  by_cases late : r.lateAtFlip = true
  swap
  · exact .inl (r.applyLate_of_clear policy (by simpa using late))
  by_cases staged : r.outcome = some .staged
  · rw [DueRecord.applyLate_of_staged policy late staged]
    split_ifs <;> simp
  by_cases staging : r.outcome = none ∧ r.kind = .deliver ∧ r.mode = .stage
  · obtain ⟨works, delivers, stages⟩ := staging
    rw [DueRecord.applyLate_of_staging policy late works delivers stages]
    split_ifs <;> simp
  · exact .inr (.inl (DueRecord.applyLate_of_other policy late staged staging))

@[simp] theorem DueRecord.applyLate_health (policy : LatePolicy) (r : DueRecord) :
    (r.applyLate policy).health = r.health := by
  rcases r.applyLate_cases policy with e | e | e | e | e <;> rw [e]

theorem DueRecord.applyLate_outcome_ne_unreachable (policy : LatePolicy) {r : DueRecord}
    (hr : r.outcome ≠ some .unreachable) : (r.applyLate policy).outcome ≠ some .unreachable := by
  rcases r.applyLate_cases policy with e | e | e | e | e <;> simp [e, hr]

/-! ### Steps 1 to 5 together -/

/-- The record after steps 1 to 5 of R52, before step 6 moves its next eligible beacon. -/
def DueRecord.judged (t : Settings) (done : Bool) (b : BeaconNo) (res : ItemResult) (r : DueRecord) : DueRecord :=
  (((resultEffect t done (r.hear t b res) res).charge t res).threshold t res).applyLate t.policy

section
variable (t : Settings) (done : Bool) (b : BeaconNo) (r : DueRecord) (res : ItemResult)

theorem DueRecord.afterResult_eq_judged :
    r.afterResult t done b res =
      if (r.judged t done b res).outcome.isNone then
        { r.judged t done b res with
          eligible := eligibleAfter b (r.judged t done b res).k (r.judged t done b res).attempts res }
      else r.judged t done b res :=
  rfl

theorem DueRecord.judged_health : (r.judged t done b res).health = healthAfter r.health res := by
  simp [DueRecord.judged, (resultEffect_actsOn t done (r.hear t b res) res).health_eq]

theorem DueRecord.afterResult_health : (r.afterResult t done b res).health = healthAfter r.health res := by
  rw [DueRecord.afterResult_eq_judged, ← r.judged_health t done b res]
  split_ifs <;> rfl

theorem DueRecord.afterResult_outcome : (r.afterResult t done b res).outcome = (r.judged t done b res).outcome := by
  rw [DueRecord.afterResult_eq_judged]
  split_ifs <;> rfl

end

/-- While the charged health stays at or below the threshold, no step of R52 gives UNREACHABLE: no reply gives it, the checks do not,
and the late policy gives LATE alone. -/
theorem DueRecord.judged_outcome_ne_unreachable (t : Settings) (done : Bool) (b : BeaconNo) (res : ItemResult)
    {r : DueRecord} (hr : r.outcome ≠ some .unreachable) (hle : healthAfter r.health res ≤ t.threshold) :
    (r.judged t done b res).outcome ≠ some .unreachable := by
  have acts := resultEffect_actsOn t done (r.hear t b res) res
  have given : (resultEffect t done (r.hear t b res) res).record.outcome ≠ some .unreachable :=
    acts.outcome_ne_unreachable (by rwa [r.hear_outcome])
  exact DueRecord.applyLate_outcome_ne_unreachable t.policy
    (DueRecord.threshold_outcome_ne_unreachable res (by simpa [acts.health_eq] using hle) given)

/-! ### The late-at-flip flag: who sets it and what clears it (R61, R135) -/

theorem DueRecord.meetsFlip_of_planned_or_inAir (policy : LatePolicy) {r : DueRecord}
    (h : r.state = .planned ∨ r.state = .inAir) : r.meetsFlip policy r.group = { r with lateAtFlip := true } := by
  rcases h with h | h <;> simp [DueRecord.meetsFlip, h]

@[simp] theorem DueRecord.retire_outcome (r : DueRecord) (o : EntryState) : (r.retire o).outcome = some o := rfl

@[simp] theorem DueRecord.retire_lateAtFlip (r : DueRecord) (o : EntryState) : (r.retire o).lateAtFlip = false := rfl

end Sys2Proof.Machine
end

