-- ==== Sys2Proof/Proofs/DueLists.lean ====
section
/-! PROOFS. The statements about item results and due records: health (R53), replies to DELIVER items (R57) and the late-at-flip flag
(R61). -/

namespace Sys2Proof.Machine

/-- Settles O39: every result moves health by its weight alone, and a health of at most 63 never exceeds a threshold of 63. -/
theorem healthMoves : Obligations.HealthMoves := by
  unfold Obligations.HealthMoves
  intro t done b r hle
  refine ⟨fun y => r.afterResult_health t done b (.good y), r.afterResult_health t done b .damaged,
    r.afterResult_health t done b .noReply, r.afterResult_health t done b .lostAtPort,
    r.afterResult_health t done b .notSent, r.writeBack_health t, fun p => rfl, fun hT hr res => ?neverUnreachable⟩
  case neverUnreachable =>
    rw [r.afterResult_outcome]
    exact DueRecord.judged_outcome_ne_unreachable t done b res (by simp [hr]) (hT ▸ healthAfter_le hle res)

/-- Settles O40, step by step of R57, each by the equation of the effect there. -/
theorem deliverReplies : Obligations.DeliverReplies := by
  unfold Obligations.DeliverReplies
  intro t done r y hk e missing
  have effect : e = deliverEffect r y := resultEffect_good_of_deliver t done hk
  have acts : e.actsOn r := resultEffect_actsOn t done r (.good y)
  refine ⟨fun rejected => ?rejected, fun taken shows => ?shown,
    fun taken other => ⟨fun stages version => ?staged, fun partly => ?partly, fun again => ?otherVersion⟩, ?health, ?attempts⟩
  case rejected => simp [effect, deliverEffect_of_rejected rejected, DueRecord.ends]
  case shown => simp [effect, deliverEffect_of_shown taken shows, DueRecord.ends]
  case staged =>
    rw [effect, deliverEffect_of_staged stages other version]
    refine ⟨fun mode => ?stage, fun mode => ?display⟩
    case stage => simp [mode, DueRecord.ends]
    case display => simp [mode, DueRecord.toDisplay]
  case partly =>
    rw [effect, deliverEffect_of_partly partly other]
    exact ⟨rfl, rfl⟩
  case otherVersion =>
    rw [effect, deliverEffect_of_otherVersion again other]
    exact ⟨rfl, rfl⟩
  case health => rw [Effect.charge_health, acts.health_eq, healthAfter]
  case attempts => rw [Effect.charge_attempts, acts.attempts_eq]

/-- Settles O43: the cases of the late policy, the flip unit's mark, and a retirement. -/
theorem lateAtFlip : Obligations.LateAtFlip := by
  unfold Obligations.LateAtFlip
  intro policy r
  refine ⟨r.applyLate_of_clear policy, fun late => ⟨fun staged hold => ?stagedHeld, fun staged arrive => ?stagedShown,
    fun staging hold => ?stagingHeld, fun staging arrive => ?stagingShown, DueRecord.applyLate_of_other policy late⟩,
    DueRecord.meetsFlip_of_planned_or_inAir policy, r.retire_outcome .contentBad, r.retire_lateAtFlip .contentBad⟩
  case stagedHeld => rw [DueRecord.applyLate_of_staged policy late staged, if_pos hold]
  case stagedShown => rw [DueRecord.applyLate_of_staged policy late staged, if_neg (by simp [arrive])]
  case stagingHeld =>
    obtain ⟨works, delivers, stages⟩ := staging
    rw [DueRecord.applyLate_of_staging policy late works delivers stages, if_pos hold]
  case stagingShown =>
    obtain ⟨works, delivers, stages⟩ := staging
    rw [DueRecord.applyLate_of_staging policy late works delivers stages, if_neg (by simp [arrive])]

end Sys2Proof.Machine
end

