-- ==== Sys2Proof/Proofs/FlipAnnouncements.lean ====
section
/-! PROOFS. FLIP_AT test by test and the announcement it makes (R129), and the notices a beacon carries, group by group (R130). -/

namespace Sys2Proof.Machine

/-! ### A free command unit -/

theorem State.free_iff (s : State) :
    s.free = true ↔ s.cmd.inProgress = none ∧ s.cmd.waiting = none ∧ s.settled = true := by
  simp [State.free, and_assoc]

/-- Whether the command unit is free does not depend on the flip unit. -/
@[simp] theorem State.setFlip_free (s : State) (v : FlipUnit) : (s.setFlip v).free = s.free := rfl

/-- A command that completes at once leaves a settled state settled, so the step ends with its completion (R175). -/
theorem State.conclude_finish {s : State} (hfree : s.free = true) (code : ResultCode) (value : Nat) :
    (s.finish code value).conclude = s.finish code value := by
  obtain ⟨_, hwaiting, hsettled⟩ := s.free_iff.1 hfree
  obtain ⟨_, _, hports, hbus⟩ := s.settled_iff.1 hsettled
  obtain ⟨a, v, hfinish⟩ := s.finish_frame code value
  rw [hfinish]
  exact State.conclude_settled _ ((State.settled_iff _).2 ⟨.inr hwaiting, by simp [State.drainDue], hports, hbus⟩)

/-- A free command unit takes a command as it is written (R175). -/
theorem State.queueCommand_of_free {s : State} (hfree : s.free = true) (c : HostCommand) :
    s.queueCommand c = s.takeCommand c := by
  obtain ⟨hidle, hwaiting, _⟩ := s.free_iff.1 hfree
  simp [State.queueCommand, hidle, hwaiting]

/-! ### Groups and K -/

@[simp] theorem groupIndex_zero : groupIndex 0#4 = none := rfl

theorem groupIndex_of_toNat {group : BitVec 4} {g : GroupId} (h : group.toNat = g.val + 1) :
    groupIndex group = some g := by
  simp [groupIndex, h]

theorem groupAt_groupPut {α : Type} (v : PerGroup α) (g d : GroupId) (x : α) :
    groupAt (groupPut v g x) d = if d = g then x else groupAt v d := by
  split
  · next h => rw [h, groupAt_groupPut_same]
  · next h => rw [groupAt_groupPut_other v g d x h]

theorem Settings.bigK_eq (t : Settings) :
    t.bigK = max (max (max (cellAt t.cells 0).ceiling.toNat (cellAt t.cells 1).ceiling.toNat)
      (cellAt t.cells 2).ceiling.toNat) (cellAt t.cells 3).ceiling.toNat := by
  simp [Settings.bigK, allCells]

theorem Settings.ceiling_le_bigK (t : Settings) (c : CellId) : (cellAt t.cells c).ceiling.toNat ≤ t.bigK := by
  rw [t.bigK_eq]
  rcases CellId.cases c with rfl | rfl | rfl | rfl <;> simp

theorem Settings.exists_ceiling_eq_bigK (t : Settings) : ∃ c : CellId, (cellAt t.cells c).ceiling.toNat = t.bigK := by
  obtain ⟨c, hc⟩ : ∃ c : CellId, max (max (cellAt t.cells 0).ceiling.toNat (cellAt t.cells 1).ceiling.toNat)
      (cellAt t.cells 2).ceiling.toNat = (cellAt t.cells c).ceiling.toNat := by
    rcases max_choice (max (cellAt t.cells 0).ceiling.toNat (cellAt t.cells 1).ceiling.toNat)
      (cellAt t.cells 2).ceiling.toNat with h | h
    · rcases max_choice (cellAt t.cells 0).ceiling.toNat (cellAt t.cells 1).ceiling.toNat with h' | h'
      · exact ⟨0, h.trans h'⟩
      · exact ⟨1, h.trans h'⟩
    · exact ⟨2, h⟩
  rw [t.bigK_eq, hc]
  rcases max_choice (cellAt t.cells c).ceiling.toNat (cellAt t.cells 3).ceiling.toNat with h | h
  · exact ⟨c, h.symm⟩
  · exact ⟨3, h.symm⟩

/-! ### The tests of FLIP_AT in their order (R129) -/

/-- The announcement of a flip a given number of beacons ahead (R129). -/
def State.announceFlip (s : State) (g : GroupId) (distance : Nat) : State :=
  s.setFlip { s.flip with groups := groupPut s.flip.groups g { s.groupRec g with
    state := .announced, flipBeacon := s.timer.now + BitVec.ofNat 32 distance, announce := s.timer.now, gap := 0 } }

section
variable {s : State} {group : BitVec 4} {g : GroupId} (delta : BitVec 20)

theorem State.takeFlipAt_of_not_nightOn (group : BitVec 4) (hoff : s.nightOn = false) :
    s.takeFlipAt group delta = s.finish .wrongState 0 := by
  simp [State.takeFlipAt, hoff, State.wrongState]

theorem State.takeFlipAt_zero (hon : s.nightOn = true) : s.takeFlipAt 0 delta = s.finish .badArgument 0 := by
  simp [State.takeFlipAt, hon]

theorem State.takeFlipAt_of_done (hon : s.nightOn = true) (hg : group.toNat = g.val + 1)
    (hdone : (s.groupRec g).state = .done) : s.takeFlipAt group delta = s.finish .groupDone 0 := by
  simp [State.takeFlipAt, hon, groupIndex_of_toNat hg, hdone]

theorem State.takeFlipAt_of_pending (hon : s.nightOn = true) (hg : group.toNat = g.val + 1)
    (hpending : (s.groupRec g).state = .announced ∨ (s.groupRec g).state = .cancelling) :
    s.takeFlipAt group delta = s.finish .flipPending 0 := by
  rcases hpending with h | h <;> simp [State.takeFlipAt, hon, groupIndex_of_toNat hg, h]

/-- A delta below 2^K is raised to it. -/
theorem State.takeFlipAt_of_lt (hon : s.nightOn = true) (hg : group.toNat = g.val + 1)
    (hopened : (s.groupRec g).state = .opened) (hraised : delta.toNat < 2 ^ s.settings.bigK) :
    s.takeFlipAt group delta =
      (s.announceFlip g (2 ^ s.settings.bigK)).finish .clamped (2 ^ s.settings.bigK) := by
  simp [State.takeFlipAt, State.announceFlip, State.modGroup, hon, groupIndex_of_toNat hg, hopened, hraised, hraised.le]

/-- A delta of at least 2^K stands as it is. -/
theorem State.takeFlipAt_of_ge (hon : s.nightOn = true) (hg : group.toNat = g.val + 1)
    (hopened : (s.groupRec g).state = .opened) (hkept : 2 ^ s.settings.bigK ≤ delta.toNat) :
    s.takeFlipAt group delta = (s.announceFlip g delta.toNat).finish .ok delta.toNat := by
  simp [State.takeFlipAt, State.announceFlip, State.modGroup, hon, groupIndex_of_toNat hg, hopened, hkept, hkept.not_gt]

/-- Each outcome of FLIP_AT completes the command, so the step answers it as it stands. -/
theorem exec_flipAt_of_finish {u : State} {code : ResultCode} {value : Nat} (hs : s.free = true) (hu : u.free = true)
    (h : s.takeFlipAt group delta = u.finish code value) :
    exec (.flipAt group delta) s = .next (u.finish code value) := by
  have written : exec (.flipAt group delta) s = .next (s.queueCommand (.flipAt group delta)).conclude := rfl
  rw [written, State.queueCommand_of_free hs, State.takeCommand, h, State.conclude_finish hu]

end

/-- Settles O20, test by test of R129, each by the equation of FLIP_AT there. -/
theorem flipAtAnnounces : Obligations.FlipAtAnnounces := by
  unfold Obligations.FlipAtAnnounces
  intro s group delta hfree
  refine ⟨fun hrun hpause => ?wrongState, fun night => ?tests, fun g d => groupAt_groupPut s.flip.groups g d,
    s.settings.ceiling_le_bigK, s.settings.exists_ceiling_eq_bigK⟩
  case wrongState =>
    have hoff : s.nightOn = false := by simp [State.nightOn, hrun, hpause]
    exact exec_flipAt_of_finish delta hfree hfree (State.takeFlipAt_of_not_nightOn delta group hoff)
  case tests =>
    have hon : s.nightOn = true := s.nightOn_iff.2 night
    refine ⟨fun hzero => ?badArgument, fun g hg => ⟨fun hdone => ?groupDone, fun hpending => ?flipPending,
      fun hopened => ?announced⟩⟩
    case badArgument =>
      subst hzero
      exact exec_flipAt_of_finish delta hfree hfree (State.takeFlipAt_zero delta hon)
    case groupDone =>
      exact exec_flipAt_of_finish delta hfree hfree (State.takeFlipAt_of_done delta hon hg hdone)
    case flipPending =>
      exact exec_flipAt_of_finish delta hfree hfree (State.takeFlipAt_of_pending delta hon hg hpending)
    case announced =>
      intro raised distance
      have announces : ∀ n, (s.announceFlip g n).free = true := fun _ => (s.setFlip_free _).trans hfree
      by_cases hlt : delta.toNat < 2 ^ s.settings.bigK
      · simp only [distance, raised, hlt, decide_true, if_true]
        exact exec_flipAt_of_finish delta hfree (announces _) (State.takeFlipAt_of_lt delta hon hg hopened hlt)
      · simp only [distance, raised, hlt, decide_false, Bool.false_eq_true, if_false]
        exact exec_flipAt_of_finish delta hfree (announces _)
          (State.takeFlipAt_of_ge delta hon hg hopened (Nat.le_of_not_lt hlt))

/-! ### Beacon comparisons (R1) -/

theorem atOrAfter_iff (b e : BeaconNo) : atOrAfter b e = true ↔ (b - e).toNat < 2 ^ 31 := decide_eq_true_iff

theorem afterBeacon_iff (b e : BeaconNo) : afterBeacon b e = true ↔ (b - e).toNat < 2 ^ 31 ∧ b ≠ e := by
  rw [afterBeacon, Bool.and_eq_true, atOrAfter_iff, bne_iff_ne]

theorem beforeBeacon_iff (b e : BeaconNo) : beforeBeacon b e = true ↔ 2 ^ 31 ≤ (b - e).toNat := by
  rw [beforeBeacon, Bool.not_eq_true', ← Bool.not_eq_true, atOrAfter_iff, Nat.not_lt]

/-! ### The notices of a beacon (R130) -/

/-- What the notice of one group can be, by the group's state. -/
theorem GroupRecord.notice_eq_some_iff (r : GroupRecord) (g : GroupId) (b : BeaconNo) (n : FlipNotice) :
    r.notice g b = some n ↔ n.group = g ∧ n.beacon = r.flipBeacon ∧
      ((r.state = .announced ∧ n.cancel = false ∧ afterBeacon b r.announce = true ∧ atOrAfter r.flipBeacon b = true) ∨
        (r.state = .cancelling ∧ n.cancel = true ∧ afterBeacon b r.cancel = true ∧
          beforeBeacon b r.flipBeacon = true)) := by
  obtain ⟨group, cancel, beacon⟩ := n
  unfold GroupRecord.notice
  cases r.state with
  | announced => grind
  | cancelling => grind
  | opened => simp
  | done => simp

/-- A beacon's notices are those of the groups, and each names its own group. -/
theorem State.mem_flipNotices_iff (s : State) (b : BeaconNo) (n : FlipNotice) :
    n ∈ s.flipNotices b ↔ (s.groupRec n.group).notice n.group b = some n := by
  rw [State.flipNotices, List.mem_filterMap]
  constructor
  · rintro ⟨g, _, hn⟩
    obtain ⟨hgroup, _⟩ := ((s.groupRec g).notice_eq_some_iff g b n).1 hn
    rwa [hgroup]
  · exact fun hn => ⟨n.group, mem_allGroups _, hn⟩

theorem allGroups_pairwise_lt : allGroups.Pairwise (· < ·) := by decide

/-- The groups are asked in ascending order, and each has at most one notice. -/
theorem State.flipNotices_pairwise (s : State) (b : BeaconNo) :
    (s.flipNotices b).Pairwise fun m n => m.group < n.group := by
  refine List.Pairwise.filterMap _ (fun g h hlt m hm n hn => ?_) allGroups_pairwise_lt
  obtain ⟨hmg, _⟩ := ((s.groupRec g).notice_eq_some_iff g b m).1 hm
  obtain ⟨hnh, _⟩ := ((s.groupRec h).notice_eq_some_iff h b n).1 hn
  rwa [hmg, hnh]

/-- Settles O22: a notice is in the list just when its group gives it, and the list keeps the order of the groups. -/
theorem flipNotices : Obligations.FlipNotices := by
  unfold Obligations.FlipNotices
  refine fun s b => ⟨fun n => ?_, s.flipNotices_pairwise b⟩
  rw [s.mem_flipNotices_iff, GroupRecord.notice_eq_some_iff]
  simp only [afterBeacon_iff, atOrAfter_iff, beforeBeacon_iff, true_and, and_assoc]

end Sys2Proof.Machine
end

section
/-! PROOFS. Steps that leave the command unit's course alone: a relation between states that every operation of the engines, the
passes, the windows and the links meets, one lemma per operation. It keeps the controller state, the command in progress, the waiting
command and whether the beacon timer runs, and every list stays within its capacity (R24, R27, R42, R175, R178). -/

namespace Sys2Proof.Machine

/-! ### Capacities -/

theorem State.withinCapacity_iff (s : State) :
    s.withinCapacity = true ↔ s.notices.length ≤ Config.noticeCapacity ∧
      s.sweep.reread.length ≤ Config.rereadCapacity ∧ s.sweep.reread.Nodup ∧
      ∀ c, (s.dueAt c).length ≤ Config.dueCapacity := by
  simp only [State.withinCapacity, Bool.and_eq_true, decide_eq_true_eq, List.all_eq_true, mem_allCells,
    forall_const, and_assoc]

/-! ### The relation -/

/-- The course of the command unit goes on from s to t as it was, and the lists of t hold no more than they may. -/
structure State.Calm (s t : State) : Prop where
  controller : t.cmd.controller = s.cmd.controller
  inProgress : t.cmd.inProgress = s.cmd.inProgress
  waiting : t.cmd.waiting = s.cmd.waiting
  timer : t.timer.schedule.isSome = s.timer.schedule.isSome
  capacity : s.withinCapacity = true → t.withinCapacity = true

theorem State.Calm.refl (s : State) : s.Calm s := ⟨rfl, rfl, rfl, rfl, id⟩

theorem State.Calm.trans {s t u : State} (h : s.Calm t) (k : t.Calm u) : s.Calm u :=
  ⟨k.controller.trans h.controller, k.inProgress.trans h.inProgress, k.waiting.trans h.waiting,
    k.timer.trans h.timer, k.capacity ∘ h.capacity⟩

theorem State.Calm.foldl {α : Type} {f : State → α → State} (h : ∀ s x, State.Calm s (f s x)) (l : List α) (s : State) :
    s.Calm (l.foldl f s) := by
  induction l generalizing s with
  | nil => exact .refl s
  | cons x rest ih => exact (h s x).trans (ih (f s x))

theorem State.Calm.forCells {f : State → CellId → State} (h : ∀ s c, State.Calm s (f s c)) (s : State) :
    s.Calm (Machine.forCells f s) :=
  .foldl h allCells s

theorem State.Calm.nightOn {s t : State} (h : s.Calm t) : t.nightOn = s.nightOn := by
  simp only [State.nightOn, h.controller]

/-! ### Blocks -/

theorem State.setSweep_calm (s : State) {v : Sweep} (h : v.reread.Sublist s.sweep.reread := by exact .refl _) :
    s.Calm (s.setSweep v) where
  controller := rfl
  inProgress := rfl
  waiting := rfl
  timer := rfl
  capacity := by
    simp only [State.withinCapacity_iff]
    rintro ⟨hn, hr, hd, hl⟩
    exact ⟨hn, h.length_le.trans hr, h.nodup hd, hl⟩

theorem State.setNotices_calm (s : State) {v : List Notice} (h : v.length ≤ s.notices.length) :
    s.Calm (s.setNotices v) where
  controller := rfl
  inProgress := rfl
  waiting := rfl
  timer := rfl
  capacity := by
    simp only [State.withinCapacity_iff]
    rintro ⟨hn, hr, hd, hl⟩
    exact ⟨h.trans hn, hr, hd, hl⟩

theorem State.modDue_within (s : State) (c : CellId) {f : List DueRecord → List DueRecord}
    (h : s.withinCapacity = true) (hf : (f (s.dueAt c)).length ≤ Config.dueCapacity) :
    (s.modDue c f).withinCapacity = true := by
  rw [State.withinCapacity_iff] at h ⊢
  obtain ⟨hn, hr, hd, hl⟩ := h
  refine ⟨hn, hr, hd, fun d => ?_⟩
  by_cases hdc : d = c
  · rwa [hdc, State.modDue_dueAt]
  · rw [State.modDue_dueAt_other s c d f hdc]
    exact hl d

theorem State.modDue_calm (s : State) (c : CellId) {f : List DueRecord → List DueRecord}
    (h : (f (s.dueAt c)).length ≤ (s.dueAt c).length) : s.Calm (s.modDue c f) where
  controller := rfl
  inProgress := rfl
  waiting := rfl
  timer := rfl
  capacity hs := s.modDue_within c hs (h.trans (((s.withinCapacity_iff.1 hs).2.2.2) c))

theorem State.modPort_calm (s : State) (c : CellId) (f : RadioPort → RadioPort) : s.Calm (s.modPort c f) :=
  ⟨rfl, rfl, rfl, rfl, id⟩

theorem State.modSeq_calm (s : State) (c : CellId) (f : Sequencer → Sequencer) : s.Calm (s.modSeq c f) :=
  ⟨rfl, rfl, rfl, rfl, id⟩

theorem State.modStore_calm (s : State) (c : CellId) (f : List SegBuffer → List SegBuffer) : s.Calm (s.modStore c f) :=
  ⟨rfl, rfl, rfl, rfl, id⟩

theorem State.setBus_calm (s : State) (v : MemoryPort) : s.Calm (s.setBus v) := ⟨rfl, rfl, rfl, rfl, id⟩

theorem State.setFetch_calm (s : State) (v : FetchEngine) : s.Calm (s.setFetch v) := ⟨rfl, rfl, rfl, rfl, id⟩

theorem State.setStore_calm (s : State) (v : PerCell (List SegBuffer)) : s.Calm (s.setStore v) :=
  ⟨rfl, rfl, rfl, rfl, id⟩

theorem State.setFlip_calm (s : State) (v : FlipUnit) : s.Calm (s.setFlip v) := ⟨rfl, rfl, rfl, rfl, id⟩

theorem State.setPort_calm (s : State) (v : PerCell RadioPort) : s.Calm (s.setPort v) := ⟨rfl, rfl, rfl, rfl, id⟩

theorem State.setNight_calm (s : State) (v : NightWriter) : s.Calm (s.setNight v) := ⟨rfl, rfl, rfl, rfl, id⟩

theorem State.setCounts_calm (s : State) (v : NightCounts) : s.Calm (s.setCounts v) := ⟨rfl, rfl, rfl, rfl, id⟩

theorem State.setWb_calm (s : State) (v : WriteBack) : s.Calm (s.setWb v) := ⟨rfl, rfl, rfl, rfl, id⟩

theorem State.setShared_calm (s : State) (v : Memory) : s.Calm (s.setShared v) := ⟨rfl, rfl, rfl, rfl, id⟩

theorem State.raise_calm (s : State) (c : Cause) : s.Calm (s.raise c) := ⟨rfl, rfl, rfl, rfl, id⟩

theorem State.report_calm (s : State) (e : EntryState) : s.Calm (s.report e) := ⟨rfl, rfl, rfl, rfl, id⟩

theorem State.memFault_calm (s : State) : s.Calm s.memFault := ⟨rfl, rfl, rfl, rfl, id⟩

theorem State.offer_calm (s : State) (r : Requester) (a : Action) : s.Calm (s.offer r a) := ⟨rfl, rfl, rfl, rfl, id⟩

theorem State.deferCell_calm (s : State) (c : CellId) : s.Calm (s.deferCell c) := ⟨rfl, rfl, rfl, rfl, id⟩

theorem State.clearDeferred_calm (s : State) : s.Calm s.clearDeferred := ⟨rfl, rfl, rfl, rfl, id⟩

/-! ### Retirements (R63) -/

theorem State.enqueueWriteBack_calm (s : State) (l : List Nat) : s.Calm (s.enqueueWriteBack l) := by
  obtain ⟨w, n, h⟩ := s.enqueueWriteBack_frame l
  rw [h]
  exact ⟨rfl, rfl, rfl, rfl, id⟩

theorem State.modDue_map_calm (s : State) (c : CellId) (f : DueRecord → DueRecord) :
    s.Calm (s.modDue c fun l => l.map f) :=
  s.modDue_calm c (List.length_map f).le

theorem State.retireIn_calm (p : DueRecord → Bool) (o : EntryState) (s : State) (c : CellId) :
    s.Calm (s.retireIn p o c) :=
  (s.modDue_map_calm c _).trans (State.enqueueWriteBack_calm _ _)

theorem State.retireWhere_calm (s : State) (p : DueRecord → Bool) (o : EntryState) : s.Calm (s.retireWhere p o) :=
  .forCells (State.retireIn_calm p o) s

theorem State.modRecord_calm (s : State) (c : CellId) (i : Nat) (f : DueRecord → DueRecord) :
    s.Calm (s.modRecord c i f) :=
  s.modDue_map_calm c _

theorem State.retireRecord_calm (s : State) (c : CellId) (i : Nat) (o : EntryState) (f : DueRecord → DueRecord) :
    s.Calm (s.retireRecord c i o f) :=
  (s.modRecord_calm c i _).trans (State.enqueueWriteBack_calm _ _)

/-! ### Passes (R29 to R33) -/

theorem State.rescanRetirement_calm (s : State) : s.Calm s.rescanRetirement :=
  s.clearDeferred_calm.trans (State.retireWhere_calm _ _ _)

theorem State.rescanRequest_calm (s : State) : s.Calm s.rescanRequest := by
  have begins : ∀ v : Sweep, v.reread = s.sweep.reread → s.Calm (s.setSweep v).rescanRetirement :=
    fun v h => (s.setSweep_calm (h ▸ .refl _)).trans (State.rescanRetirement_calm _)
  unfold State.rescanRequest
  split
  · exact .refl s
  · split
    · exact s.setSweep_calm
    · split
      · exact begins _ rfl
      · split
        · exact begins _ rfl
        · split <;> exact begins _ rfl

theorem State.beginRefill_calm (s : State) : s.Calm s.beginRefill :=
  s.setSweep_calm.trans (State.clearDeferred_calm _)

theorem State.refillRequest_calm (s : State) : s.Calm s.refillRequest := by
  unfold State.refillRequest
  split
  · exact s.beginRefill_calm
  · exact .refl s

theorem State.refillCheck_calm (s : State) : s.Calm s.refillCheck := by
  unfold State.refillCheck
  split
  · exact s.refillRequest_calm
  · exact .refl s

theorem State.changeoverRequest_calm (s : State) (g : GroupId) : s.Calm (s.changeoverRequest g) := by
  unfold State.changeoverRequest
  split
  · exact .refl s
  · split <;> exact s.setSweep_calm

theorem State.passComplete_calm (s : State) (k : PassKind) : s.Calm (s.passComplete k) := by
    cases k with
  | changeover => exact s.setSweep_calm.trans (State.refillCheck_calm _)
  | refill => exact s.setSweep_calm.trans (State.refillCheck_calm _)
  | rescan => exact (s.setSweep_calm.trans (State.raise_calm _ _)).trans (State.refillCheck_calm _)
  | opening =>
    have ended := (s.setSweep_calm (v := s.sweep.dropPass .opening)).trans (State.raise_calm _ .sweepDone)
    simp only [State.passComplete]
    split
    · exact ended.trans ((State.setSweep_calm _).trans (State.rescanRequest_calm _))
    · exact ended.trans (State.refillCheck_calm _)

theorem State.advancePass_calm (s : State) (k : PassKind) : s.Calm (s.advancePass k) := by
  unfold State.advancePass
  dsimp only
  split
  · exact s.setSweep_calm.trans (State.passComplete_calm _ _)
  · exact s.setSweep_calm

theorem advanceNotice_length_le (l : List Notice) : (advanceNotice l).length ≤ l.length := by
  cases l with
  | nil => exact le_rfl
  | cons n rest =>
    simp only [advanceNotice]
    split <;> simp

theorem State.finishHand_calm (s : State) : s.Calm s.finishHand := by
  have frees : s.Calm (s.setSweep { s.sweep with hand := none }) := s.setSweep_calm
  unfold State.finishHand
  split
  · exact .refl s
  · split
    · exact frees
    · exact frees
    · exact frees.trans (State.setNotices_calm _ (advanceNotice_length_le _))
    · exact frees.trans (State.advancePass_calm _ _)

/-- An index joins the re-read list only while there is room and it is not listed yet (R27). -/
theorem State.joinReread_calm (s : State) (i : Nat) : s.Calm (s.joinReread i) := by
  unfold State.joinReread
  split
  · exact s.rescanRequest_calm
  · split
    · exact .refl s
    · next room new =>
      refine ⟨rfl, rfl, rfl, rfl, ?_⟩
      simp only [State.withinCapacity_iff]
      rintro ⟨hn, hr, hd, hl⟩
      refine ⟨hn, ?_, hd.append (List.nodup_singleton i) (by simpa using new), hl⟩
      have grown : (s.sweep.reread ++ [i]).length = s.sweep.reread.length + 1 := by simp
      exact grown.trans_le (Nat.not_le.1 room)

/-! ### Night record writes (R172) -/

theorem State.nightDue_calm (s : State) (w : Bool) : s.Calm (s.nightDue w) := by
  obtain ⟨n, b, h⟩ := s.nightDue_frame w
  rw [h]
  exact ⟨rfl, rfl, rfl, rfl, id⟩

theorem State.endNightWrite_calm (s : State) : s.Calm s.endNightWrite := by
  obtain ⟨n, b, h⟩ := s.endNightWrite_frame
  rw [h]
  exact ⟨rfl, rfl, rfl, rfl, id⟩

theorem State.nightBurstDone_calm (s : State) : s.Calm s.nightBurstDone := by
  obtain ⟨n, b, h⟩ := s.nightBurstDone_frame
  rw [h]
  exact ⟨rfl, rfl, rfl, rfl, id⟩

theorem State.nightAbort_calm (s : State) : s.Calm s.nightAbort := by
  obtain ⟨n, b, h⟩ := s.nightAbort_frame
  rw [h]
  exact ⟨rfl, rfl, rfl, rfl, id⟩

/-! ### Changes to due records (R47 to R52, R62, R135) -/

theorem joinClass_length (l : List DueRecord) (r : DueRecord) : (joinClass l r).length = l.length + 1 := by
  unfold joinClass
  split
  · have parts := List.length_eq_length_filter_add (l := l) (·.urgent)
    simp only [List.length_append, List.length_singleton]
    omega
  · simp

/-- A record is admitted only where the list has room (R47). -/
theorem State.admitRecord_calm (s : State) (i : Nat) (e : Entry) (k : ItemKind) (m : Mode)
    (room : s.canAdmit e.host.cell = true) : s.Calm (s.admitRecord i e k m) := by
  refine ⟨rfl, rfl, rfl, rfl, fun hs => s.modDue_within _ hs ?_⟩
  have := (Bool.and_eq_true_iff.1 room).2
  rw [joinClass_length]
  exact of_decide_eq_true this

/-- A refreshed record may change its class; it has left its old place then (R51). -/
theorem refreshInList_length (l : List DueRecord) (i : Nat) (h : HostHalf) :
    (refreshInList l i h).length ≤ l.length := by
  unfold refreshInList
  split
  · exact le_rfl
  · next r found =>
    split
    · exact (List.length_map _).le
    · rw [joinClass_length]
      refine List.length_filter_lt_length_iff_exists.2 ⟨r, List.mem_of_find?_eq_some found, ?_⟩
      have := List.find?_some found
      simpa using this

theorem State.refreshRecord_calm (s : State) (c : CellId) (r : DueRecord) (e : Entry) :
    s.Calm (s.refreshRecord c r e) := by
  unfold State.refreshRecord
  split
  · exact s.retireRecord_calm c _ _ _
  · exact s.retireRecord_calm c _ _ _
  · exact s.modDue_calm c (refreshInList_length _ _ _)

theorem State.routeRead_calm (s : State) (c : CellId) (r : DueRecord) (e : Entry) : s.Calm (s.routeRead c r e) := by
  unfold State.routeRead
  split
  · exact s.refreshRecord_calm c r e
  all_goals exact s.modRecord_calm c _ _

theorem State.settleResult_calm (s : State) (c : CellId) (r : DueRecord) : s.Calm (s.settleResult c r) := by
  unfold State.settleResult
  dsimp only
  split
  · exact s.retireRecord_calm c _ _ _
  · split
    · exact s.retireRecord_calm c _ _ _
    · split
      · exact (s.modRecord_calm c _ _).trans (State.joinReread_calm _ _)
      · exact s.modRecord_calm c _ _

theorem State.itemResult_calm (s : State) (c : CellId) (i : Nat) (b : BeaconNo) (res : ItemResult) :
    s.Calm (s.itemResult c i b res) := by
  unfold State.itemResult
  split
  · exact .refl s
  · split
    · exact s.settleResult_calm c _
    · exact .refl s

theorem State.contentBad_calm (s : State) (c : CellId) (i : Nat) : s.Calm (s.contentBad c i) := by
  unfold State.contentBad
  split
  · exact .refl s
  · exact s.retireRecord_calm c _ _ _

theorem State.flipRecords_calm (s : State) (g : BitVec 4) : s.Calm (s.flipRecords g) := by
  have marks : s.Calm (forCells (fun u c => u.modDue c (List.map (DueRecord.meetsFlip u.settings.policy g))) s) :=
    .forCells (fun u c => u.modDue_map_calm c _) s
  unfold State.flipRecords
  dsimp only
  split
  · exact marks.trans (State.retireWhere_calm _ _ _)
  · exact marks

/-! ### Items and plans (R86, R92, R100) -/

theorem State.abandonFetch_calm (s : State) (c : CellId) (b : BeaconNo) (i : Nat) : s.Calm (s.abandonFetch c b i) := by
  obtain ⟨e, p, h⟩ := s.abandonFetch_frame c b i
  rw [h]
  exact ⟨rfl, rfl, rfl, rfl, id⟩

theorem State.modItem_calm (s : State) (c : CellId) (b : BeaconNo) (i : Nat) (f : PlanItem → PlanItem) :
    s.Calm (s.modItem c b i f) :=
  ⟨rfl, rfl, rfl, rfl, id⟩

theorem State.dropItem_calm (s : State) (c : CellId) (b : BeaconNo) (i : Nat) : s.Calm (s.dropItem c b i) := by
  obtain ⟨e, p, t, q, h⟩ := s.dropItem_frame c b i
  rw [h]
  exact ⟨rfl, rfl, rfl, rfl, id⟩

theorem State.notSent_calm (s : State) (c : CellId) (b : BeaconNo) (i : Nat) : s.Calm (s.notSent c b i) := by
  unfold State.notSent
  split
  · exact .refl s
  · split
    · exact (s.dropItem_calm c b i).trans (State.itemResult_calm _ _ _ _ _)
    · exact .refl s

theorem State.notSentAll_calm (s : State) (c : CellId) (p : Plan) : s.Calm (s.notSentAll c p) :=
  .foldl (fun t place => t.notSent_calm c p.beacon place) _ s

/-! ### The flip unit (R133, R134) -/

theorem State.modGroup_calm (s : State) (g : GroupId) (f : GroupRecord → GroupRecord) : s.Calm (s.modGroup g f) :=
  s.setFlip_calm _

theorem State.takeFlip_calm (b : BeaconNo) (s : State) (g : GroupId) : s.Calm (s.takeFlip b g) := by
  unfold State.takeFlip
  dsimp only
  split
  · exact .refl s
  · split
    · exact (((s.modGroup_calm g _).trans (State.raise_calm _ _)).trans (State.flipRecords_calm _ _)).trans
        (State.changeoverRequest_calm _ _)
    · exact s.modGroup_calm g _
    all_goals exact .refl s

theorem State.takeFlips_calm (s : State) (b : BeaconNo) : s.Calm (s.takeFlips b) :=
  .foldl (State.takeFlip_calm b) _ s

theorem State.reportBeacon_calm (s : State) (c : CellId) (b : BeaconNo) (sent : Bool) :
    s.Calm (s.reportBeacon c b sent) := by
  unfold State.reportBeacon
  extract_lets groups t
  split
  · split
    · exact (s.setFlip_calm _).trans (State.takeFlips_calm _ _)
    · exact s.setFlip_calm _
  · exact s.setFlip_calm _

/-! ### Cells, beacons and windows (R107, R109, R122, R125) -/

theorem State.cellOff_calm (s : State) (c : CellId) : s.Calm (s.cellOff c) := ⟨rfl, rfl, rfl, rfl, id⟩

theorem State.goQuiet_calm (s : State) (c : CellId) : s.Calm (s.goQuiet c) := by
  unfold State.goQuiet
  split
  · exact s.cellOff_calm c
  · exact (s.modPort_calm c _).trans (State.raise_calm _ _)

theorem State.takeOffPending_calm (s : State) (c : CellId) : s.Calm (s.takeOffPending c) := by
  unfold State.takeOffPending
  split
  · exact s.cellOff_calm c
  · exact .refl s

theorem State.endWindow_calm (s : State) (c : CellId) : s.Calm (s.endWindow c) :=
  (s.modSeq_calm c _).trans (State.takeOffPending_calm _ _)

theorem State.beaconSent_calm (s : State) (c : CellId) (b : BeaconNo) : s.Calm (s.beaconSent c b) := by
  unfold State.beaconSent
  split
  · exact s.reportBeacon_calm c b true
  · split
    · exact (s.modSeq_calm c _).trans (State.reportBeacon_calm _ _ _ _)
    · exact (s.reportBeacon_calm c b true).trans (State.endWindow_calm _ _)

theorem State.beaconFault_calm (s : State) (c : CellId) (b : BeaconNo) : s.Calm (s.beaconFault c b) := by
  have missed := s.reportBeacon_calm c b false
  unfold State.beaconFault
  dsimp only
  split
  · exact missed
  · have ended := fun plan => (missed.trans (State.notSentAll_calm _ c plan)).trans (State.modSeq_calm _ c Sequencer.noPlan)
    split
    · exact (ended _).trans (State.takeOffPending_calm _ _)
    · exact ended _

theorem State.missWaiting_calm (s : State) (c : CellId) : s.Calm (s.missWaiting c) := by
  unfold State.missWaiting
  split
  · exact .refl s
  · split
    · exact s.beaconFault_calm c _
    · exact .refl s

theorem State.offIfNoWindow_calm (s : State) (c : CellId) : s.Calm (s.offIfNoWindow c) := by
  unfold State.offIfNoWindow
  split
  · exact (s.cellOff_calm c).trans (State.missWaiting_calm _ _)
  · exact .refl s

theorem State.beaconMissed_calm (s : State) (c : CellId) (b : BeaconNo) : s.Calm (s.beaconMissed c b) := by
  have missed := s.reportBeacon_calm c b false
  unfold State.beaconMissed
  dsimp only
  split
  · exact missed
  · exact (missed.trans (State.notSentAll_calm _ _ _)).trans (State.modSeq_calm _ _ _)

theorem State.portFault_calm (s : State) (c : CellId) (b : BeaconNo) : s.Calm (s.portFault c b) := by
  unfold State.portFault
  split
  · exact .refl s
  · split
    · exact (s.notSentAll_calm c _).trans (State.modSeq_calm _ _ _)
    · exact .refl s

theorem State.dropComing_calm (s : State) (c : CellId) : s.Calm (s.dropComing c) := by
  unfold State.dropComing
  split
  · exact .refl s
  · exact (s.notSentAll_calm c _).trans (State.modSeq_calm _ _ _)

/-! ### The beacon timer's events (R70, R107) -/

theorem State.setTimer_map_calm (s : State) (now : BeaconNo) (f : Schedule → Schedule) :
    s.Calm (s.setTimer { now := now, schedule := s.timer.schedule.map f }) :=
  ⟨rfl, rfl, rfl, Option.isSome_map, id⟩

theorem State.countBeacon_calm (s : State) : s.Calm s.countBeacon :=
  (s.setTimer_map_calm _ _).trans (State.setFlip_calm _ _)

theorem State.cellBeacon_calm (b : BeaconNo) (l : List FlipNotice) (s : State) (c : CellId) :
    s.Calm (s.cellBeacon b l c) := by
  unfold State.cellBeacon
  split
  · exact (s.modSeq_calm c _).trans (State.modPort_calm _ _ _)
  · exact s.beaconMissed_calm c b

theorem State.handPlan_calm (s : State) (c : CellId) (plan : Plan) : s.Calm (s.handPlan c plan) := by
  unfold State.handPlan
  dsimp only
  exact (((s.modDue_calm c (List.length_map _).le).trans (State.modStore_calm _ c _)).trans (State.setFetch_calm _ _)).trans
    (State.modSeq_calm _ c _)

theorem State.planCell_calm (b : BeaconNo) (s : State) (c : CellId) : s.Calm (s.planCell b c) := by
  unfold State.planCell
  split
  · exact s.handPlan_calm c _
  · exact s.modSeq_calm c _

theorem State.takePlanPoint_calm (s : State) : s.Calm s.takePlanPoint :=
  (State.Calm.forCells (State.planCell_calm _) s).trans (State.setTimer_map_calm _ _ _)

/-! ### The slots of a window (R99, R110 to R113, R119) -/

theorem State.fetchLate_calm (s : State) (c : CellId) (plan : Plan) : s.Calm (s.fetchLate c plan) :=
  (s.notSent_calm c _ _).trans (State.modSeq_calm _ c _)

theorem State.sendItem_calm (s : State) (c : CellId) (plan : Plan) (i : PlanItem) : s.Calm (s.sendItem c plan i) := by
  unfold State.sendItem
  dsimp only
  exact (((s.modRecord_calm c _ _).trans (State.modSeq_calm _ c _)).trans (State.modSeq_calm _ c _)).trans
    (State.modPort_calm _ c _)

theorem State.slotStart_calm (s : State) (c : CellId) : s.Calm (s.slotStart c) := by
  unfold State.slotStart
  split
  · exact .refl s
  · split
    · exact s.sendItem_calm c _ _
    · exact s.fetchLate_calm c _
    all_goals exact s.modSeq_calm c _

theorem State.frameSlot_calm (s : State) (c : CellId) : s.Calm (s.frameSlot c) := by
  unfold State.frameSlot
  dsimp only
  split
  · exact (s.modSeq_calm c _).trans (State.modPort_calm _ c _)
  · exact .refl s

theorem State.replyStart_calm (s : State) (c : CellId) : s.Calm (s.replyStart c) := by
  unfold State.replyStart
  dsimp only
  split
  · exact .refl s
  · split
    · exact (s.modSeq_calm c _).trans (State.modPort_calm _ c _)
    · exact .refl s

theorem State.takeSlotFrames_calm (s : State) (c : CellId) : s.Calm (s.takeSlotFrames c) := by
  unfold State.takeSlotFrames
  dsimp only
  exact (s.modSeq_calm c _).trans (State.modPort_calm _ c _)

theorem State.endItem_calm (s : State) (c : CellId) (plan : Plan) (i : PlanItem) (res : ItemResult) :
    s.Calm (s.endItem c plan i res) := by
  unfold State.endItem
  dsimp only
  exact (((s.itemResult_calm c _ _ _).trans (State.modSeq_calm _ c _)).trans (State.modStore_calm _ c _)).trans
    (State.modSeq_calm _ c _)

theorem State.replyEnd_calm (s : State) (c : CellId) : s.Calm (s.replyEnd c) := by
  unfold State.replyEnd
  dsimp only
  split
  · split
    · exact (s.takeSlotFrames_calm c).trans (State.endItem_calm _ _ _ _ _)
    · exact .refl s
  · exact .refl s

/-! ### Links (R150, R151, R155) -/

theorem State.countdownOver_calm (s : State) (c : CellId) : s.Calm (s.countdownOver c) := by
  unfold State.countdownOver
  dsimp only
  split
  · exact s.modPort_calm c _
  · exact .refl s

theorem State.quietCheck_calm (s : State) (c : CellId) : s.Calm (s.quietCheck c) := by
  unfold State.quietCheck
  dsimp only
  split
  · exact (s.goQuiet_calm c).trans (State.missWaiting_calm _ c)
  · exact .refl s

theorem State.raiseFrameReady_calm (s : State) (c : CellId) : s.Calm (s.raiseFrameReady c) := by
  unfold State.raiseFrameReady
  split
  · exact (s.modPort_calm c _).trans (State.modSeq_calm _ c _)
  · exact s.modPort_calm c _

theorem State.takePull_calm (s : State) (c : CellId) (l : Word) (ws : List Word) : s.Calm (s.takePull c l ws) := by
  unfold State.takePull
  split
  · exact s.modPort_calm c _
  · exact .refl s

theorem State.takeHeadFrame_calm (s : State) (c : CellId) : s.Calm (s.takeHeadFrame c) := by
  unfold State.takeHeadFrame
  split
  · exact .refl s
  · exact (s.modSeq_calm c _).trans (State.modPort_calm _ c _)

/-! ### The entry reader and the sweep engine (R26 to R28, R136 to R139) -/

theorem State.beginVisit_calm (s : State) (i : Nat) (src : HandSource) (v : Visit) : s.Calm (s.beginVisit i src v) :=
  s.setSweep_calm.trans (State.offer_calm _ _ _)

theorem State.takeReread_calm (s : State) (i : Nat) (rest : List Nat) (h : s.sweep.reread = i :: rest) :
    s.Calm (s.takeReread i rest) := by
  have taken : s.Calm (s.setSweep { s.sweep with reread := rest }) :=
    s.setSweep_calm (by rw [h]; exact List.sublist_cons_self i rest)
  unfold State.takeReread
  dsimp only
  split
  · exact taken
  · exact taken.trans (State.beginVisit_calm _ _ _ _)

theorem State.takeNoticeEntry_calm (s : State) (n : Notice) : s.Calm (s.takeNoticeEntry n) := by
  unfold State.takeNoticeEntry
  split
  · exact s.setNotices_calm (advanceNotice_length_le _)
  · exact s.beginVisit_calm _ _ _

theorem State.takeEntry_calm (s : State) : s.Calm s.takeEntry := by
  unfold State.takeEntry
  split
  · exact .refl s
  · split
    · next listed => exact s.takeReread_calm _ _ listed
    · split
      · exact s.takeNoticeEntry_calm _
      · split
        · exact s.beginVisit_calm _ _ _
        · exact .refl s

theorem State.setPhase_calm (s : State) (phase : HandPhase) : s.Calm (s.setPhase phase) := s.setSweep_calm

theorem State.beginWrite_calm (s : State) (i : Nat) (written : PartHalf) (w : SweepWrite) :
    s.Calm (s.beginWrite i written w) :=
  (s.setPhase_calm _).trans (State.offer_calm _ _ _)

theorem State.writeIfChanged_calm (s : State) (i : Nat) (read written : PartHalf) :
    s.Calm (s.writeIfChanged i read written) := by
  unfold State.writeIfChanged
  split
  · exact s.finishHand_calm
  · exact s.beginWrite_calm _ _ _

theorem State.carryOut_calm (s : State) (i : Nat) (read : PartHalf) (e : Entry) (v : Verdict) :
    s.Calm (s.carryOut i read e v) := by
  unfold State.carryOut
  split
  · exact s.writeIfChanged_calm _ _ _
  · split
    · next room => exact (s.admitRecord_calm _ _ _ _ room).trans (State.writeIfChanged_calm _ _ _ _)
    · exact (s.deferCell_calm _).trans (State.writeIfChanged_calm _ _ _ _)

theorem State.makeUnsure_calm (s : State) (i : Nat) (e : Entry) : s.Calm (s.makeUnsure i e) := s.beginWrite_calm _ _ _

theorem State.movedOn_calm (s : State) (i : Nat) (e : Entry) : s.Calm (s.movedOn i e) := by
  unfold State.movedOn
  split
  · exact s.carryOut_calm _ _ _ _
  · split
    · exact s.finishHand_calm
    · exact s.carryOut_calm _ _ _ _

theorem State.changeoverEntry_calm (s : State) (g : GroupId) (i : Nat) (e : Entry) :
    s.Calm (s.changeoverEntry g i e) := by
  unfold State.changeoverEntry
  dsimp only
  split
  · split
    · exact s.makeUnsure_calm i e
    · exact s.writeIfChanged_calm _ _ _
  · split
    · exact s.movedOn_calm i e
    · split
      · exact s.writeIfChanged_calm _ _ _
      · exact s.finishHand_calm

theorem State.changeoverVisit_calm (s : State) (h : InHand) (e : Entry) : s.Calm (s.changeoverVisit h e) := by
  unfold State.changeoverVisit
  split
  · exact s.finishHand_calm
  · split
    · split
      · split
        · exact s.setPhase_calm _
        · exact s.finishHand_calm
      · exact s.changeoverEntry_calm _ _ e
    · exact s.finishHand_calm

theorem State.routeOr_calm (s : State) (i : Nat) (e : Entry) {act : State → State} (h : s.Calm (act s)) :
    s.Calm (s.routeOr i e act) := by
  unfold State.routeOr
  split
  · exact (s.routeRead_calm _ _ e).trans (State.finishHand_calm _)
  · exact h

theorem State.dealWith_calm (s : State) (h : InHand) (e : Entry) : s.Calm (s.dealWith h e) := by
  have plain : s.Calm (s.routeOr h.index e fun t => t.plainVisit h.index e) :=
    s.routeOr_calm _ e (s.carryOut_calm _ _ _ _)
  unfold State.dealWith
  split
  · exact plain
  · exact s.routeOr_calm _ e (s.carryOut_calm _ _ _ _)
  · split
    · exact plain
    · exact s.finishHand_calm
  · exact s.changeoverVisit_calm h e

theorem State.entryRead_calm (s : State) : s.Calm s.entryRead := by
  unfold State.entryRead
  split
  · exact .refl s
  · split
    · exact s.dealWith_calm _ _
    · exact .refl s

theorem State.followPoll_calm (s : State) (i : Nat) (e : Entry) : s.Calm (s.followPoll i e) := by
  unfold State.followPoll
  split
  · next room => exact (s.admitRecord_calm _ _ _ _ room).trans (State.beginWrite_calm _ _ _ _)
  · exact (s.deferCell_calm _).trans (State.finishHand_calm _)

theorem State.afterMarks_calm (s : State) (i : Nat) (w : SweepWrite) : s.Calm (s.afterMarks i w) := by
  unfold State.afterMarks
  split
  · exact s.followPoll_calm i _
  · exact s.finishHand_calm

theorem State.sweepWritten_calm (s : State) : s.Calm s.sweepWritten := by
  unfold State.sweepWritten
  split
  · exact .refl s
  · split
    · split
      · exact (s.setPhase_calm _).trans (State.offer_calm _ _ _)
      · exact s.afterMarks_calm _ _
    · exact .refl s

theorem State.sweepMarked_calm (s : State) : s.Calm s.sweepMarked := by
  unfold State.sweepMarked
  split
  · exact .refl s
  · split
    · exact (s.setPhase_calm _).trans (State.offer_calm _ _ _)
    · exact (s.report_calm _).trans (State.afterMarks_calm _ _ _)
    · exact .refl s

/-! ### The fetch engine (R92 to R96, R101) -/

theorem State.beginFetch_calm (s : State) : s.Calm s.beginFetch := by
  unfold State.beginFetch
  split
  · exact (s.setFetch_calm _).trans (State.offer_calm _ _ _)
  · exact .refl s

theorem State.offerNext_calm (s : State) (f : Fetch) : s.Calm (s.offerNext f) := by
  unfold State.offerNext
  split
  · exact s.setFetch_calm _
  · exact (s.setFetch_calm _).trans (State.offer_calm _ _ _)

theorem State.fetchBad_calm (s : State) (e : FetchElem) : s.Calm (s.fetchBad e) :=
  (s.dropItem_calm _ _ _).trans (State.contentBad_calm _ _ _)

theorem State.fetchRestart_calm (s : State) (e : FetchElem) : s.Calm (s.fetchRestart e) :=
  (s.modRecord_calm _ _ _).trans (State.notSent_calm _ _ _ _)

theorem State.fetchReady_calm (s : State) (f : Fetch) : s.Calm (s.fetchReady f) := by
  have stored : s.Calm (if f.full then s.storeCheck f.elem.cell f.elem.index f.headerCheck else s) := by
    split
    · exact s.modRecord_calm _ _ _
    · exact .refl s
  exact (stored.trans (State.setFetch_calm _ _)).trans (State.modItem_calm _ _ _ _ _)

theorem State.takeHeader_calm (s : State) : s.Calm s.takeHeader := by
  unfold State.takeHeader
  split
  · exact .refl s
  · split
    · dsimp only
      split
      · split
        · exact s.offerNext_calm _
        · exact s.fetchBad_calm _
      · split
        · exact s.offerNext_calm _
        · exact s.fetchRestart_calm _
    · exact .refl s

theorem State.fetchOver_calm (s : State) (f : Fetch) : s.Calm (s.fetchOver f) := by
  unfold State.fetchOver
  split
  · exact s.fetchBad_calm _
  · exact s.fetchReady_calm f

theorem State.takeBurst_calm (s : State) : s.Calm s.takeBurst := by
  unfold State.takeBurst
  split
  · exact .refl s
  · split
    · dsimp only
      have filled := fun c f g => (s.modStore_calm c f).trans (State.setFetch_calm _ g)
      split
      · exact (filled _ _ _).trans (State.fetchOver_calm _ _)
      · exact filled _ _ _
    · exact .refl s

/-! ### The write-back engine (R64, R168) -/

theorem State.setWbPhase_calm (s : State) (phase : WriteBackPhase) : s.Calm (s.setWbPhase phase) := s.setWb_calm _

theorem State.beginWriteBack_calm (s : State) : s.Calm s.beginWriteBack := by
  unfold State.beginWriteBack
  split
  · split
    · exact .refl s
    · exact (s.setWbPhase_calm _).trans (State.offer_calm _ _ _)
  · exact .refl s

theorem State.resumeVisit_calm (s : State) (i : Nat) : s.Calm (s.resumeVisit i) := by
  unfold State.resumeVisit
  split
  · exact .refl s
  · split
    · exact (s.setPhase_calm _).trans (State.offer_calm _ _ _)
    · exact .refl s

theorem State.refillAfterRemoval_calm (s : State) (c : CellId) : s.Calm (s.refillAfterRemoval c) := by
  unfold State.refillAfterRemoval
  split
  · exact s.refillRequest_calm
  · exact .refl s

theorem State.rereadAfterRemoval_calm (s : State) (r : DueRecord) : s.Calm (s.rereadAfterRemoval r) := by
  unfold State.rereadAfterRemoval
  split
  · exact s.joinReread_calm _
  · exact .refl s

theorem State.removeRecord_calm (s : State) (c : CellId) (r : DueRecord) : s.Calm (s.removeRecord c r) :=
  ((((s.modDue_calm c (List.length_filter_le _ _)).trans (State.setWb_calm _ _)).trans
    (State.refillAfterRemoval_calm _ _)).trans (State.rereadAfterRemoval_calm _ _)).trans (State.resumeVisit_calm _ _)

theorem State.partHalfDone_calm (s : State) : s.Calm s.partHalfDone := by
  unfold State.partHalfDone
  split
  · split
    · exact (s.setWbPhase_calm _).trans (State.offer_calm _ _ _)
    · exact s.removeRecord_calm _ _
  · exact .refl s

theorem State.markDone_calm (s : State) : s.Calm s.markDone := by
  unfold State.markDone
  split
  · exact (s.setWbPhase_calm _).trans (State.offer_calm _ _ _)
  · exact (s.report_calm _).trans (State.removeRecord_calm _ _ _)
  · exact .refl s

/-! ### Transfers of these engines (R28, R92, R163, R168, R172) -/

theorem State.deliverEntry_calm (s : State) (ws : List Word) : s.Calm (s.deliverEntry ws) := s.setSweep_calm

theorem State.deliverFetch_calm (s : State) (ws : List Word) : s.Calm (s.deliverFetch ws) := by
  unfold State.deliverFetch
  split
  · exact .refl s
  · dsimp only
    split
    · exact s.offerNext_calm _
    · exact s.setFetch_calm _

theorem State.entryFailed_calm (s : State) : s.Calm s.entryFailed := by
  unfold State.entryFailed
  split
  · exact .refl s
  · split
    · split
      · exact s.setSweep_calm.trans (State.setNotices_calm _ (by simp))
      · exact s.finishHand_calm
    · exact s.deliverEntry_calm []

theorem State.fetchFailed_calm (s : State) : s.Calm s.fetchFailed := by
  unfold State.fetchFailed
  split
  · exact .refl s
  · exact s.notSent_calm _ _ _

/-! ### The links and the memory port at the end of a step -/

theorem State.kickAll_calm (s : State) : s.Calm s.kickAll := .forCells (fun t c => t.modPort_calm c _) s

theorem State.arbitrate_calm (s : State) : s.Calm s.arbitrate := by
  obtain ⟨b, h⟩ := s.arbitrate_frame
  rw [h]
  exact s.setBus_calm b

end Sys2Proof.Machine
end

section
/-! PROOFS. The invariants of every step: shared memory in its canonical form, nothing left waiting that could begin, every list
within its capacity, and the controller state in accord with the command in progress and the beacon timer. The step's own end settles
any state; the rest is a relation that every operation of a step meets. -/

namespace Sys2Proof.Machine

/-! ### The relation -/

theorem State.controllerFits_iff (s : State) :
    s.controllerFits = true ↔ (∀ r, s.cmd.inProgress = some r → r.fits s.cmd.controller = true) ∧
      (s.cmd.inProgress = none → s.cmd.controller ≠ .loading ∧ s.cmd.controller ≠ .stopping) ∧
      s.timer.schedule.isSome = s.nightOn := by
  unfold State.controllerFits
  cases s.cmd.inProgress <;> simp [and_assoc]

theorem State.controllerFits_of_some {s : State} {r : Running} (h : s.cmd.inProgress = some r)
    (hr : r.fits s.cmd.controller = true) (timer : s.timer.schedule.isSome = s.nightOn) : s.controllerFits = true := by
  simp [State.controllerFits_iff, h, hr, timer]

theorem State.controllerFits_of_none {s : State} (h : s.cmd.inProgress = none)
    (rest : s.cmd.controller ≠ .loading ∧ s.cmd.controller ≠ .stopping) (timer : s.timer.schedule.isSome = s.nightOn) :
    s.controllerFits = true := by
  simp [State.controllerFits_iff, h, rest, timer]

section
variable (s : State) (hs : s.controllerFits = true)
include hs

theorem State.timer_of_fits : s.timer.schedule.isSome = s.nightOn := by
  obtain ⟨_, _, timer⟩ := s.controllerFits_iff.1 hs
  exact timer

/-- With no command in progress the controller is neither LOADING nor STOPPING. -/
theorem State.controller_of_none (h : s.cmd.inProgress = none) :
    s.cmd.controller ≠ .loading ∧ s.cmd.controller ≠ .stopping := by
  obtain ⟨_, rest, _⟩ := s.controllerFits_iff.1 hs
  exact rest h

theorem State.fits_of_some {r : Running} (h : s.cmd.inProgress = some r) : r.fits s.cmd.controller = true := by
  obtain ⟨fits, _, _⟩ := s.controllerFits_iff.1 hs
  exact fits r h

theorem State.timer_off {c : ControllerState} (h : s.cmd.controller = c) (hc : c ≠ .running ∧ c ≠ .paused) :
    s.timer.schedule.isSome = false := by
  rw [s.timer_of_fits hs]
  simpa [State.nightOn, h] using hc

end

/-- From s to t the controller state stays in accord, the lists stay within their capacities, and no command begins to wait. -/
structure State.Sound (s t : State) : Prop where
  fits : s.controllerFits = true → t.controllerFits = true
  capacity : s.withinCapacity = true → t.withinCapacity = true
  waiting : s.cmd.waiting = none → t.cmd.waiting = none

theorem State.Sound.refl (s : State) : s.Sound s := ⟨id, id, id⟩

theorem State.Sound.trans {s t u : State} (h : s.Sound t) (k : t.Sound u) : s.Sound u :=
  ⟨k.fits ∘ h.fits, k.capacity ∘ h.capacity, k.waiting ∘ h.waiting⟩

theorem State.Calm.controllerFits {s t : State} (h : s.Calm t) : t.controllerFits = s.controllerFits := by
  simp only [State.controllerFits, State.nightOn, h.controller, h.inProgress, h.timer]

theorem State.Calm.sound {s t : State} (h : s.Calm t) : s.Sound t :=
  ⟨h.controllerFits.trans, h.capacity, h.waiting.trans⟩

/-- A command is over or refused where the controller need not have one in progress (R175, R183). -/
theorem State.finish_sound (s : State) (code : ResultCode) (value : Nat)
    (h : s.controllerFits = true → s.cmd.controller ≠ .loading ∧ s.cmd.controller ≠ .stopping) :
    s.Sound (s.finish code value) :=
  ⟨fun hs => State.controllerFits_of_none rfl (h hs) (s.timer_of_fits hs), id, id⟩

/-- A command is taken in a controller state that goes with it. -/
theorem State.setRunning_sound (s : State) (r : Running) (h : s.controllerFits = true → r.fits s.cmd.controller = true) :
    s.Sound (s.setRunning r) :=
  ⟨fun hs => State.controllerFits_of_some rfl (h hs) (s.timer_of_fits hs), id, id⟩

/-! ### The end of a step -/

theorem State.drainDue_stopping (s : State) (h : s.drainDue = true) : s.cmd.controller = .stopping := by
  simp only [State.drainDue, State.stopping, Bool.and_eq_true, decide_eq_true_eq] at h
  obtain ⟨⟨_, stopping⟩, _⟩ := h
  exact stopping

theorem State.checkDrain_sound (s : State) : s.Sound s.checkDrain := by
  unfold State.checkDrain
  split
  · next due =>
    have noted : s.Sound (s.setCmd { s.cmd with inProgress := some (.stop true) }) :=
      ⟨fun hs => State.controllerFits_of_some rfl (decide_eq_true (s.drainDue_stopping due))
        (s.timer_of_fits hs), id, id⟩
    exact noted.trans (State.nightDue_calm _ _).sound
  · exact .refl s

theorem State.proceed_sound (s : State) : s.Sound s.proceed :=
  (s.checkDrain_sound.trans (State.kickAll_calm _).sound).trans (State.arbitrate_calm _).sound

theorem State.proceed_none (s : State) (h : s.cmd.inProgress = none) : s.proceed.cmd = s.cmd := by
  have same : s.checkDrain = s := s.checkDrain_same (by simp [State.drainDue, h])
  obtain ⟨p, hp⟩ := s.kickAll_frame
  obtain ⟨b, hb⟩ := State.arbitrate_frame { s with port := p }
  rw [State.proceed, same, hp, hb]

/-! ### Taking commands (R178 to R185) -/

theorem ControllerState.takesLoad_ne {c : ControllerState} (h : c.takesLoad = true) :
    (c ≠ .loading ∧ c ≠ .stopping) ∧ c ≠ .running ∧ c ≠ .paused := by
  cases c <;> simp [ControllerState.takesLoad] at h ⊢

/-- PAUSE and RESUME go from one state of a running night to the other (R182). -/
theorem State.moves_sound (s : State) (c : ControllerState) (hc : c = .running ∨ c = .paused) (on : s.nightOn = true) :
    s.Sound ((s.setController c).finish .ok 0) := by
  refine ⟨fun hs => State.controllerFits_of_none rfl ?_ ((s.timer_of_fits hs).trans ?_), id, id⟩
  · rcases hc with rfl | rfl <;> exact ⟨nofun, nofun⟩
  · rw [on]
    rcases hc with rfl | rfl <;> rfl

section
variable (s : State) (idle : s.cmd.inProgress = none)
include idle

theorem State.finish_sound_of_none (code : ResultCode) (value : Nat) : s.Sound (s.finish code value) :=
  s.finish_sound code value fun hs => s.controller_of_none hs idle

theorem State.Calm.completes {t : State} (h : s.Calm t) (code : ResultCode) (value : Nat) : s.Sound (t.finish code value) :=
  h.sound.trans (State.finish_sound_of_none t (h.inProgress.trans idle) code value)

theorem State.takeLoad_sound : s.Sound s.takeLoad := by
  have reads (h : s.cmd.controller.takesLoad = true) (a : Action) (address : Word) (saved : PerCell SavedPort) :
      s.Sound (((s.setRunning (.load s.cmd.controller (.reading address [] saved))).setController .loading).offer
        .anchor a) := by
    obtain ⟨_, off⟩ := ControllerState.takesLoad_ne h
    exact ⟨fun hs => State.controllerFits_of_some rfl (Bool.and_eq_true_iff.2 ⟨h, rfl⟩) (s.timer_off hs rfl off), id, id⟩
  unfold State.takeLoad
  split
  case h_4 => exact s.finish_sound_of_none idle _ _
  all_goals
    next h =>
      split
      · exact s.finish_sound_of_none idle _ _
      · exact reads (by simp [h, ControllerState.takesLoad]) _ _ _

theorem State.takeStart_sound : s.Sound s.takeStart := by
  unfold State.takeStart
  split
  · exact s.finish_sound_of_none idle _ _
  · exact ⟨fun _ => State.controllerFits_of_none rfl ⟨nofun, nofun⟩ rfl, id, id⟩

theorem State.takePause_sound : s.Sound s.takePause := by
  unfold State.takePause
  split
  · next running => exact s.moves_sound _ (.inr rfl) (s.nightOn_iff.2 (.inl running))
  · exact s.finish_sound_of_none idle _ _

theorem State.takeResume_sound : s.Sound s.takeResume := by
  unfold State.takeResume
  split
  · next paused => exact s.moves_sound _ (.inl rfl) (s.nightOn_iff.2 (.inr paused))
  · exact s.finish_sound_of_none idle _ _

end

theorem State.endSweep_capacity (t : State) (hand : Option InHand) (h : t.withinCapacity = true) :
    (t.endSweep hand).withinCapacity = true := by
  obtain ⟨_, _, _, lists⟩ := t.withinCapacity_iff.1 h
  exact (State.withinCapacity_iff _).2 ⟨Nat.zero_le _, Nat.zero_le _, List.nodup_nil, lists⟩

/-- The passes, the notices and the re-reads end; nothing else of a command's course. -/
theorem State.endSweep_calm (t : State) (hand : Option InHand) : t.Calm (t.endSweep hand) :=
  ⟨rfl, rfl, rfl, rfl, t.endSweep_capacity hand⟩

theorem State.takeStop_sound (s : State) (idle : s.cmd.inProgress = none) : s.Sound s.takeStop := by
  unfold State.takeStop
  split
  · exact s.finish_sound_of_none idle _ _
  · split
    · exact s.finish_sound_of_none idle _ _
    · extract_lets t timer u v
      have begins : s.Sound (t.setTimer { t.timer with schedule := none }) :=
        ⟨fun _ => State.controllerFits_of_some (r := .stop false) rfl rfl rfl, id, id⟩
      have cancels := State.Calm.forCells State.dropComing_calm (t.setTimer { t.timer with schedule := none })
      have drains : u.Calm v.drainWaiting := (u.endSweep_calm _).trans (State.retireWhere_calm _ _ _)
      exact begins.trans ((cancels.trans drains).trans (.forCells State.offIfNoWindow_calm _)).sound

theorem State.takeRescan_sound (s : State) (idle : s.cmd.inProgress = none) : s.Sound s.takeRescan := by
  unfold State.takeRescan
  split
  · exact s.rescanRequest_calm.completes s idle _ _
  · exact s.finish_sound_of_none idle _ _

theorem State.takeFlipAt_sound (s : State) (idle : s.cmd.inProgress = none) (group : BitVec 4) (delta : BitVec 20) :
    s.Sound (s.takeFlipAt group delta) := by
  have completes := s.finish_sound_of_none idle
  unfold State.takeFlipAt
  split
  · exact completes _ _
  · split
    · exact completes _ _
    · split
      case h_4 => exact (s.modGroup_calm _ _).completes s idle _ _
      all_goals exact completes _ _

theorem State.takeCancelFlip_sound (s : State) (idle : s.cmd.inProgress = none) (group : BitVec 4) :
    s.Sound (s.takeCancelFlip group) := by
  have completes := s.finish_sound_of_none idle
  unfold State.takeCancelFlip
  split
  · exact completes _ _
  · split
    · exact completes _ _
    · dsimp only
      split
      case h_4 =>
        split
        · exact (s.modGroup_calm _ _).completes s idle _ _
        · exact completes _ _
      all_goals exact completes _ _

theorem State.nightIfLoaded_calm (s : State) : s.Calm s.nightIfLoaded := by
  unfold State.nightIfLoaded
  split
  · exact s.nightDue_calm _
  · exact .refl s

theorem State.takesCells_iff (s : State) :
    s.takesCells = true ↔ s.nightOn = true ∨ s.cmd.controller = .loaded := by
  simp [State.takesCells]

theorem State.cellOn_fits (s : State) (c : CellId) (h : s.takesCells = true) :
    (Running.cellOn c).fits s.cmd.controller = true := by
  rw [State.takesCells_iff, State.nightOn_iff] at h
  simp only [Running.fits, Bool.or_eq_true, decide_eq_true_eq]
  tauto

theorem State.takeCellOn_sound (s : State) (idle : s.cmd.inProgress = none) (cell : BitVec 8) :
    s.Sound (s.takeCellOn cell) := by
  unfold State.takeCellOn
  split
  · exact s.finish_sound_of_none idle _ _
  · next taken =>
    have probes (c : CellId) (f : RadioPort → RadioPort) : s.Sound ((s.modPort c f).setRunning (.cellOn c)) :=
      (s.modPort_calm c f).sound.trans (State.setRunning_sound _ _ fun _ => s.cellOn_fits c (by simpa using taken))
    split
    · exact s.finish_sound_of_none idle _ _
    · next c _ =>
      split
      case h_1 =>
        exact ((s.modSeq_calm c _).completes s idle _ _).trans (State.nightIfLoaded_calm _).sound
      all_goals exact probes c _

theorem State.takeCellOff_sound (s : State) (idle : s.cmd.inProgress = none) (cell : BitVec 8) :
    s.Sound (s.takeCellOff cell) := by
  unfold State.takeCellOff
  split
  · exact s.finish_sound_of_none idle _ _
  · split
    · exact s.finish_sound_of_none idle _ _
    · next c _ =>
      have turned (t : State) (h : s.Calm t) : s.Sound (t.finish .ok 0).nightIfLoaded :=
        (h.completes s idle _ _).trans (State.nightIfLoaded_calm _).sound
      dsimp only
      split
      · split
        · exact turned _ (s.modSeq_calm c _)
        · exact turned _ (s.cellOff_calm c)
      case h_5 => exact turned _ (.refl s)
      all_goals exact turned _ (s.cellOff_calm c)

/-! ### ABORT and RESET (R176, R185, R186) -/

theorem State.discardRecords_calm (s : State) : s.Calm s.discardRecords := by
  refine ⟨rfl, rfl, rfl, rfl, fun hs => (State.withinCapacity_iff _).2 ?_⟩
  obtain ⟨notices, room, once, _⟩ := s.withinCapacity_iff.1 hs
  exact ⟨notices, room, once, fun c => by rcases CellId.cases c with rfl | rfl | rfl | rfl <;> exact Nat.zero_le _⟩

theorem State.reopenGroups_calm (s : State) : s.Calm s.reopenGroups := s.setFlip_calm _

theorem State.cutCell_calm (s : State) (c : CellId) : s.Calm (s.cutCell c) :=
  ((s.modPort_calm c _).trans (State.modSeq_calm _ c _)).trans (State.takeOffPending_calm _ c)

/-- The cut of a night stops the beacon timer and leaves the command unit to whoever makes the cut. -/
theorem State.cutNight_calm (s : State) (hand : Option InHand) :
    ∃ u, s.Calm u ∧ s.cutNight hand = u.setTimer { u.timer with schedule := none } := by
  refine ⟨((forCells State.cutCell (s.endSweep hand).discardRecords.reopenGroups).setFetch
    { list := [], current := none }).setStore (Vector.replicate 4 []), ?_, ?_⟩
  case refine_2 =>
    unfold State.cutNight
    generalize forCells State.cutCell _ = u
    rfl
  have cleared := ((s.endSweep_calm hand).trans (State.discardRecords_calm _)).trans (State.reopenGroups_calm _)
  exact ((cleared.trans (.forCells State.cutCell_calm _)).trans (State.setFetch_calm _ _)).trans (State.setStore_calm _ _)

theorem State.abortNight_sound (s : State) : s.Sound s.abortNight := by
  obtain ⟨u, calm, cut⟩ := s.cutNight_calm (s.sweep.hand.bind (InHand.atAbort s.bus))
  unfold State.abortNight
  dsimp only
  rw [cut]
  refine .trans ?_ (State.nightAbort_calm _).sound
  exact ⟨fun _ => State.controllerFits_of_some (r := .abort .ok s.pendingGroups) rfl rfl rfl, calm.capacity,
    calm.waiting.trans⟩

theorem State.finish_sound_of_controller (s : State) (code : ResultCode) (value : Nat) {c : ControllerState}
    (h : s.cmd.controller = c) (hc : c ≠ .loading ∧ c ≠ .stopping) : s.Sound (s.finish code value) :=
  s.finish_sound code value fun _ => h ▸ hc

theorem State.abortCellOn_sound (s : State) (c : CellId) (loaded : s.cmd.controller = .loaded) :
    s.Sound (s.abortCellOn c) := by
  have cut := (s.modPort_calm c RadioPort.cutProbe).sound
  unfold State.abortCellOn
  dsimp only
  split
  · exact cut.trans (State.setRunning_sound _ _ fun _ => decide_eq_true loaded)
  · exact (cut.trans (State.finish_sound_of_controller _ _ _ loaded ⟨nofun, nofun⟩)).trans (State.nightIfLoaded_calm _).sound

/-- A LOAD in progress was taken in a state that LOAD is taken in, and no night runs under it. -/
theorem State.load_fits (s : State) (hs : s.controllerFits = true) {before : ControllerState} {phase : LoadPhase}
    (h : s.cmd.inProgress = some (.load before phase)) :
    before.takesLoad = true ∧ s.timer.schedule.isSome = false := by
  have fits := s.fits_of_some hs h
  cases phase with
  | recording clamps =>
    obtain ⟨takes, loaded⟩ := Bool.and_eq_true_iff.1 fits
    exact ⟨takes, s.timer_off hs (of_decide_eq_true loaded) ⟨nofun, nofun⟩⟩
  | _ =>
    obtain ⟨takes, loading⟩ := Bool.and_eq_true_iff.1 fits
    exact ⟨takes, s.timer_off hs (of_decide_eq_true loading) ⟨nofun, nofun⟩⟩

/-- LOAD ends with the controller as it was before it (R179, R180). -/
theorem State.returns_sound (s : State) {before : ControllerState} {phase : LoadPhase}
    (h : s.cmd.inProgress = some (.load before phase)) (code : ResultCode) (value : Nat) :
    s.Sound ((s.setController before).finish code value) := by
  refine ⟨fun hs => ?_, id, id⟩
  obtain ⟨takes, timer⟩ := s.load_fits hs h
  obtain ⟨rest, off⟩ := ControllerState.takesLoad_ne takes
  refine State.controllerFits_of_none rfl rest (timer.trans ?_)
  simp [State.nightOn, State.finish, State.raise, State.setResult, State.setController, off]

theorem State.abortLoad_sound (s : State) {before : ControllerState} {phase : LoadPhase}
    (h : s.cmd.inProgress = some (.load before phase)) : s.Sound (s.abortLoad before phase) := by
  have withdrawn (b : MemoryPort) : s.Sound (((s.setController before).setBus b).finish .aborted 0) :=
    (s.setBus_calm b).sound.trans (State.returns_sound (s.setBus b) h .aborted 0)
  cases phase with
  | probing aside clamps saved =>
    have restored := State.Calm.forCells (fun v c => v.modPort_calm c fun p => p.restore (cellAt saved c)) s
    exact restored.sound.trans (State.returns_sound _ (restored.inProgress.trans h) .aborted 0)
  | _ => exact withdrawn _

theorem State.takeAbort_sound (s : State) : s.Sound s.takeAbort := by
  unfold State.takeAbort
  split
  case h_4 loading =>
    split
    · next h => exact s.abortLoad_sound h
    · next other =>
      refine s.finish_sound _ _ fun hs => False.elim ?_
      cases running : s.cmd.inProgress with
      | none => exact (s.controller_of_none hs running).1 loading
      | some r =>
        have fits := s.fits_of_some hs running
        cases r <;> simp [Running.fits, loading] at fits
        exact other _ _ running
  case h_5 loaded =>
    split
    · exact s.abortCellOn_sound _ loaded
    · exact s.setRunning_sound _ fun _ => decide_eq_true loaded
    · exact s.finish_sound_of_controller _ _ loaded ⟨nofun, nofun⟩
  case h_6 h => exact s.finish_sound_of_controller _ _ h ⟨nofun, nofun⟩
  case h_7 h => exact s.finish_sound_of_controller _ _ h ⟨nofun, nofun⟩
  all_goals exact s.abortNight_sound

theorem State.powerOn_within (s : State) : s.powerOnState.withinCapacity = true := by
  have : s.powerOnState.withinCapacity = State.reset.withinCapacity := rfl
  rw [this]
  decide

theorem State.powerOnState_sound (s : State) : s.Sound s.powerOnState :=
  ⟨fun _ => rfl, fun _ => s.powerOn_within, fun _ => rfl⟩

theorem State.resetState_sound (s : State) (busy : Bool) : s.Sound (s.resetState busy) :=
  ⟨fun _ => rfl, fun _ => s.powerOn_within, fun _ => rfl⟩

theorem State.takeReset_sound (s : State) : s.Sound s.takeReset := by
  unfold State.takeReset
  dsimp only
  split
  · exact s.resetState_sound _
  · exact ((s.resetState_sound _).trans (State.setRunning_sound _ _ fun _ => rfl)).trans (State.setBus_calm _ _).sound

/-! ### The CMD register (R175, R176) -/

theorem State.takeCommand_sound (s : State) (idle : s.cmd.inProgress = none) (c : HostCommand) :
    s.Sound (s.takeCommand c) := by
  cases c with
  | load => exact s.takeLoad_sound idle
  | start => exact s.takeStart_sound idle
  | pause => exact s.takePause_sound idle
  | resume => exact s.takeResume_sound idle
  | stop => exact s.takeStop_sound idle
  | abort => exact s.takeAbort_sound
  | reset => exact s.takeReset_sound
  | rescan => exact s.takeRescan_sound idle
  | flipAt group delta => exact s.takeFlipAt_sound idle group delta
  | cancelFlip group => exact s.takeCancelFlip_sound idle group
  | cellOn cell => exact s.takeCellOn_sound idle cell
  | cellOff cell => exact s.takeCellOff_sound idle cell
  | setAttnMask mask =>
    have masked : s.Calm (s.setCmd { s.cmd with mask := mask }) := ⟨rfl, rfl, rfl, rfl, id⟩
    exact masked.completes s idle _ _
  | bad code argument => exact s.finish_sound_of_none idle _ _

/-- What a step does to the command unit and the lists, apart from the command that may wait from it on. -/
structure State.Sounds (s t : State) : Prop where
  fits : s.controllerFits = true → t.controllerFits = true
  capacity : s.withinCapacity = true → t.withinCapacity = true

theorem State.Sound.sounds {s t : State} (h : s.Sound t) : s.Sounds t := ⟨h.fits, h.capacity⟩

theorem State.Sounds.trans {s t u : State} (h : s.Sounds t) (k : t.Sounds u) : s.Sounds u :=
  ⟨k.fits ∘ h.fits, k.capacity ∘ h.capacity⟩

theorem State.queueCommand_sounds (s : State) (c : HostCommand) : s.Sounds (s.queueCommand c) := by
  unfold State.queueCommand
  split
  · exact (s.raise_calm _).sound.sounds
  · split
    · exact ⟨id, id⟩
    · next idle => exact (s.takeCommand_sound (by simpa using idle) c).sounds

theorem State.writeCommand_sounds (s : State) (c : HostCommand) : s.Sounds (s.writeCommand c) := by
  unfold State.writeCommand
  split
  · exact s.takeReset_sound.sounds
  · split
    · exact s.queueCommand_sounds _
    · exact s.takeAbort_sound.sounds
  · exact s.queueCommand_sounds _

theorem State.conclude_sounds (s : State) : s.Sounds s.conclude := by
  unfold State.conclude
  split
  · next idle waits =>
    have took : s.Sounds (s.setCmd { s.cmd with waiting := none }) := ⟨id, id⟩
    have proceeded := State.proceed_sound (s.setCmd { s.cmd with waiting := none })
    have free : (s.setCmd { s.cmd with waiting := none }).proceed.cmd.inProgress = none := by
      rw [State.proceed_none (s.setCmd { s.cmd with waiting := none }) idle]
      exact idle
    exact took.trans ((proceeded.trans (State.takeCommand_sound _ free _)).trans (State.proceed_sound _)).sounds
  · exact s.proceed_sound.sounds

/-! ### Probes and link commands (R152 to R157, R185) -/

theorem State.checkLoadProbes_sound (s : State) : s.Sound s.checkLoadProbes := by
  unfold State.checkLoadProbes
  split
  · next before aside clamps saved loading =>
    split
    · exact .refl s
    · refine .trans ?_ (State.nightDue_calm _ _).sound
      refine ⟨fun hs => ?_, id, id⟩
      obtain ⟨takes, timer⟩ := s.load_fits hs loading
      exact State.controllerFits_of_some (r := .load before (.recording clamps)) rfl
        (Bool.and_eq_true_iff.2 ⟨takes, rfl⟩) timer
  · exact .refl s

theorem State.finishCellOn_sound (s : State) (c : CellId) (ok : Bool) : s.Sound (s.finishCellOn c ok) := by
  unfold State.finishCellOn
  split
  · next running =>
    have completes (code : ResultCode) (value : Nat) : s.Sound (s.finish code value) := by
      refine s.finish_sound code value fun hs => ?_
      have fits := s.fits_of_some hs running
      simp only [Running.fits, Bool.or_eq_true, decide_eq_true_eq] at fits
      rcases fits with (h | h) | h <;> exact h ▸ ⟨nofun, nofun⟩
    extract_lets t
    split
    · exact (completes _ _).trans (State.nightDue_calm _ _).sound
    · exact completes _ _
  · exact .refl s

theorem State.probeEnd_sound (s : State) (c : CellId) (status : ProbeStatus) (ok : Bool) :
    s.Sound (s.probeEnd c status ok) := by
  unfold State.probeEnd
  split
  · exact .refl s
  · extract_lets t
    have noted : s.Calm t := s.modPort_calm c _
    have ends (f : RadioPort → RadioPort) : s.Calm (t.modPort c f) := noted.trans (t.modPort_calm c f)
    split
    · exact (ends _).sound.trans (State.checkLoadProbes_sound _)
    · split
      · have heard (before : CellState) (u : State) (h : s.Calm u) :
            s.Calm (if before = .off then u else u.raise .cell) := by
          split
          · exact h
          · exact h.trans (State.raise_calm _ _)
        exact (heard _ _ (ends _)).sound.trans (State.finishCellOn_sound _ _ _)
      · exact (ends _).sound.trans (State.finishCellOn_sound _ _ _)
    · split
      · exact ((ends _).trans (State.raise_calm _ _)).sound.trans (State.finishCellOn_sound _ _ _)
      · exact (ends _).sound.trans (State.finishCellOn_sound _ _ _)
    · split
      · exact ((ends _).trans (State.raise_calm _ _)).sound
      · split
        · exact (ends _).sound
        · exact ((ends _).trans (State.raise_calm _ _)).sound

theorem State.identAnswered_sound (s : State) (c : CellId) (kind : BitVec 8) : s.Sound (s.identAnswered c kind) := by
  unfold State.identAnswered
  split
  · exact .refl s
  · split
    · exact (s.modPort_calm c _).sound
    · exact s.probeEnd_sound c _ _

theorem State.identSilent_sound (s : State) (c : CellId) (seen : DataIn) : s.Sound (s.identSilent c seen) := by
  unfold State.identSilent
  split
  · exact .refl s
  · dsimp only
    split
    · exact (s.modPort_calm c _).sound
    · exact s.probeEnd_sound c _ _

theorem State.cutCommandOver_sound (s : State) (c : CellId) : s.Sound (s.cutCommandOver c) := by
  unfold State.cutCommandOver
  split
  · next running =>
    refine .trans (s.finish_sound _ _ fun hs => ?_) (State.nightIfLoaded_calm _).sound
    have loaded : s.cmd.controller = .loaded := of_decide_eq_true (s.fits_of_some hs running)
    exact loaded ▸ ⟨nofun, nofun⟩
  · exact .refl s

theorem State.answered_sound (s : State) (c : CellId) (k : LinkCommand) (purpose : Purpose) (kind : BitVec 8) :
    s.Sound (s.answered c k purpose kind) := by
  unfold State.answered
  split
  · exact (s.beaconSent_calm c _).sound
  · exact .refl s
  · split
    · exact s.identAnswered_sound c kind
    · exact s.probeEnd_sound c _ _
    all_goals exact .refl s
  · exact .refl s
  · exact s.cutCommandOver_sound c

theorem State.reportFault_sound (s : State) (c : CellId) (k : LinkCommand) (purpose : Purpose) :
    s.Sound (s.reportFault c k purpose) := by
  unfold State.reportFault
  split
  · exact (s.beaconFault_calm c _).sound
  · exact (s.portFault_calm c _).sound
  · split
    · exact s.probeEnd_sound c _ _
    all_goals exact .refl s
  · exact .refl s
  · exact s.cutCommandOver_sound c

theorem State.linkFault_sound (s : State) (c : CellId) (k : LinkCommand) (purpose : Purpose) :
    s.Sound (s.linkFault c k purpose) :=
  ((s.modPort_calm c _).sound.trans (State.reportFault_sound _ c k purpose)).trans (State.quietCheck_calm _ c).sound

theorem State.unanswered_sound (s : State) (c : CellId) (k : LinkCommand) (purpose : Purpose) (second last : Bool)
    (seen : DataIn) : s.Sound (s.unanswered c k purpose second last seen) := by
  have ended : s.Calm (s.endExchange c) := s.modPort_calm c _
  unfold State.unanswered
  split
  · exact ended.sound
  · split
    · exact ended.sound.trans (State.identSilent_sound _ c seen)
    · split
      · exact s.linkFault_sound c k purpose
      · split
        · exact ended.sound.trans (State.cutCommandOver_sound _ c)
        · exact (s.modPort_calm c _).sound

theorem State.takeAnswer_sound (s : State) (c : CellId) (answer : Word) : s.Sound (s.takeAnswer c answer) := by
  unfold State.takeAnswer
  split
  · split
    · exact (s.modPort_calm c _).sound.trans (State.answered_sound _ c _ _ _)
    · exact s.unanswered_sound c _ _ _ _ _
  · exact .refl s

theorem State.takeTimeout_sound (s : State) (c : CellId) (seen : DataIn) : s.Sound (s.takeTimeout c seen) := by
  unfold State.takeTimeout
  split
  · exact s.unanswered_sound c _ _ _ _ seen
  · exact .refl s

/-! ### The night record, the anchor read and the words of a transfer (R163, R172, R179) -/

theorem State.nightWritten_sound (s : State) : s.Sound s.nightWritten := by
  unfold State.nightWritten
  split
  · next running =>
    have loaded (hs : s.controllerFits = true) : s.cmd.controller = .loaded := by
      obtain ⟨_, loaded⟩ := Bool.and_eq_true_iff.1 (s.fits_of_some hs running)
      exact of_decide_eq_true loaded
    have completes (code : ResultCode) (value : Nat) : s.Sound (s.finish code value) :=
      s.finish_sound _ _ fun hs => loaded hs ▸ ⟨nofun, nofun⟩
    split <;> exact completes _ _
  · next running =>
    refine ⟨fun hs => State.controllerFits_of_none rfl ⟨nofun, nofun⟩ ?_, id, id⟩
    exact s.timer_off hs (of_decide_eq_true (s.fits_of_some hs running)) ⟨nofun, nofun⟩
  · next running =>
    refine s.finish_sound _ _ fun hs => ?_
    have loaded : s.cmd.controller = .loaded := of_decide_eq_true (s.fits_of_some hs running)
    exact loaded ▸ ⟨nofun, nofun⟩
  · exact .refl s

theorem State.nightDone_sound (s : State) : s.Sound s.nightDone := by
  unfold State.nightDone
  split
  · split
    · split
      · exact s.endNightWrite_calm.sound.trans (State.nightWritten_sound _)
      · exact s.endNightWrite_calm.sound
    · exact .refl s
  · exact .refl s

/-- A LOAD goes on while its anchor block is read or its cells probe. -/
theorem State.goesOn_sound (s : State) {before : ControllerState} {phase next : LoadPhase}
    (h : s.cmd.inProgress = some (.load before phase)) (was : ∀ clamps, phase ≠ .recording clamps)
    (on : ∀ clamps, next ≠ .recording clamps) :
    s.Sound (s.setCmd { s.cmd with inProgress := some (.load before next) }) := by
  refine ⟨fun hs => State.controllerFits_of_some (r := .load before next) rfl ?_ (s.timer_of_fits hs), id, id⟩
  have fits := s.fits_of_some hs h
  cases phase with
  | recording clamps => exact absurd rfl (was clamps)
  | _ =>
    cases next with
    | recording clamps => exact absurd rfl (on clamps)
    | _ => exact fits

theorem State.anchorRead_sound (s : State) : s.Sound s.anchorRead := by
  unfold State.anchorRead
  split
  · next before words saved running =>
    split
    · have probing := s.goesOn_sound running nofun
        (next := .probing (anchorSettings words) (anchorClamps words) saved) nofun
      exact (probing.trans (State.Calm.forCells (fun u c => u.modPort_calm c _) _).sound).trans
        (State.checkLoadProbes_sound _)
    · exact s.returns_sound running _ _
  · exact .refl s

theorem State.deliverAnchor_sound (s : State) (words : List Word) : s.Sound (s.deliverAnchor words) := by
  unfold State.deliverAnchor
  split
  · next before address got saved running =>
    split
    · have next := s.goesOn_sound running nofun (next := .reading address words saved) nofun
      exact next.trans (State.offer_calm _ _ _).sound
    · exact s.goesOn_sound running nofun (next := .read (got ++ words) saved) nofun
  · exact .refl s

theorem State.deliver_sound (s : State) (r : Requester) (words : List Word) : s.Sound (s.deliver r words) := by
  cases r with
  | fetch => exact (s.deliverFetch_calm words).sound
  | writeBack => exact (s.setWbPhase_calm _).sound
  | entry => exact (s.deliverEntry_calm words).sound
  | night => exact s.nightBurstDone_calm.sound
  | anchor => exact s.deliverAnchor_sound words

theorem State.anchorFailed_sound (s : State) : s.Sound s.anchorFailed := by
  unfold State.anchorFailed
  split
  · next running => exact s.returns_sound running _ _
  · exact .refl s

theorem State.failed_sound (s : State) (r : Requester) : s.Sound (s.failed r) := by
  cases r with
  | fetch => exact s.fetchFailed_calm.sound
  | writeBack => exact (s.setWbPhase_calm _).sound
  | entry => exact s.entryFailed_calm.sound
  | night => exact .refl s
  | anchor => exact s.anchorFailed_sound

theorem State.afterTransfer_sounds (s : State) {go : State → State} (h : s.Sound (go s)) :
    s.Sounds (s.afterTransfer go) := by
  unfold State.afterTransfer
  split
  · exact (s.resetState_sound _).sounds
  · exact h.sounds.trans (State.conclude_sounds _)

theorem State.storeWord_calm (s : State) (tr : Transfer) : s.Calm (s.storeWord tr) := by
  unfold State.storeWord
  split
  · exact s.setShared_calm _
  · exact .refl s

theorem State.transferDone_sounds (s : State) (tr : Transfer) (words : List Word) :
    s.Sounds (s.transferDone tr words) := by
  refine (s.setBus_calm _).sound.sounds.trans (State.afterTransfer_sounds _ ?_)
  split
  · exact .refl _
  · exact State.deliver_sound _ _ _

theorem State.transferFailed_sounds (s : State) (tr : Transfer) : s.Sounds (s.transferFailed tr) := by
  refine ((s.setBus_calm _).trans (State.memFault_calm _)).sound.sounds.trans (State.afterTransfer_sounds _ ?_)
  split
  · exact .refl _
  · exact State.failed_sound _ _

theorem State.completeWord_sounds (s : State) (tr : Transfer) (data : Word) (parity : BitVec 4) :
    s.Sounds (s.completeWord tr data parity) := by
  unfold State.completeWord
  split
  · split
    · exact s.transferFailed_sounds tr
    · exact (s.setBus_calm _).sound.sounds
  · have stored := s.storeWord_calm tr
    split
    · exact (stored.trans (State.setBus_calm _ _)).sound.sounds
    · exact stored.sound.sounds.trans (State.transferDone_sounds _ _ _)

/-- Entry into FAULTED ends the command in progress, if there is one (R185). -/
theorem State.faulted_sound (s u : State) (timer : u.timer.schedule.isSome = false)
    (room : s.withinCapacity = true → u.withinCapacity = true) (waits : s.cmd.waiting = none → u.cmd.waiting = none)
    (idle : s.cmd.inProgress = none → u.cmd.inProgress = none) :
    s.Sound (if s.cmd.inProgress.isSome then ((u.setController .faulted).raise .faulted).finish .fault 0
      else (u.setController .faulted).raise .faulted) := by
  split
  · exact ⟨fun _ => State.controllerFits_of_none rfl ⟨nofun, nofun⟩ timer, room, waits⟩
  · next none =>
    exact ⟨fun _ => State.controllerFits_of_none (idle (by simpa using none)) ⟨nofun, nofun⟩ timer, room, waits⟩

theorem State.enterFaulted_sound (s : State) : s.Sound s.enterFaulted := by
  unfold State.enterFaulted
  split
  · exact s.resetState_sound _
  · obtain ⟨u, calm, cut⟩ := s.cutNight_calm none
    extract_lets t n night v w
    have restored : (u.setTimer { u.timer with schedule := none }).Calm v := by
      have emptied : (u.setTimer { u.timer with schedule := none }).Calm night := by
        rw [← cut]
        exact ((s.cutNight none).setBus_calm memoryPortReset).trans (t.setNight_calm _)
      unfold v
      split
      · exact emptied.trans (.forCells (fun w c => w.modPort_calm c _) _)
      · exact emptied
    exact State.faulted_sound s v restored.timer (restored.capacity ∘ calm.capacity)
      (restored.waiting.trans ∘ calm.waiting.trans) (restored.inProgress.trans ∘ calm.inProgress.trans)

/-! ### Every step -/

theorem State.takeBeacon_sounds (s : State) : s.Sounds s.takeBeacon := by
  unfold State.takeBeacon
  extract_lets t b notices u v
  have counted : s.Calm v := (s.countBeacon_calm.trans (t.nightDue_calm false)).trans (u.setPort_calm _)
  exact (counted.trans (.forCells (State.cellBeacon_calm b notices) v)).sound.sounds.trans (State.conclude_sounds _)

theorem State.loseNotice_calm (s : State) : s.Calm s.loseNotice :=
  ((s.setCounts_calm _).trans (State.raise_calm _ _)).trans (State.rescanRequest_calm _)

/-- A notice joins the queue only while it holds fewer than 8 (R24). -/
theorem State.takeNotice_calm (s : State) (first spanMinusOne : BitVec 16) :
    s.Calm (s.takeNotice first spanMinusOne) := by
  unfold State.takeNotice
  split
  · exact .refl s
  · split
    · exact .refl s
    · split
      · next n _ room =>
        refine ⟨rfl, rfl, rfl, rfl, fun hs => (State.withinCapacity_iff _).2 ?_⟩
        obtain ⟨_, listed⟩ := s.withinCapacity_iff.1 hs
        exact ⟨(List.length_append.trans (by rfl)).trans_le room, listed⟩
      · exact s.loseNotice_calm

theorem State.writeRegister_sounds (s : State) (offset value : Word) : s.Sounds (s.writeRegister offset value) := by
  unfold State.writeRegister
  split
  · exact ⟨id, id⟩
  · split
    · exact (s.writeCommand_sounds _).trans (State.conclude_sounds _)
    · split
      · exact (s.takeNotice_calm _ _).sound.sounds
      · split
        · exact ⟨id, id⟩
        · exact ⟨id, id⟩

theorem exec_sounds (c : Instr) (s t : State) (h : exec c s = .next t) : s.Sounds t := by
  have ends {u : State} (hu : s.Sounds u) (h : (Host.Outcome.next u.conclude : Outcome) = .next t) : s.Sounds t := by
    obtain rfl := Host.Outcome.next.inj h
    exact hu.trans u.conclude_sounds
  have calm {u : State} (hu : s.Calm u) := ends hu.sound.sounds
  have answers {u : State} (hu : s.Sounds u) (h : (Host.Outcome.next u : Outcome) = .next t) : s.Sounds t := by
    obtain rfl := Host.Outcome.next.inj h
    exact hu
  cases c with
  | powerOn => exact answers s.powerOnState_sound.sounds h
  | resetPin => exact answers s.powerOnState_sound.sounds h
  | notice first span => exact answers (s.takeNotice_calm first span).sound.sounds h
  | attnClear value => exact answers (u := s.clearCauses value) ⟨id, id⟩ h
  | otherRegisterWrite offset value => exact answers (s.writeRegister_sounds offset value) h
  | beaconEvent =>
    refine answers ?_ h
    split
    · exact s.takeBeacon_sounds
    · exact ⟨id, id⟩
  | planPoint =>
    refine answers ?_ h
    split
    · exact s.takePlanPoint_calm.sound.sounds
    · exact ⟨id, id⟩
  | itemSlotStart c => exact calm (s.slotStart_calm c) h
  | frameSlotStart c => exact calm (s.frameSlot_calm c) h
  | replySlotStart c => exact calm (s.replyStart_calm c) h
  | replySlotEnd c => exact calm (s.replyEnd_calm c) h
  | windowEnd c =>
    refine answers ?_ h
    split
    · exact (s.endWindow_calm c).sound.sounds.trans (State.conclude_sounds _)
    · exact ⟨id, id⟩
  | restartCountdownExpiry c => exact calm (s.countdownOver_calm c) h
  | linkAnswer c answer => exact ends (s.takeAnswer_sound c answer).sounds h
  | linkTimeout c seen => exact ends (s.takeTimeout_sound c seen).sounds h
  | frameReady c => exact calm (s.raiseFrameReady_calm c) h
  | framePullDone c lengthWord words => exact calm (s.takePull_calm c lengthWord words) h
  | fifoFrameTaken c => exact calm (s.takeHeadFrame_calm c) h
  | busGrant => exact answers (s.setBus_calm _).sound.sounds h
  | backoff => exact answers (s.setBus_calm _).sound.sounds h
  | backoffWithdrawn => exact answers (s.setBus_calm _).sound.sounds h
  | wordComplete data parity =>
    refine answers ?_ h
    split
    · exact s.completeWord_sounds _ data parity
    · exact ⟨id, id⟩
  | transferError =>
    refine answers ?_ h
    split
    · exact s.enterFaulted_sound.sounds.trans (State.conclude_sounds _)
    · exact ⟨id, id⟩
  | entryReaderTake => exact calm s.takeEntry_calm h
  | entryReadDone => exact calm s.entryRead_calm h
  | sweepPartHalfWritten => exact calm s.sweepWritten_calm h
  | sweepMarkSet => exact calm s.sweepMarked_calm h
  | fetchStart => exact calm s.beginFetch_calm h
  | fetchHeaderRead => exact calm s.takeHeader_calm h
  | fetchBurstRead => exact calm s.takeBurst_calm h
  | writeBackStart => exact calm s.beginWriteBack_calm h
  | writeBackPartHalfWritten => exact calm s.partHalfDone_calm h
  | writeBackMarkSet => exact calm s.markDone_calm h
  | nightRecordWriteDone => exact ends s.nightDone_sound.sounds h
  | anchorReadDone => exact ends s.anchorRead_sound.sounds h
  | _ => exact ends (s.writeCommand_sounds _) h

/-- A step is an exec of the queue's front, or nothing. -/
theorem step_cases {s t : State} (h : step s = .next t) :
    t = s ∨ ∃ c rest, s.pending = c :: rest ∧ exec c (s.setPending rest) = .next t := by
  unfold step at h
  split at h
  · exact .inl (Host.Outcome.next.inj h).symm
  · next c rest pending => exact .inr ⟨c, rest, pending, h⟩

theorem step_sounds {s t : State} (h : step s = .next t) : s.Sounds t := by
  rcases step_cases h with rfl | ⟨c, rest, _, h⟩
  · exact ⟨id, id⟩
  · have queued : s.Sounds (s.setPending rest) := ⟨id, id⟩
    exact queued.trans (exec_sounds c _ t h)

/-- Settles O60. -/
theorem stepKeepsControllerFit : Obligations.StepKeepsControllerFit := by
  unfold Obligations.StepKeepsControllerFit
  exact fun s t fits h => (step_sounds h).fits fits

/-! ### A step leaves nothing waiting that could begin -/

theorem State.checkDrain_settles (s : State) : s.checkDrain.drainDue = false := by
  unfold State.checkDrain
  split
  · have noted := (State.nightDue_calm (s.setCmd { s.cmd with inProgress := some (.stop true) }) true).inProgress
    simp [State.drainDue, noted]
  · next h => simpa using h

theorem State.kickAll_drainDue (s : State) : s.kickAll.drainDue = s.drainDue := by
  obtain ⟨p, h⟩ := s.kickAll_frame
  rw [h]
  rfl

theorem State.arbitrate_drainDue (s : State) : s.arbitrate.drainDue = s.drainDue := by
  obtain ⟨b, h⟩ := s.arbitrate_frame
  rw [h]
  rfl

theorem State.proceed_settles (s : State) (h : s.cmd.inProgress.isSome = true ∨ s.cmd.waiting = none) :
    s.proceed.settled = true := by
  have drained : s.proceed.drainDue = false := by
    rw [State.proceed, State.arbitrate_drainDue, State.kickAll_drainDue, State.checkDrain_settles]
  have ports : s.proceed.port = s.checkDrain.kickAll.port := by
    obtain ⟨b, hb⟩ := s.checkDrain.kickAll.arbitrate_frame
    rw [State.proceed, hb]
  refine (State.settled_iff _).2 ⟨?_, drained, fun c => ?_, State.arbitrate_settles _⟩
  · rcases h with h | h
    · left
      have after := ((State.kickAll_calm s.checkDrain).trans (State.arbitrate_calm _)).inProgress
      rw [State.proceed, after, State.checkDrain]
      split
      · rw [(State.nightDue_calm _ _).inProgress]
        rfl
      · exact h
    · exact .inr (s.proceed_sound.waiting h)
  · rw [State.portAt, ports]
    exact State.kickAll_settles _ c

/-- Whatever state a step has made, its end settles it (R146, R165, R175, R184). -/
theorem State.conclude_settles (s : State) : s.conclude.settled = true := by
  unfold State.conclude
  split
  · next c idle waits =>
    refine State.proceed_settles _ (.inr ?_)
    have before := State.proceed_none (s.setCmd { s.cmd with waiting := none }) idle
    refine (State.takeCommand_sound _ ?_ c).waiting ?_
    · rw [before]
      exact idle
    · rw [before]
      rfl
  · next other =>
    refine s.proceed_settles ?_
    cases running : s.cmd.inProgress with
    | some r => exact .inl rfl
    | none =>
      cases waits : s.cmd.waiting with
      | none => exact .inr rfl
      | some c => exact (other c running waits).elim

/-- A port that is not idle has begun its transfer. -/
theorem MemoryPort.settled_of_busy (p : MemoryPort) (h : p.bus ≠ .idle) : p.settled = true := by
  simp [MemoryPort.settled, h]

theorem State.setBus_settles (s : State) (b : MemoryPort) (hs : s.settled = true) (hb : b.settled = true) :
    (s.setBus b).settled = true := by
  obtain ⟨commands, drain, ports, _⟩ := s.settled_iff.1 hs
  exact (State.settled_iff _).2 ⟨commands, drain, ports, hb⟩

section
variable (p : MemoryPort) (h : p.settled = true)
include h

theorem MemoryPort.grant_settles : p.grant.settled = true := by
  unfold MemoryPort.grant
  split
  · exact MemoryPort.settled_of_busy _ nofun
  · exact h

theorem MemoryPort.backOff_settles : p.backOff.settled = true := by
  unfold MemoryPort.backOff
  split
  · split <;> exact MemoryPort.settled_of_busy _ nofun
  · exact h

theorem MemoryPort.resume_settles : p.resume.settled = true := by
  unfold MemoryPort.resume
  split
  · exact MemoryPort.settled_of_busy _ nofun
  · exact h

end

theorem State.powerOnState_settled (s : State) : s.powerOnState.settled = true := by
  have same : s.powerOnState.settled = State.reset.settled := rfl
  rw [same]
  decide

theorem State.resetState_settled (s : State) (busy : Bool) : (s.resetState busy).settled = true := s.powerOnState_settled

theorem State.afterTransfer_settles (s : State) (go : State → State) : (s.afterTransfer go).settled = true := by
  unfold State.afterTransfer
  split
  · exact s.resetState_settled _
  · exact State.conclude_settles _

theorem State.storeWord_eq (s : State) (tr : Transfer) : ∃ m, s.storeWord tr = s.setShared m := by
  unfold State.storeWord
  split
  · exact ⟨_, rfl⟩
  · exact ⟨s.shared, rfl⟩

theorem State.completeWord_settles (s : State) (hs : s.settled = true) {tr : Transfer} (h : s.bus.issuing = some tr)
    (data : Word) (parity : BitVec 4) : (s.completeWord tr data parity).settled = true := by
  have holding : s.bus.bus = .holding := by
    by_contra other
    simp [MemoryPort.issuing, other] at h
  have busy (b : MemoryPort) (hb : b.bus = s.bus.bus) : b.settled = true :=
    b.settled_of_busy (by rw [hb, holding]; exact nofun)
  unfold State.completeWord
  split
  · split
    · exact State.afterTransfer_settles _ _
    · exact s.setBus_settles _ hs (busy _ rfl)
  · split
    · obtain ⟨m, stored⟩ := s.storeWord_eq tr
      rw [stored]
      exact State.setBus_settles (s.setShared m) _ hs (busy _ rfl)
    · exact State.afterTransfer_settles _ _

/-! ### A plan point, and the other steps that end at once -/

theorem State.drainOver_congr {s t : State} (due : ∀ c, (t.dueAt c).isEmpty = (s.dueAt c).isEmpty)
    (standing : ∀ c, (t.seqAt c).standing = (s.seqAt c).standing) (wb : t.wb = s.wb) (sweep : t.sweep = s.sweep) :
    t.drainOver = s.drainOver := by
  simp only [State.drainOver, due, standing, wb, sweep]

theorem State.handPlan_drainOver (s : State) (c : CellId) (plan : Plan) : (s.handPlan c plan).drainOver = s.drainOver := by
  refine State.drainOver_congr (fun d => ?_) (fun d => ?_) rfl rfl
  · by_cases h : d = c
    · simp [h, State.handPlan, planRecords]
    · simp [h, State.handPlan]
  · by_cases h : d = c
    · simp [h, State.handPlan]
    · simp [h, State.handPlan]

/-- A plan handed over leaves the links, the memory port and a drain as they are. -/
theorem State.planCell_same (b : BeaconNo) (s : State) (c : CellId) :
    (s.planCell b c).cmd = s.cmd ∧ (s.planCell b c).port = s.port ∧ (s.planCell b c).bus = s.bus ∧
      (s.planCell b c).drainOver = s.drainOver := by
  unfold State.planCell
  split
  · exact ⟨rfl, rfl, rfl, s.handPlan_drainOver c _⟩
  · refine ⟨rfl, rfl, rfl, State.drainOver_congr (fun _ => rfl) (fun d => ?_) rfl rfl⟩
    by_cases h : d = c <;> simp [h]

theorem State.settled_congr {s t : State} (cmd : t.cmd = s.cmd) (port : t.port = s.port) (bus : t.bus = s.bus)
    (drain : t.drainOver = s.drainOver) : t.settled = s.settled := by
  simp only [State.settled, State.drainDue, State.stopping, State.portAt, cmd, port, bus, drain]

theorem State.setTimer_settled (s : State) (v : BeaconTimer) : (s.setTimer v).settled = s.settled := rfl

theorem State.takePlanPoint_settled (s : State) : s.takePlanPoint.settled = s.settled := by
  have step (u : State) (c : CellId) : (u.planCell (s.timer.now + 1) c).settled = u.settled := by
    obtain ⟨cmd, port, bus, drain⟩ := State.planCell_same (s.timer.now + 1) u c
    exact State.settled_congr cmd port bus drain
  have handed : (forCells (State.planCell (s.timer.now + 1)) s).settled = s.settled := by
    rw [forCells_eq, step, step, step, step]
  unfold State.takePlanPoint
  dsimp only
  rw [State.setTimer_settled]
  exact handed

theorem State.rescanRequest_settles (s : State) (hs : s.settled = true) (on : s.nightOn = true) :
    s.rescanRequest.settled = true := by
  obtain ⟨commands, _, ports, bus⟩ := s.settled_iff.1 hs
  obtain ⟨x, d, w, n, f, h⟩ := s.rescanRequest_frame
  rw [h]
  have undrained : s.stopping = false := State.nightOn_not_stopping on
  simp only [State.stopping] at undrained
  exact (State.settled_iff _).2 ⟨commands, by simp [State.drainDue, State.stopping, undrained], ports, bus⟩

theorem State.takeNotice_settles (s : State) (hs : s.settled = true) (first spanMinusOne : BitVec 16) :
    (s.takeNotice first spanMinusOne).settled = true := by
  unfold State.takeNotice
  split
  · exact hs
  · next on =>
    split
    · exact hs
    · split
      · exact hs
      · have on : s.nightOn = true := by simpa using on
        exact State.rescanRequest_settles _ hs on

theorem State.writeRegister_settles (s : State) (hs : s.settled = true) (offset value : Word) :
    (s.writeRegister offset value).settled = true := by
  unfold State.writeRegister
  split
  · exact hs
  · split
    · exact State.conclude_settles _
    · split
      · exact s.takeNotice_settles hs _ _
      · split <;> exact hs

theorem exec_settles (c : Instr) (s t : State) (hs : s.settled = true) (h : exec c s = .next t) : t.settled = true := by
  have answers {u : State} (hu : u.settled = true) (h : (Host.Outcome.next u : Outcome) = .next t) : t.settled = true := by
    obtain rfl := Host.Outcome.next.inj h
    exact hu
  obtain ⟨_, _, _, bus⟩ := s.settled_iff.1 hs
  cases c with
  | powerOn => exact answers s.powerOnState_settled h
  | resetPin => exact answers s.powerOnState_settled h
  | notice first span => exact answers (s.takeNotice_settles hs first span) h
  | attnClear value => exact answers (u := s.clearCauses value) hs h
  | otherRegisterWrite offset value => exact answers (s.writeRegister_settles hs offset value) h
  | beaconEvent =>
    refine answers ?_ h
    split
    · exact State.conclude_settles _
    · exact hs
  | planPoint =>
    refine answers ?_ h
    split
    · exact s.takePlanPoint_settled.trans hs
    · exact hs
  | windowEnd c =>
    refine answers ?_ h
    split
    · exact State.conclude_settles _
    · exact hs
  | busGrant => exact answers (s.setBus_settles _ hs (s.bus.grant_settles bus)) h
  | backoff => exact answers (s.setBus_settles _ hs (s.bus.backOff_settles bus)) h
  | backoffWithdrawn => exact answers (s.setBus_settles _ hs (s.bus.resume_settles bus)) h
  | wordComplete data parity =>
    refine answers ?_ h
    split
    · next issuing => exact s.completeWord_settles hs issuing data parity
    · exact hs
  | transferError =>
    refine answers ?_ h
    split
    · exact State.conclude_settles _
    · exact hs
  | _ => exact answers (State.conclude_settles _) h

/-- Settles O59: the end of a step settles it, and no operation overfills a list. -/
theorem stepKeepsSettledWithinCapacity : Obligations.StepKeepsSettledWithinCapacity := by
  unfold Obligations.StepKeepsSettledWithinCapacity
  intro s t settled within h
  refine ⟨?_, (step_sounds h).capacity within⟩
  rcases step_cases h with rfl | ⟨c, rest, _, h⟩
  · exact settled
  · exact exec_settles c (s.setPending rest) t settled h

/-! ### Shared memory -/

theorem State.storeWord_wf (s : State) (tr : Transfer) (h : Memory.wf s.shared = true) :
    Memory.wf (s.storeWord tr).shared = true := by
  unfold State.storeWord
  split
  · exact writeWord_wf _ _ _ h
  · exact h

theorem State.afterTransfer_kept (s : State) {go : State → State}
    (h : (go s).shared = s.shared ∧ (go s).pending = s.pending) :
    (s.afterTransfer go).shared = s.shared ∧ (s.afterTransfer go).pending = s.pending := by
  unfold State.afterTransfer
  split
  · exact s.resetState_kept _
  · exact ⟨(State.conclude_kept _).1.trans h.1, (State.conclude_kept _).2.trans h.2⟩

theorem State.transferDone_kept (s : State) (tr : Transfer) (words : List Word) :
    (s.transferDone tr words).shared = s.shared ∧ (s.transferDone tr words).pending = s.pending := by
  refine State.afterTransfer_kept (s.setBus s.bus.release) ?_
  split
  · exact ⟨rfl, rfl⟩
  · exact State.deliver_kept _ _ _

theorem State.transferFailed_kept (s : State) (tr : Transfer) :
    (s.transferFailed tr).shared = s.shared ∧ (s.transferFailed tr).pending = s.pending := by
  refine State.afterTransfer_kept (s.setBus s.bus.release).memFault ?_
  split
  · exact ⟨rfl, rfl⟩
  · exact State.failed_kept _ _

/-- Of a completed word only a word that is written reaches shared memory (R160, R162, R163). -/
theorem State.completeWord_shared (s : State) (tr : Transfer) (data : Word) (parity : BitVec 4) :
    (s.completeWord tr data parity).shared =
      if tr.wordBad s.bus.nextWord data parity = true then s.shared else (s.storeWord tr).shared := by
  unfold State.completeWord
  split
  · split
    · exact (s.transferFailed_kept tr).1
    · rfl
  · split
    · rfl
    · exact (State.transferDone_kept _ _ _).1

/-- Every other command leaves shared memory and the queue as they are (R160). -/
theorem exec_kept (c : Instr) (s t : State) (hc : ∀ data parity, c ≠ .wordComplete data parity)
    (h : exec c s = .next t) : t.shared = s.shared ∧ t.pending = s.pending := by
  have answers {u : State} (hu : u.shared = s.shared ∧ u.pending = s.pending)
      (h : (Host.Outcome.next u : Outcome) = .next t) : t.shared = s.shared ∧ t.pending = s.pending := by
    obtain rfl := Host.Outcome.next.inj h
    exact hu
  cases c with
  | powerOn => exact answers s.powerOnState_kept h
  | resetPin => exact answers s.powerOnState_kept h
  | notice first span => exact answers (s.takeNotice_kept first span) h
  | attnClear value => exact answers (s.clearCauses_kept value) h
  | otherRegisterWrite offset value => exact answers (s.writeRegister_kept offset value) h
  | wordComplete data parity => exact absurd rfl (hc data parity)
  | busGrant => exact answers (u := s.setBus s.bus.grant) ⟨rfl, rfl⟩ h
  | backoff => exact answers (u := s.setBus s.bus.backOff) ⟨rfl, rfl⟩ h
  | backoffWithdrawn => exact answers (u := s.setBus s.bus.resume) ⟨rfl, rfl⟩ h
  | beaconEvent | planPoint | windowEnd | transferError =>
    refine answers ?_ h
    split <;> simp
  | _ => exact answers (by simp) h

/-- Settles O58: a completed word's write keeps the form, and nothing else writes. -/
theorem stepKeepsSharedMemoryCanonical : Obligations.StepKeepsSharedMemoryCanonical := by
  unfold Obligations.StepKeepsSharedMemoryCanonical
  intro s t wf h
  rcases step_cases h with rfl | ⟨c, rest, _, h⟩
  · exact wf
  · by_cases word : ∃ data parity, c = .wordComplete data parity
    · obtain ⟨data, parity, rfl⟩ := word
      obtain rfl := Host.Outcome.next.inj h
      split
      · rw [State.completeWord_shared]
        split
        · exact wf
        · exact State.storeWord_wf _ _ wf
      · exact wf
    · obtain ⟨shared, _⟩ := exec_kept c (s.setPending rest) t (fun data parity hc => word ⟨data, parity, hc⟩) h
      rw [shared]
      exact wf

/-- Settles O57. -/
theorem resetMeetsTheInvariants : Obligations.ResetMeetsTheInvariants := by
  unfold Obligations.ResetMeetsTheInvariants
  decide

end Sys2Proof.Machine
end

section
/-! PROOFS. Fields packed into a word are read back at their bits, and the register window: what each address takes and gives. -/

namespace Sys2Proof.Machine

/-! ### Packed fields (R190) -/

/-- Fields that lie one above the other, from bit `lo` up to bit `hi`. -/
def ascends : Nat → List (Nat × Nat × Nat) → Nat → Prop
  | lo, [], hi => lo ≤ hi
  | lo, f :: rest, hi => lo ≤ f.1 ∧ ascends (f.1 + f.2.1) rest hi

@[simp] theorem ascends_nil (lo hi : Nat) : ascends lo [] hi ↔ lo ≤ hi := Iff.rfl

@[simp] theorem ascends_cons (lo hi : Nat) (f : Nat × Nat × Nat) (rest : List (Nat × Nat × Nat)) :
    ascends lo (f :: rest) hi ↔ lo ≤ f.1 ∧ ascends (f.1 + f.2.1) rest hi := Iff.rfl

/-- The number that packed fields make. -/
def fieldSum (fields : List (Nat × Nat × Nat)) : Nat := (fields.map fun f => f.2.2 % 2 ^ f.2.1 * 2 ^ f.1).sum

/-- The number of ascending fields has nothing below the first field's bits and nothing above the last one's. -/
theorem fieldSum_bounds (fields : List (Nat × Nat × Nat)) : ∀ lo hi, ascends lo fields hi →
    2 ^ lo ∣ fieldSum fields ∧ fieldSum fields + 2 ^ lo ≤ 2 ^ hi := by
  induction fields with
  | nil => exact fun lo hi h => ⟨dvd_zero _, by simpa [fieldSum] using Nat.pow_le_pow_right two_pos h⟩
  | cons f rest ih =>
    intro lo hi ⟨above, ascending⟩
    obtain ⟨divides, below⟩ := ih _ _ ascending
    have sum : fieldSum (f :: rest) = f.2.2 % 2 ^ f.2.1 * 2 ^ f.1 + fieldSum rest := by simp [fieldSum]
    have fits : f.2.2 % 2 ^ f.2.1 * 2 ^ f.1 + 2 ^ f.1 ≤ 2 ^ (f.1 + f.2.1) := by
      rw [pow_add, mul_comm (2 ^ f.1), ← Nat.succ_mul]
      exact Nat.mul_le_mul_right _ (Nat.mod_lt _ (Nat.two_pow_pos _))
    have low : 2 ^ lo ≤ 2 ^ f.1 := Nat.pow_le_pow_right two_pos above
    rw [sum]
    refine ⟨dvd_add (dvd_mul_of_dvd_right (pow_dvd_pow 2 above) _) ?_, by omega⟩
    exact (pow_dvd_pow 2 (above.trans (Nat.le_add_right _ _))).trans divides

/-- A field that begins above `lo` is what stands at its bits in the number. -/
theorem fieldSum_field {p w v : Nat} (fields : List (Nat × Nat × Nat)) : ∀ lo hi, ascends lo fields hi →
    (p, w, v) ∈ fields → fieldSum fields / 2 ^ p % 2 ^ w = v % 2 ^ w ∧ p + w ≤ hi ∧ lo ≤ p := by
  induction fields with
  | nil => exact fun lo hi _ mem => absurd mem List.not_mem_nil
  | cons f rest ih =>
    intro lo hi ⟨above, ascending⟩ mem
    obtain ⟨divides, below⟩ := fieldSum_bounds rest _ _ ascending
    have sum : fieldSum (f :: rest) = f.2.2 % 2 ^ f.2.1 * 2 ^ f.1 + fieldSum rest := by simp [fieldSum]
    rw [sum]
    rcases List.mem_cons.1 mem with rfl | mem
    · obtain ⟨k, hk⟩ := divides
      refine ⟨?_, ?_, above⟩
      · rw [hk, pow_add, mul_comm (v % 2 ^ w), mul_assoc, ← Nat.mul_add, Nat.mul_div_cancel_left _ (Nat.two_pow_pos p),
          Nat.add_mul_mod_self_left, Nat.mod_mod]
      · exact (Nat.pow_le_pow_iff_right (le_refl 2)).1 ((Nat.le_add_left _ _).trans below)
    · obtain ⟨field, fits, higher⟩ := ih _ _ ascending mem
      refine ⟨?_, fits, above.trans ((Nat.le_add_right _ _).trans higher)⟩
      have small : f.2.2 % 2 ^ f.2.1 * 2 ^ f.1 < 2 ^ (f.1 + f.2.1) := by
        rw [pow_add, mul_comm (2 ^ f.1)]
        exact Nat.mul_lt_mul_of_pos_right (Nat.mod_lt _ (Nat.two_pow_pos _)) (Nat.two_pow_pos _)
      obtain ⟨k, hk⟩ := divides
      have split : 2 ^ p = 2 ^ (f.1 + f.2.1) * 2 ^ (p - (f.1 + f.2.1)) := by rw [← pow_add, Nat.add_sub_cancel' higher]
      have low : (f.2.2 % 2 ^ f.2.1 * 2 ^ f.1 + fieldSum rest) / 2 ^ p = fieldSum rest / 2 ^ p := by
        rw [hk, split, ← Nat.div_div_eq_div_mul, ← Nat.div_div_eq_div_mul, Nat.add_mul_div_left _ _ (Nat.two_pow_pos _),
          Nat.div_eq_of_lt small, Nat.mul_div_cancel_left _ (Nat.two_pow_pos _), Nat.zero_add]
      rw [low]
      exact field

/-- Each of the fields that make a word stands at its own bits of it (R190). -/
theorem packFields_field {p w v : Nat} {fields : List (Nat × Nat × Nat)} (h : ascends 0 fields 32)
    (mem : (p, w, v) ∈ fields) : (packFields fields).extractLsb' p w = BitVec.ofNat w v := by
  obtain ⟨field, _, _⟩ := fieldSum_field fields 0 32 h mem
  obtain ⟨_, below⟩ := fieldSum_bounds fields 0 32 h
  apply BitVec.eq_of_toNat_eq
  have whole : (packFields fields).toNat = fieldSum fields := by
    rw [packFields, BitVec.toNat_ofNat]
    exact Nat.mod_eq_of_lt (by unfold fieldSum at below; omega)
  rw [BitVec.extractLsb'_toNat, BitVec.toNat_ofNat, whole, Nat.shiftRight_eq_div_pow]
  exact field

/-- A flag packed into a word is its bit. -/
theorem packFields_flag {p : Nat} {b : Bool} {fields : List (Nat × Nat × Nat)} (h : ascends 0 fields 32)
    (mem : (p, 1, flagBit b) ∈ fields) : (packFields fields).getLsbD p = b := by
  have bit := congrArg (fun v => v.getLsbD 0) (packFields_field h mem)
  simp only [BitVec.getLsbD_extractLsb', Nat.lt_one_iff, decide_true, Bool.true_and, Nat.add_zero] at bit
  rw [bit]
  cases b <;> rfl

/-! ### The step (R175) and the register window (R174) -/

theorem step_nil {s : State} (h : s.pending = []) : step s = .next s := by
  simp [step, h]

theorem step_cons {s : State} {c : Instr} {rest : List Instr} (h : s.pending = c :: rest) :
    step s = exec c (s.setPending rest) := by
  simp [step, h]

/-- Settles O1. -/
theorem stepRunsTheFrontCommand : Obligations.StepRunsTheFrontCommand := by
  unfold Obligations.StepRunsTheFrontCommand
  exact fun s c rest => ⟨step_cons, step_nil⟩

section
variable (s : State)

theorem State.readRegister_status : s.readRegister 0x0C = s.statusWord := rfl

theorem State.readRegister_result : s.readRegister 0x10 = s.resultWord := rfl

theorem State.readRegister_other {offset : Word} (h0 : offset ≠ 0x00) (hC : offset ≠ 0x0C) (h10 : offset ≠ 0x10)
    (h14 : offset ≠ 0x14) : s.readRegister offset = 0 := by
  rw [State.readRegister, if_neg h0, if_neg hC, if_neg h10, if_neg h14]

/-- The fields of STATUS lie one above the other (11.3). -/
theorem State.statusWord_ascends : ascends 0 ([(0, 3, s.cmd.controller.code), (4, 1, flagBit s.cmd.waiting.isSome),
    (5, 1, flagBit s.cmd.inProgress.isSome), (8, 4, s.notices.length), (12, 3, passCode s.sweep.running)] ++
    allCells.map fun c => (16 + 4 * c.val, 3, (s.portAt c).state.code)) 32 := by
  simp [allCells]

theorem State.statusWord_cell (c : CellId) :
    s.statusWord.extractLsb' (16 + 4 * c.val) 3 = BitVec.ofNat 3 (s.portAt c).state.code :=
  packFields_field s.statusWord_ascends
    (List.mem_append_right _ (List.mem_map.2 ⟨c, mem_allCells c, rfl⟩))

/-- RESULT holds its code in the low byte and its value above it (R177). -/
theorem State.resultWord_eq : s.resultWord = s.cmd.resultValue ++ s.cmd.resultCode.code := by
  apply BitVec.eq_of_toNat_eq
  have code := s.cmd.resultCode.code.isLt
  have value := s.cmd.resultValue.isLt
  rw [BitVec.toNat_append, ← Nat.shiftLeft_add_eq_or_of_lt code, Nat.shiftLeft_eq]
  simp [State.resultWord, packFields]
  omega

theorem State.writeRegister_ignored {offset : Word} (value : Word) (h0 : offset ≠ 0x00) (h4 : offset ≠ 0x04)
    (h8 : offset ≠ 0x08) (h14 : offset ≠ 0x14) : s.writeRegister offset value = s := by
  rw [State.writeRegister, if_neg h0, if_neg h4, if_neg h8, if_neg h14]

end

/-- Settles O4, field by field of STATUS and address by address. -/
theorem registerWindow : Obligations.RegisterWindow := by
  unfold Obligations.RegisterWindow
  intro s offset value
  have field {p w v : Nat} := packFields_field (p := p) (w := w) (v := v) s.statusWord_ascends
  have flag {p : Nat} {b : Bool} := packFields_flag (p := p) (b := b) s.statusWord_ascends
  refine ⟨rfl, fun h0 h4 h8 h14 => ?ignored, rfl, field (by simp), flag (by simp), flag (by simp), field (by simp),
    field (by simp), s.statusWord_cell, s.resultWord_eq, rfl, s.readRegister_other⟩
  case ignored => rw [exec_otherRegisterWrite, s.writeRegister_ignored value h0 h4 h8 h14]

/-! ### Attention (R187) -/

theorem State.attentionLine_iff (s : State) :
    s.attentionLine = true ↔ ∃ i : Nat, i < 9 ∧ s.cmd.attn.getLsbD i = true ∧ s.cmd.mask.getLsbD i = true := by
  simp only [State.attentionLine, bne_iff_ne, ne_eq]
  constructor
  · intro h
    by_contra none
    push Not at none
    refine h (BitVec.eq_of_getLsbD_eq fun i hi => ?_)
    have := none i hi
    simp only [BitVec.getLsbD_and]
    cases ha : s.cmd.attn.getLsbD i <;> simp_all
  · rintro ⟨i, _, ha, hm⟩ h
    have := congrArg (fun v => v.getLsbD i) h
    simp [ha, hm] at this

theorem State.clearCauses_attn (s : State) (value : Word) (i : Nat) (h : i < 9) :
    (s.clearCauses value).cmd.attn.getLsbD i = (s.cmd.attn.getLsbD i && !value.getLsbD i) := by
  have : i < 32 := h.trans (by decide)
  simp [State.clearCauses, h, this]

/-- Settles O5. -/
theorem attnClear : Obligations.AttnClear := by
  unfold Obligations.AttnClear
  intro s value
  exact ⟨s.clearCauses value, rfl, rfl, s.clearCauses_attn value, State.attentionLine_iff _⟩

/-! ### A lost notice (R25, R31) -/

theorem State.rescanRequest_eq (s : State) (on : s.nightOn = true) :
    s.rescanRequest = { s with
      sweep := s.rescanRequest.sweep, due := s.rescanRequest.due, deferred := s.rescanRequest.deferred,
      wb := s.rescanRequest.wb } := by
  have drained := s.rescanRequest_drained on
  obtain ⟨x, d, w, n, f, h⟩ := s.rescanRequest_frame
  rw [h] at drained ⊢
  simp only at drained
  rw [drained]

/-- Settles O7: the notice is counted as lost, and the request it makes is the one every rescan request makes. -/
theorem lostNotice : Obligations.LostNotice := by
  unfold Obligations.LostNotice
  intro s first spanMinusOne on range full
  let lost := (s.setCounts { s.counts with noticesLost := countUp s.counts.noticesLost }).raise .noticeLost
  have hlost : s.takeNotice first spanMinusOne = lost.rescanRequest := by
    simp [State.takeNotice, on, range, Config.noticeCapacity, full.not_gt, State.loseNotice, lost]
  refine ⟨lost.rescanRequest, by rw [exec_notice, hlost], ?frame, ?request⟩
  case frame => exact lost.rescanRequest_eq on
  case request => exact lost.rescanRequest_takes on

/-! ### Power-on (R186) -/

section
variable {α : Type} (x : α)

@[simp] theorem cellAt_replicate (c : CellId) : cellAt (Vector.replicate 4 x) c = x := Vector.getElem_replicate _

@[simp] theorem groupAt_replicate (g : GroupId) : groupAt (Vector.replicate 15 x) g = x := Vector.getElem_replicate _

end

@[simp] theorem State.reset_portAt (c : CellId) : State.reset.portAt c = radioPortReset := cellAt_replicate _ c

@[simp] theorem State.reset_seqAt (c : CellId) : State.reset.seqAt c = sequencerReset := cellAt_replicate _ c

@[simp] theorem State.reset_dueAt (c : CellId) : State.reset.dueAt c = [] := cellAt_replicate _ c

@[simp] theorem State.reset_storeAt (c : CellId) : State.reset.storeAt c = [] := cellAt_replicate _ c

@[simp] theorem State.reset_deferred (c : CellId) : cellAt State.reset.deferred c = false := cellAt_replicate _ c

@[simp] theorem State.reset_groupRec (g : GroupId) : State.reset.groupRec g = groupReset := groupAt_replicate _ g

/-- Every register reads 0 after power-on (R174). -/
theorem State.reset_readRegister (offset : Word) : State.reset.readRegister offset = 0 := by
  have status : State.reset.statusWord = 0 := by decide
  have result : State.reset.resultWord = 0 := by decide
  unfold State.readRegister
  rw [status, result]
  split
  · rfl
  · repeat' split
    all_goals rfl

theorem freeBuffers_nil : freeBuffers [] = List.range 256 := List.filter_eq_self.2 fun _ _ => rfl

/-- Settles O2. -/
theorem powerOnValues : Obligations.PowerOnValues := by
  unfold Obligations.PowerOnValues
  refine ⟨rfl, rfl, rfl, rfl, rfl, rfl, State.reset_readRegister, rfl, rfl, rfl, rfl, rfl, rfl, rfl, rfl, rfl, rfl, rfl, rfl,
    rfl, rfl, rfl, rfl, rfl, fun c => ?_, State.reset_groupRec⟩
  simp [freeBuffers_nil, radioPortReset, sequencerReset]

end Sys2Proof.Machine
end

section
/-! PROOFS. The commands that complete at once, the resets, and the handshake and the words of a transfer. -/

namespace Sys2Proof.Machine

/-! ### A command taken by a free command unit (R175) -/

/-- A command that a free command unit takes and completes at once in a state that is as free: the step answers the completion. -/
theorem conclude_of_finish {s u : State} {c : HostCommand} {code : ResultCode} {value : Nat} (hs : s.free = true)
    (hu : u.free = true) (h : s.takeCommand c = u.finish code value) :
    (s.queueCommand c).conclude = u.finish code value := by
  rw [State.queueCommand_of_free hs, h, State.conclude_finish hu]

/-- A refusal changes nothing but RESULT and its attention, so nothing can begin after it. -/
theorem conclude_of_refusal {s : State} {c : HostCommand} {code : ResultCode} {value : Nat} (hs : s.free = true)
    (h : s.takeCommand c = s.finish code value) : (s.queueCommand c).conclude = s.finish code value :=
  conclude_of_finish hs hs h

section
variable {s : State}

theorem State.takeLoad_wrongState (h : s.cmd.controller ∉ [.unloaded, .loaded, .faulted]) :
    s.takeLoad = s.finish .wrongState 0 := by
  unfold State.takeLoad
  cases hc : s.cmd.controller <;> simp_all [State.wrongState]

theorem State.takeAbort_wrongState (h : s.cmd.controller ∈ [.unloaded, .loaded, .faulted]) (idle : s.cmd.inProgress = none) :
    s.takeAbort = s.finish .wrongState 0 := by
  unfold State.takeAbort
  cases hc : s.cmd.controller <;> simp_all [State.wrongState]

theorem State.takesCells_eq_false (off : s.nightOn = false) (h : s.cmd.controller ≠ .loaded) : s.takesCells = false := by
  simp [State.takesCells, off, h]

end

/-- A code that is no code of a command's (11.3). -/
theorem commandOf_bad {code : BitVec 8} (argument : BitVec 24) (h : code = 0 ∨ 13 < code.toNat) :
    commandOf code argument = .bad code argument := by
  rcases h with rfl | h
  · rfl
  · unfold commandOf
    split <;> simp_all

/-- Settles O9, command by command: each is refused by the first test of its rule. -/
theorem refusedCommands : Obligations.RefusedCommands := by
  unfold Obligations.RefusedCommands
  refine ⟨fun s code argument hs hcode => ?bad, fun s group delta cell hs => ?states⟩
  case bad =>
    have taken : exec (.badCommand code argument) s = .next (s.writeCommand (commandOf code argument)).conclude := rfl
    rw [taken, commandOf_bad argument hcode]
    exact congrArg _ (conclude_of_refusal hs rfl)
  case states =>
    obtain ⟨idle, _, _⟩ := s.free_iff.1 hs
    have refuse {c : HostCommand} (h : s.takeCommand c = s.finish .wrongState 0) :
        (Host.Outcome.next (s.queueCommand c).conclude : Outcome) = .next (s.finish .wrongState 0) :=
      congrArg _ (conclude_of_refusal hs h)
    refine ⟨fun h => refuse (State.takeLoad_wrongState h), fun h => refuse (if_pos h), fun h => refuse (if_neg h),
      fun h => refuse (if_neg h), fun h => ?abort, fun off => ⟨refuse ?stop, refuse ?rescan, refuse ?flipAt, refuse ?cancel⟩,
      fun off other => ⟨refuse ?on, refuse ?off⟩⟩
    case abort =>
      have taken : exec .abort s = .next (s.writeCommand .abort).conclude := rfl
      have now : s.writeCommand .abort = s.takeAbort := by simp [State.writeCommand, idle]
      rw [taken, now, State.takeAbort_wrongState h idle, State.conclude_finish hs]
    case stop => simp [State.takeCommand, State.takeStop, off, State.wrongState]
    case rescan => simp [State.takeCommand, State.takeRescan, off, State.wrongState]
    case flipAt => exact State.takeFlipAt_of_not_nightOn delta group off
    case cancel => simp [State.takeCommand, State.takeCancelFlip, off, State.wrongState]
    case on => simp [State.takeCommand, State.takeCellOn, State.takesCells_eq_false off other, State.wrongState]
    case off => simp [State.takeCommand, State.takeCellOff, State.takesCells_eq_false off other, State.wrongState]

/-! ### SET_ATTN_MASK, PAUSE and RESUME (R182, R183) -/

/-- Outside STOPPING no drain waits, whatever the controller and the mask. -/
theorem State.setCmd_free {s : State} (hs : s.free = true) (controller : ControllerState) (mask : BitVec 9) :
    (s.setCmd { s.cmd with controller := controller, mask := mask }).free = true := by
  obtain ⟨idle, waiting, settled⟩ := s.free_iff.1 hs
  obtain ⟨_, _, ports, bus⟩ := s.settled_iff.1 settled
  exact (State.free_iff _).2 ⟨idle, waiting, (State.settled_iff _).2
    ⟨.inr waiting, by simp [State.drainDue, idle], ports, bus⟩⟩

/-- Settles O10: none of the three changes what can begin. -/
theorem maskPauseAndResume : Obligations.MaskPauseAndResume := by
  unfold Obligations.MaskPauseAndResume
  refine ⟨fun s argument hs => ⟨_, rfl, ?mask, ?line⟩, fun s hs => ⟨fun running => ?pause, fun paused => ?resume⟩⟩
  case mask =>
    exact conclude_of_finish (c := .setAttnMask (argument.setWidth 9)) hs
      (State.setCmd_free hs s.cmd.controller (argument.setWidth 9)) rfl
  case line =>
    have done := conclude_of_finish (c := .setAttnMask (argument.setWidth 9)) hs
      (State.setCmd_free hs s.cmd.controller (argument.setWidth 9)) rfl
    have written : (s.writeCommand (.setAttnMask (argument.setWidth 9))).conclude = _ := done
    rw [written, State.attentionLine_iff]
    refine exists_congr fun i => and_congr_right fun hi => and_congr_right fun _ => ?_
    simp [State.finish, State.setResult, State.raise, hi]
  case pause =>
    exact congrArg _ (conclude_of_finish (c := .pause) hs (State.setCmd_free hs .paused s.cmd.mask) (if_pos running))
  case resume =>
    exact congrArg _ (conclude_of_finish (c := .resume) hs (State.setCmd_free hs .running s.cmd.mask) (if_pos paused))

/-! ### CANCEL_FLIP (R132) -/

/-- The withdrawal of an announced flip (R132). -/
def State.withdrawFlip (s : State) (g : GroupId) : State :=
  s.setFlip { s.flip with groups := groupPut s.flip.groups g { s.groupRec g with
    state := .cancelling, cancel := s.timer.now } }

section
variable {s : State} {group : BitVec 4} {g : GroupId}

theorem State.takeCancelFlip_zero (on : s.nightOn = true) : s.takeCancelFlip 0 = s.finish .badArgument 0 := by
  simp [State.takeCancelFlip, on]

theorem State.takeCancelFlip_of_done (on : s.nightOn = true) (hg : group.toNat = g.val + 1)
    (h : (s.groupRec g).state = .done) : s.takeCancelFlip group = s.finish .groupDone 0 := by
  simp [State.takeCancelFlip, on, groupIndex_of_toNat hg, h]

theorem State.takeCancelFlip_of_none (on : s.nightOn = true) (hg : group.toNat = g.val + 1)
    (h : (s.groupRec g).state = .opened ∨ (s.groupRec g).state = .cancelling) :
    s.takeCancelFlip group = s.finish .noFlip 0 := by
  rcases h with h | h <;> simp [State.takeCancelFlip, on, groupIndex_of_toNat hg, h]

/-- An announced flip is withdrawn when its beacon is far enough ahead, and not otherwise. -/
theorem State.takeCancelFlip_of_announced (on : s.nightOn = true) (hg : group.toNat = g.val + 1)
    (h : (s.groupRec g).state = .announced) :
    s.takeCancelFlip group =
      if atOrAfter (s.groupRec g).flipBeacon (s.timer.now + BitVec.ofNat 32 (2 ^ s.settings.bigK + 1)) then
        (s.withdrawFlip g).finish .ok ((s.groupRec g).flipBeacon - s.timer.now).toNat
      else s.finish .tooLate ((s.groupRec g).flipBeacon - s.timer.now).toNat := by
  simp only [State.takeCancelFlip, on, groupIndex_of_toNat hg, h]
  rfl

end

/-- Settles O21, test by test of R132. -/
theorem cancelFlip : Obligations.CancelFlip := by
  unfold Obligations.CancelFlip
  intro s group hs
  have refuse {code : ResultCode} {value : Nat} (h : s.takeCancelFlip group = s.finish code value) :
      exec (.cancelFlip group) s = .next (s.finish code value) :=
    congrArg _ (conclude_of_refusal (c := .cancelFlip group) hs h)
  refine ⟨fun run pause => refuse ?wrongState, fun night => ?tests⟩
  case wrongState =>
    have off : s.nightOn = false := by simp [State.nightOn, run, pause]
    simp [State.takeCancelFlip, off, State.wrongState]
  have on : s.nightOn = true := s.nightOn_iff.2 night
  refine ⟨fun zero => refuse (zero ▸ State.takeCancelFlip_zero on), fun g hg => ?group⟩
  intro r least
  refine ⟨fun h => refuse (State.takeCancelFlip_of_done on hg h), fun h => refuse (State.takeCancelFlip_of_none on hg h),
    fun h late => refuse ?late, fun h ahead => ?withdrawn⟩
  case late =>
    rw [State.takeCancelFlip_of_announced on hg h, if_neg]
    exact fun at_ => absurd ((atOrAfter_iff _ _).1 at_) (Nat.not_lt.mpr late)
  case withdrawn =>
    refine congrArg _ (conclude_of_finish (c := .cancelFlip group) (u := s.withdrawFlip g) hs
      ((s.setFlip_free _).trans hs) ?_)
    rw [State.takeCommand, State.takeCancelFlip_of_announced on hg h, if_pos ((atOrAfter_iff _ _).2 ahead)]

/-! ### RESCAN (R183) -/

/-- Settles O19: the request is taken while a night runs, so no drain waits for what it retires. -/
theorem rescanRequest : Obligations.RescanRequest := by
  unfold Obligations.RescanRequest
  intro s hs on
  obtain ⟨idle, waiting, settled⟩ := s.free_iff.1 hs
  obtain ⟨_, _, ports, bus⟩ := s.settled_iff.1 settled
  have frame := s.rescanRequest_eq on
  have free : s.rescanRequest.free = true := by
    rw [frame]
    exact (State.free_iff _).2 ⟨idle, waiting, (State.settled_iff _).2
      ⟨.inr waiting, by simp [State.drainDue, idle], ports, bus⟩⟩
  have done : (s.queueCommand .rescan).conclude = s.rescanRequest.finish .ok 0 :=
    conclude_of_finish hs free (if_pos on)
  refine ⟨s.rescanRequest.finish .ok 0, congrArg Host.Outcome.next done, ?frame, s.rescanRequest_takes on⟩
  case frame =>
    rw [frame]
    rfl

/-! ### START (R181) -/

/-- The state in which START completes. -/
def State.nightBegun (s : State) : State :=
  { s with
    cmd := { s.cmd with nightNumber := s.cmd.nightNumber + 1, controller := .running }
    flip := { s.flip with groups := tableMap (fun _ => groupReset) s.flip.groups }
    deferred := Vector.replicate 4 false
    seq := tableMap (fun q => { q with windowsSent := 0, itemsSent := 0, fetchLate := 0, stray := 0, cut := false }) s.seq
    port := tableMap (fun p => { p with overrun := 0 }) s.port
    counts := countsReset
    sweep := { s.sweep with running := some { kind := .opening, cursor := 0, remaining := s.settings.entryCount } }
    timer := { s.timer with
      schedule := some { nextBeacon := s.settings.period, nextPlan := some (s.settings.period - s.settings.lead) } } }

theorem State.takeStart_of_loaded {s : State} (h : s.cmd.controller = .loaded) :
    s.takeStart = s.nightBegun.finish .ok (s.cmd.nightNumber + 1).toNat :=
  if_neg (not_not.2 h)

theorem State.nightBegun_free {s : State} (hs : s.free = true) : s.nightBegun.free = true := by
  obtain ⟨idle, waiting, settled⟩ := s.free_iff.1 hs
  obtain ⟨_, _, ports, bus⟩ := s.settled_iff.1 settled
  refine (State.free_iff _).2 ⟨idle, waiting, (State.settled_iff _).2
    ⟨.inr waiting, by simp [State.drainDue, State.nightBegun, idle], fun c => ?_, bus⟩⟩
  have port : s.nightBegun.portAt c = { s.portAt c with overrun := 0 } := cellAt_tableMap _ s.port c
  rw [port]
  exact ports c

/-- Settles O11: START fills the tables of the groups, cells and ports place by place, and its first pass covers the directory. -/
theorem startBeginsANight : Obligations.StartBeginsANight := by
  unfold Obligations.StartBeginsANight
  intro s hs loaded
  have taken : s.takeCommand .start = _ := State.takeStart_of_loaded loaded
  refine ⟨s.nightBegun.finish .ok (s.cmd.nightNumber + 1).toNat,
    congrArg Host.Outcome.next (conclude_of_finish hs (State.nightBegun_free hs) taken), rfl, ?cmd,
    groupAt_tableMap _ s.flip.groups, fun c => ⟨?deferred, cellAt_tableMap _ s.seq c, cellAt_tableMap _ s.port c⟩, rfl, rfl,
    rfl⟩
  case cmd =>
    obtain ⟨idle, _, _⟩ := s.free_iff.1 hs
    have value : BitVec.ofNat 24 (s.cmd.nightNumber + 1).toNat = (s.cmd.nightNumber + 1).setWidth 24 :=
      BitVec.ofNat_toNat _ _
    have inProgress : s.cmd.inProgress = none := idle
    rw [← value]
    exact (congrArg (fun r => ({ (s.nightBegun.finish .ok (s.cmd.nightNumber + 1).toNat).cmd with
      inProgress := r } : CommandUnit)) inProgress).symm
  case deferred => exact cellAt_replicate _ c

/-! ### The handshake of a transfer (R160 to R162) -/

theorem Action.isPair_iff (a : Action) : a.isPair = true ↔ ∃ start bit, a = .pair start bit := by
  cases a <;> simp [Action.isPair]

section
variable {p : MemoryPort} {tr : Transfer}

theorem MemoryPort.inPair_iff (h : p.current = some tr) : p.inPair = true ↔ ∃ start bit, tr.action = .pair start bit := by
  rw [← tr.action.isPair_iff, MemoryPort.inPair, h]

theorem MemoryPort.issuing_eq_some (holding : p.bus = .holding) (h : p.current = some tr) : p.issuing = some tr := by
  rw [MemoryPort.issuing, if_pos holding, h]

theorem MemoryPort.issuing_eq_none (h : p.bus ≠ .holding ∨ p.current = none) : p.issuing = none := by
  rcases h with h | h <;> simp [MemoryPort.issuing, h]

/-- The mark of the burst's last word stands just while the port holds the bus at that word. -/
theorem MemoryPort.burstLast_iff (h : p.current = some tr) :
    p.burstLast = true ↔ p.bus = .holding ∧ p.nextWord + 1 = tr.action.words := by
  by_cases holding : p.bus = .holding
  · simp [MemoryPort.burstLast, MemoryPort.issuing_eq_some holding h, holding]
  · simp [MemoryPort.burstLast, MemoryPort.issuing_eq_none (.inl holding), holding]

end

/-- Settles O53, event by event in the states of the port. -/
theorem busHandshake : Obligations.BusHandshake := by
  unfold Obligations.BusHandshake
  intro s tr h
  have goes {p q : MemoryPort} (same : p = q) :
      (Host.Outcome.next (s.setBus p) : Outcome) = .next { s with bus := q } := same ▸ rfl
  refine ⟨fun requesting => goes (if_pos requesting), fun other => goes (if_neg other), fun holding single => ?single,
    fun holding start bit pair => ?pair, fun other => goes (if_neg other), fun backed => ?resumed,
    fun other => goes (if_neg other), ?mark⟩
  case single =>
    have inPair : ¬s.bus.inPair = true := fun pair =>
      let ⟨start, bit, is⟩ := (MemoryPort.inPair_iff h).1 pair
      single start bit is
    exact goes ((if_pos holding).trans (if_neg inPair))
  case pair => exact goes ((if_pos holding).trans (if_pos ((MemoryPort.inPair_iff h).2 ⟨start, bit, pair⟩)))
  case resumed =>
    exact ⟨_, goes (if_pos backed), rfl, MemoryPort.inPair_iff h⟩
  case mark =>
    exact MemoryPort.burstLast_iff h

/-! ### The words of a transfer (R160, R163) -/

section
variable {s : State} {tr : Transfer} (data : Word) (parity : BitVec 4)

theorem exec_wordComplete_of_holding (holding : s.bus.bus = .holding) (h : s.bus.current = some tr) :
    exec (.wordComplete data parity) s = .next (s.completeWord tr data parity) := by
  have issuing := MemoryPort.issuing_eq_some holding h
  have word : exec (.wordComplete data parity) s = execWordComplete data parity s := rfl
  rw [word, execWordComplete, issuing]

theorem exec_wordComplete_of_none (h : s.bus.bus ≠ .holding ∨ s.bus.current = none) :
    exec (.wordComplete data parity) s = .next s := by
  have word : exec (.wordComplete data parity) s = execWordComplete data parity s := rfl
  rw [word, execWordComplete, MemoryPort.issuing_eq_none h]

theorem exec_transferError_of_holding (holding : s.bus.bus = .holding) (h : s.bus.current = some tr) :
    exec .transferError s = .next s.enterFaulted.conclude := by
  have issuing := MemoryPort.issuing_eq_some holding h
  have event : exec .transferError s = execTransferError s := rfl
  rw [event, execTransferError, issuing]

theorem Transfer.wordBad_iff (i : Nat) :
    tr.wordBad i data parity = true ↔
      tr.checked = true ∧ tr.action.readsAt i = true ∧ parityGood data parity = false := by
  simp [Transfer.wordBad, and_assoc]

end

/-- Settles O55: a completed word stores what its transfer writes at that word, and no other command comes near the memory. -/
theorem onlyTransfersWriteMemory : Obligations.OnlyTransfersWriteMemory := by
  unfold Obligations.OnlyTransfersWriteMemory
  refine ⟨fun s t tr data parity holding current h => ?word, fun start bit got => ⟨rfl, rfl⟩,
    fun s data parity _ none => exec_wordComplete_of_none data parity none, fun c s t hc h => exec_kept c s t hc h⟩
  case word =>
    rw [exec_wordComplete_of_holding data parity holding current] at h
    obtain rfl := Host.Outcome.next.inj h
    simp only [State.completeWord_shared]
    refine ⟨fun none => ?none, fun w good writes => ?writes⟩
    case none =>
      rcases none with bad | none
      · rw [if_pos bad]
      · have same : (s.storeWord tr).shared = s.shared := by rw [State.storeWord, none]
        rw [same, ite_self]
    case writes =>
      have stored : (s.storeWord tr).shared = writeWord s.shared (tr.action.wordAddress s.bus.nextWord) w := by
        rw [State.storeWord, writes]
        rfl
      rw [if_neg good, stored]
      exact ⟨fun i hi => readByte_writeWord_same _ _ _ i hi, fun a ha => readByte_writeWord_other _ _ _ a ha⟩

/-! ### The resets (R166, R176, R186) -/

theorem State.resetState_conclude (s : State) (busy : Bool) : (s.resetState busy).conclude = s.resetState busy :=
  State.conclude_settled _ (s.resetState_settled busy)

/-- What RESET leaves while a transfer is carried to its end. -/
def State.resetWaiting (s : State) (tr : Transfer) : State :=
  ((s.resetState s.cmd.inProgress.isSome).setRunning (.reset s.cmd.inProgress.isSome)).setBus
    { s.bus.withdrawn with current := some { tr with orphan := true } }

theorem State.resetWaiting_settled {s : State} (tr : Transfer) (busy : s.bus.bus ≠ .idle) :
    (s.resetWaiting tr).settled = true := by
  refine (State.settled_iff _).2 ⟨.inl rfl, by simp [State.drainDue, State.resetWaiting, State.setRunning], fun c => ?_,
    MemoryPort.settled_of_busy _ busy⟩
  have port : (s.resetWaiting tr).portAt c = radioPortReset := State.reset_portAt c
  rw [port]
  decide

/-- Settles O3: power-on, the pin and RESET take effect at once, and a RESET behind a transfer with the transfer's end. -/
theorem resets : Obligations.Resets := by
  unfold Obligations.Resets
  refine ⟨fun s => ⟨rfl, rfl, fun none => ?atOnce⟩, fun s tr current busy => ?begins,
    fun s tr busy data parity running holding current => ?inForce⟩
  case atOnce =>
    have taken : s.takeReset = s.resetState s.cmd.inProgress.isSome := by rw [State.takeReset, none]
    have step : exec .reset s = .next s.takeReset.conclude := rfl
    rw [step, taken, State.resetState_conclude]
    rfl
  case begins =>
    have taken : s.takeReset = s.resetWaiting tr := by rw [State.takeReset, current]; rfl
    have step : exec .reset s = .next s.takeReset.conclude := rfl
    rw [step, taken, State.conclude_settled _ (State.resetWaiting_settled tr busy)]
    exact ⟨s.resetWaiting tr, rfl, rfl, rfl, rfl⟩
  case inForce =>
    intro bad inForce
    have effect (u : State) (go : State → State) (hu : u.cmd.inProgress = some (.reset busy)) :
        u.afterTransfer go = u.resetState busy := by rw [State.afterTransfer, hu]
    rw [exec_wordComplete_of_holding data parity holding current, exec_transferError_of_holding holding current]
    have isBad : bad ↔ tr.wordBad s.bus.nextWord data parity = true := (tr.wordBad_iff data parity _).symm
    refine ⟨fun good last => ?last, fun bad again => ?failed, fun bad first => ?repeated, ?error⟩
    case last =>
      obtain ⟨m, stored⟩ := s.storeWord_eq tr
      rw [State.completeWord, if_neg (fun h => good (isBad.2 h)), if_neg (Nat.not_lt.mpr last), stored, State.transferDone,
        effect ((s.setShared m).setBus (s.setShared m).bus.release) _ running]
      rfl
    case failed =>
      rw [State.completeWord, if_pos (isBad.1 bad), if_pos again, State.transferFailed,
        effect (s.setBus s.bus.release).memFault _ running]
      rfl
    case repeated =>
      rw [State.completeWord, if_pos (isBad.1 bad), if_neg (by simp [first])]
      rfl
    case error =>
      rw [State.enterFaulted, running]
      simp only
      rw [State.resetState_conclude]
      rfl

end Sys2Proof.Machine
end

section
/-! PROOFS. What the end of a step makes of the state that the step leaves: the links that go on, the transfer asked for, the drain
that is over; and an operation made port by port. -/

namespace Sys2Proof.Machine

/-! ### Tables of four, place by place -/

theorem PerGroup.ext {α : Type} {v w : PerGroup α} (h : ∀ g, groupAt v g = groupAt w g) : v = w :=
  Vector.ext fun i hi => h ⟨i, hi⟩

theorem cellAt_cellPut {α : Type} (v : PerCell α) (c d : CellId) (x : α) :
    cellAt (cellPut v c x) d = if d = c then x else cellAt v d := by
  split
  · next h => rw [h, cellAt_cellPut_same]
  · next h => rw [cellAt_cellPut_other v c d x h]

theorem State.modPort_portAt_eq (s : State) (c d : CellId) (f : RadioPort → RadioPort) :
    (s.modPort c f).portAt d = if d = c then f (s.portAt c) else s.portAt d :=
  cellAt_cellPut s.port c d _

theorem cellPut_cellPut {α : Type} (v : PerCell α) (c : CellId) (x y : α) :
    cellPut (cellPut v c x) c y = cellPut v c y :=
  cell_ext fun d => by simp only [cellAt_cellPut]; split <;> rfl

section
variable (s : State) (c : CellId)

theorem State.modPort_modPort (f g : RadioPort → RadioPort) :
    (s.modPort c f).modPort c g = s.modPort c fun p => g (f p) := by
  simp only [State.modPort, State.portAt, State.setPort, cellPut_cellPut, cellAt_cellPut_same]

theorem State.modSeq_modSeq (f g : Sequencer → Sequencer) :
    (s.modSeq c f).modSeq c g = s.modSeq c fun q => g (f q) := by
  simp only [State.modSeq, State.seqAt, State.setSeq, cellPut_cellPut, cellAt_cellPut_same]

theorem State.modSeq_congr {f g : Sequencer → Sequencer} (h : f (s.seqAt c) = g (s.seqAt c)) :
    s.modSeq c f = s.modSeq c g := by
  rw [State.modSeq, h, State.modSeq]

end

/-- An operation made on the four ports, cell 0 first, changes each by its own cell's function and nothing else. -/
theorem forCells_modPort (f : CellId → RadioPort → RadioPort) (s : State) :
    ∃ p, forCells (fun u c => u.modPort c (f c)) s = s.setPort p ∧ ∀ c, cellAt p c = f c (s.portAt c) := by
  rw [forCells_eq]
  refine ⟨((((s.modPort 0 (f 0)).modPort 1 (f 1)).modPort 2 (f 2)).modPort 3 (f 3)).port, rfl, fun c => ?_⟩
  change State.portAt _ c = _
  simp only [State.modPort_portAt_eq]
  rcases CellId.cases c with rfl | rfl | rfl | rfl <;> simp

/-- An operation that changes one cell's port and sequencer, made for the four cells. -/
theorem forCells_modCell {f : State → CellId → State} (p : Sequencer → RadioPort → RadioPort) (q : Sequencer → Sequencer)
    (h : ∀ s c, f s c = (s.modPort c (p (s.seqAt c))).modSeq c q) (s : State) :
    ∃ ports seqs, forCells f s = { s with port := ports, seq := seqs } ∧
      ∀ c, cellAt ports c = p (s.seqAt c) (s.portAt c) ∧ cellAt seqs c = q (s.seqAt c) := by
  have frame : ∀ (l : List CellId) (s : State), ∃ ports seqs, l.foldl f s = { s with port := ports, seq := seqs } := by
    intro l
    induction l with
    | nil => exact fun s => ⟨s.port, s.seq, rfl⟩
    | cons c rest ih =>
      intro s
      obtain ⟨ports, seqs, he⟩ := ih (f s c)
      exact ⟨ports, seqs, by rw [List.foldl_cons, he, h]; rfl⟩
  obtain ⟨ports, seqs, he⟩ := frame allCells s
  refine ⟨ports, seqs, he, fun c => ?_⟩
  have port : cellAt ports c = (forCells f s).portAt c := congrArg (fun t : State => t.portAt c) he.symm
  have seq : cellAt seqs c = (forCells f s).seqAt c := congrArg (fun t : State => t.seqAt c) he.symm
  have put (u : State) (d : CellId) : (u.modSeq d q).seqAt c = if c = d then q (u.seqAt d) else u.seqAt c :=
    cellAt_cellPut u.seq d c _
  have other {d e : CellId} (ne : e ≠ d) (u : State) : (u.modSeq d q).seqAt e = u.seqAt e := u.modSeq_seqAt_other d e q ne
  rw [port, seq, forCells_eq]
  simp only [h, State.modSeq_portAt, State.modPort_portAt_eq, put, State.modPort_seqAt]
  rcases CellId.cases c with rfl | rfl | rfl | rfl <;> simp [other]

/-! ### A command that completes with its step -/

/-- A completion after which no command waits and nothing else can begin is what the step answers. -/
theorem State.conclude_finish_of_ports {u : State} (waiting : u.cmd.waiting = none) (ports : ∀ c, (u.portAt c).settled = true)
    (bus : u.bus.settled = true) (code : ResultCode) (value : Nat) :
    (u.finish code value).conclude = u.finish code value := by
  obtain ⟨a, v, finished⟩ := u.finish_frame code value
  rw [finished]
  exact State.conclude_settled _ ((State.settled_iff _).2 ⟨.inr waiting, by simp [State.drainDue], ports, bus⟩)

theorem State.quiet_iff (s : State) : s.quiet = true ↔ s.cmd.waiting = none ∧ s.settled = true := by
  simp [State.quiet]

/-! ### The night record write that falls due (R172) -/

theorem State.nightDue_recordDue (s : State) (awaited : Bool) : s.recordDue (s.nightDue awaited) := by
  unfold State.recordDue State.nightDue
  cases h : s.night.current with
  | none => exact ⟨fun _ => ⟨rfl, rfl⟩, nofun⟩
  | some w => exact ⟨nofun, fun _ => ⟨rfl, rfl⟩⟩

theorem State.nightDue_awaited (s : State) : (s.nightDue true).night.awaited = true := by
  unfold State.nightDue
  cases h : s.night.current with
  | none => simp [State.beginNightWrite, NightWriter.awaited, State.offer]
  | some w => simp [NightWriter.awaited]

/-- Whether a night record write has fallen due is seen in the night record alone. -/
theorem State.recordDue_congr {s s' t t' : State} (hs : s.night = s'.night) (ht : t.night = t'.night) :
    s.recordDue t ↔ s'.recordDue t' := by
  unfold State.recordDue
  rw [hs, ht]

/-! ### The end of a drain (R65, R184) -/

theorem State.drainDue_iff (u : State) :
    u.drainDue = true ↔ u.cmd.inProgress = some (.stop false) ∧ u.cmd.controller = .stopping ∧
      (∀ c : CellId, u.dueAt c = [] ∧ (u.seqAt c).standing = none) ∧ u.wb.list = [] ∧ u.sweep.hand = none := by
  simp only [State.drainDue, State.stopping, State.drainOver, Bool.and_eq_true, decide_eq_true_eq, List.all_eq_true,
    List.isEmpty_iff, Option.isNone_iff_eq_none, and_assoc]
  exact and_congr_right fun _ => and_congr_right fun _ =>
    and_congr_left fun _ => ⟨fun h c => h c (mem_allCells c), fun h c _ => h c⟩

/-- A step whose drain is not over answers what it has made. -/
theorem State.drainedInto_of_not {u : State} (h : u.drainDue = false) : u.drainedInto u := by
  unfold State.drainedInto
  rw [if_neg]
  rwa [← State.drainDue_iff, Bool.not_eq_true]

/-- The end of a step notices a drain that is over, and the port begins with the night record write. -/
theorem State.checkDrain_drains (u : State) (b : MemoryPort) (h : u.drainDue = true) :
    u.drainedInto (u.checkDrain.setBus b) := by
  unfold State.drainedInto
  rw [if_pos (u.drainDue_iff.1 h), u.checkDrain_over h]
  have due := State.nightDue_recordDue { u with cmd := { u.cmd with inProgress := some (.stop true) } } true
  have awaited := State.nightDue_awaited { u with cmd := { u.cmd with inProgress := some (.stop true) } }
  obtain ⟨n, m, frame⟩ := State.nightDue_frame { u with cmd := { u.cmd with inProgress := some (.stop true) } } true
  rw [frame] at due awaited ⊢
  exact ⟨rfl, due, awaited⟩

section
variable {u : State}

/-- With every link settled, the end of a step is the end of a drain, when one is over, and the choice of the memory port. -/
theorem State.conclude_ports (command : u.cmd.waiting = none ∨ u.cmd.inProgress.isSome = true)
    (ports : ∀ c, (u.portAt c).settled = true) : u.conclude = u.checkDrain.arbitrate := by
  obtain ⟨r, n, b, drained⟩ := u.checkDrain_frame
  rw [u.conclude_same command, State.proceed, State.kickAll_settled]
  intro c
  rw [drained]
  exact ports c

/-- When nothing but the end of a drain is left to begin, the step answers what it has made, with that end. -/
theorem State.conclude_drains (command : u.cmd.waiting = none ∨ u.cmd.inProgress.isSome = true)
    (ports : ∀ c, (u.portAt c).settled = true) (bus : u.bus.settled = true) : u.drainedInto u.conclude := by
  rw [State.conclude_ports command ports]
  by_cases h : u.drainDue = true
  · obtain ⟨b, chosen⟩ := u.checkDrain.arbitrate_frame
    rw [chosen]
    exact u.checkDrain_drains b h
  · have same := u.checkDrain_same (by simpa using h)
    rw [same, u.arbitrate_settled bus]
    exact State.drainedInto_of_not (by simpa using h)

/-- With the memory port settled and no drain over, the end of a step is what the links begin. -/
theorem State.conclude_links (command : u.cmd.waiting = none ∨ u.cmd.inProgress.isSome = true)
    (drain : u.drainDue = false) (bus : u.bus.settled = true) : ∃ p, u.conclude = { u with port := p } := by
  obtain ⟨p, links⟩ := u.kickAll_frame
  refine ⟨p, ?_⟩
  rw [u.conclude_same command, State.proceed, u.checkDrain_same drain, links]
  exact State.arbitrate_settled _ bus

/-- With a command in progress that waits for no drain, the end of a step changes the links and the memory port alone. -/
theorem State.conclude_running {r : Running} (running : u.cmd.inProgress = some r) (notDrain : r ≠ .stop false) :
    ∃ p b, u.conclude = { u with port := p, bus := b } :=
  u.conclude_frame (.inr (by rw [running]; rfl)) (by simp [State.drainDue, running, notDrain])

/-- A transfer offered in a state with nothing else to begin is asked for, and nothing else changes. -/
theorem State.conclude_offer (command : u.cmd.waiting = none ∨ u.cmd.inProgress.isSome = true)
    (drain : u.drainDue = false) (ports : ∀ c, (u.portAt c).settled = true) (bus : u.bus.settled = true)
    (r : Requester) (a : Action) :
    (u.offer r a).conclude = { u with bus := (u.offer r a).conclude.bus } ∧ (u.offer r a).conclude.bus.asked r a := by
  have chosen : (u.offer r a).conclude = (u.offer r a).arbitrate := State.conclude_bus _ command drain ports
  obtain ⟨b, frame⟩ := (u.offer r a).arbitrate_frame
  refine ⟨?_, ?_⟩
  · rw [chosen, frame]
    rfl
  · rw [chosen]
    exact u.offer_asked r a bus

/-- With all links but one settled and no drain over, the end of a step is what that link and the memory port begin. -/
theorem State.conclude_port (command : u.cmd.waiting = none ∨ u.cmd.inProgress.isSome = true) (drain : u.drainDue = false)
    {c : CellId} (others : ∀ d, d ≠ c → (u.portAt d).settled = true) : ∃ b, u.conclude = (u.kick c).setBus b := by
  obtain ⟨b, chosen⟩ := (u.kick c).arbitrate_frame
  refine ⟨b, ?_⟩
  rw [u.conclude_same command, State.proceed, u.checkDrain_same drain, u.kickAll_one c others, chosen]
  rfl

/-- A requester that has nothing waiting has nothing waiting after the port's choice. -/
theorem State.arbitrate_waitingOf {r : Requester} (h : u.bus.waitingOf r = none) : u.arbitrate.bus.waitingOf r = none := by
  unfold State.arbitrate
  split
  · split
    · exact h
    · next q _ =>
      split
      · exact h
      · have begun (a : Action) : (u.bus.begin q a u.settings.parity).waitingOf r = (u.bus.setWaiting q none).waitingOf r := by
          cases r <;> rfl
        change (u.bus.begin q _ u.settings.parity).waitingOf r = none
        rw [begun]
        by_cases same : r = q
        · rw [same, MemoryPort.waitingOf_setWaiting]
        · rw [MemoryPort.waitingOf_setWaiting_other _ _ _ _ same, h]
  · exact h

/-- The memory port makes its choice whatever the links do. -/
theorem State.arbitrate_setPort (p : PerCell RadioPort) : (u.setPort p).arbitrate = u.arbitrate.setPort p := by
  unfold State.arbitrate
  by_cases idle : u.bus.bus = .idle ∧ u.bus.current = none
  · rw [State.setPort_bus, if_pos idle, if_pos idle]
    cases u.bus.highest with
    | none => rfl
    | some r =>
      dsimp only
      cases u.bus.waitingOf r <;> rfl
  · rw [State.setPort_bus, if_neg idle, if_neg idle]

/-- With no drain over, the end of a step is the choice of the memory port and, on each link, what it begins. -/
theorem State.conclude_acts (command : u.cmd.waiting = none ∨ u.cmd.inProgress.isSome = true) (drain : u.drainDue = false) :
    ∃ p, u.conclude = u.arbitrate.setPort p ∧ ∀ c, cellAt p c = (u.portAt c).goOn := by
  obtain ⟨p, links⟩ := u.kickAll_frame
  have set : u.kickAll = u.setPort p := links
  refine ⟨p, ?_, fun c => ?_⟩
  · rw [u.conclude_same command, State.proceed, u.checkDrain_same drain, set, State.arbitrate_setPort]
  · rw [← u.kickAll_portAt c, links]
    rfl

/-- A port with a transfer makes no choice. -/
theorem State.arbitrate_of_current (h : u.bus.current.isSome = true) : u.arbitrate = u :=
  if_neg fun ⟨_, empty⟩ => by simp [empty] at h

end

end Sys2Proof.Machine
end

section
/-! PROOFS. LOAD: the anchor read, the checks and the settings of the block, and the probes it begins (R153, R179, R180). -/

namespace Sys2Proof.Machine

/-! ### The timing settings (R67, R68) -/

/-- Settles O15: each bound follows from the clamps alone. -/
theorem timingFits : Obligations.TimingFits := by
  unfold Obligations.TimingFits
  intro p lead w
  simp only [effectivePeriod, effectiveLead, effectiveWindow]
  omega

/-! ### Taking LOAD (R179) -/

section
variable {s : State}

/-- The state in which LOAD has asked for nothing yet. -/
def State.loading (s : State) : State :=
  { s with cmd := { s.cmd with
    controller := .loading, resultCode := .inProgress, resultValue := 0,
    inProgress := some (.load s.cmd.controller (.reading s.cmd.anchor [] (tableMap RadioPort.saved s.port))) } }

theorem State.takeLoad_of_misaligned (h : s.cmd.controller ∈ [.unloaded, .loaded, .faulted])
    (misaligned : s.cmd.anchor.toNat % 64 ≠ 0) : s.takeLoad = s.finish .badAnchor 0 := by
  unfold State.takeLoad
  cases hc : s.cmd.controller <;> simp_all

theorem State.takeLoad_of_aligned (h : s.cmd.controller ∈ [.unloaded, .loaded, .faulted])
    (aligned : s.cmd.anchor.toNat % 64 = 0) : s.takeLoad = s.loading.offer .anchor (.read s.cmd.anchor.toNat 8) := by
  have allowed : s.cmd.controller = .unloaded ∨ s.cmd.controller = .loaded ∨ s.cmd.controller = .faulted := by simpa using h
  unfold State.takeLoad
  rcases allowed with hc | hc | hc
  all_goals
    simp only [aligned, ne_eq, not_true_eq_false, if_false, State.loading, hc]
    rfl

end

/-- Settles O12: the first burst is the one thing that LOAD leaves to begin. -/
theorem loadReadsTheAnchor : Obligations.LoadReadsTheAnchor := by
  unfold Obligations.LoadReadsTheAnchor
  intro s hs controller
  refine ⟨fun misaligned => congrArg _ (conclude_of_refusal (c := .load) hs (State.takeLoad_of_misaligned controller misaligned)),
    fun aligned => ?_⟩
  obtain ⟨_, _, settled⟩ := s.free_iff.1 hs
  obtain ⟨_, _, ports, bus⟩ := s.settled_iff.1 settled
  have taken : (s.writeCommand .load).conclude = (s.loading.offer .anchor (.read s.cmd.anchor.toNat 8)).conclude := by
    have written : s.writeCommand .load = s.queueCommand .load := rfl
    rw [written, State.queueCommand_of_free hs, State.takeCommand, State.takeLoad_of_aligned controller aligned]
  obtain ⟨frame, asked⟩ := State.conclude_offer (u := s.loading) (.inr rfl) (by simp [State.drainDue, State.loading]) ports bus
    .anchor (.read s.cmd.anchor.toNat 8)
  refine ⟨_, tableMap RadioPort.saved s.port, congrArg Host.Outcome.next taken, ?_, ?_, fun c => cellAt_tableMap _ _ c, asked⟩
  · rw [frame]; rfl
  · rw [frame]; rfl

/-! ### The anchor block (R179, 11.2) -/

section
variable (w : Word)

theorem toNat_low_half : (w.extractLsb' 0 16).toNat = w.toNat % 2 ^ 16 := by
  simp [BitVec.extractLsb'_toNat]

theorem toNat_high_half : (w.extractLsb' 16 16).toNat = w.toNat / 2 ^ 16 := by
  have := w.isLt
  simp only [BitVec.extractLsb'_toNat, Nat.shiftRight_eq_div_pow]
  omega

theorem toNat_third_byte : (w.extractLsb' 16 8).toNat = w.toNat / 2 ^ 16 % 2 ^ 8 := by
  simp [BitVec.extractLsb'_toNat, Nat.shiftRight_eq_div_pow]

theorem toNat_fourth_byte : (w.extractLsb' 24 8).toNat = w.toNat / 2 ^ 16 / 2 ^ 8 := by
  have := w.isLt
  simp only [BitVec.extractLsb'_toNat, Nat.shiftRight_eq_div_pow]
  omega

theorem toNat_low_four : (w.extractLsb' 0 4).toNat = w.toNat % 2 ^ 16 % 16 := by
  simp only [BitVec.extractLsb'_toNat, Nat.shiftRight_eq_div_pow]
  omega

end

theorem rateOf_eq (x : BitVec 2) : rateOf x = if x = 0 then .k50 else if x = 1 then .k100 else .k200 := by
  revert x
  decide

theorem anchorAccepted_iff (ws : List Word) : anchorAccepted ws = true ↔
    wordOf ws 0 = 0x7140A5C3 ∧ 1 ≤ (wordOf ws 1).toNat ∧ (wordOf ws 1).toNat ≤ 65536 ∧
    (wordOf ws 2).toNat % 32 = 0 ∧ (wordOf ws 3).toNat % 4 = 0 ∧ (wordOf ws 5).toNat % 4 = 0 ∧
    (wordOf ws 6).toNat % 4 = 0 ∧ (wordOf ws 7).toNat % 4 = 0 ∧ wordOf ws 4 ≠ 0 := by
  have tag : Config.anchorTag = 0x7140A5C3 := rfl
  simp only [anchorAccepted, Bool.and_eq_true, decide_eq_true_eq, List.all_cons, List.all_nil, beq_iff_eq, and_true]
  rw [tag]
  tauto

theorem flagBit_bne (a b : Nat) : flagBit (a != b) = if a ≠ b then 1 else 0 := by
  by_cases h : a = b <;> simp [flagBit, h]

/-- Settles O13: the checks, the refusal, and each field of the block at its bits. -/
theorem anchorChecks : Obligations.AnchorChecks := by
  unfold Obligations.AnchorChecks
  refine ⟨anchorAccepted_iff, fun s before ws saved hs running refused => ?refused, fun ws => ?fields⟩
  case refused =>
    obtain ⟨waiting, settled⟩ := s.quiet_iff.1 hs
    obtain ⟨_, _, ports, bus⟩ := s.settled_iff.1 settled
    have read : s.anchorRead = s.refuseLoad before := by
      unfold State.anchorRead
      rw [running]
      simp [refused]
    have step : exec .anchorReadDone s = .next s.anchorRead.conclude := rfl
    rw [step, read, State.refuseLoad,
      State.conclude_finish_of_ports (u := s.setController before) waiting ports bus]
    rfl
  case fields =>
    intro t low high t10 a10
    have period : t.period = min 4000 (max 250 (low 8 / 50 * 50)) := 
      congrArg effectivePeriod (toNat_low_half (wordOf ws 8))
    have lead : t.lead = min (min 200 (max 20 (high 8))) (t.period - 110) := 
      congrArg (effectiveLead t.period) (toNat_high_half (wordOf ws 8))
    have window : t.window = min (min 900 (max 50 (low 9 / 10 * 10))) ((t.period - 60 - t.lead) / 10 * 10) := 
      congrArg (effectiveWindow t.period t.lead) (toNat_low_half (wordOf ws 9))
    have threshold : t.threshold = min 63 (max 1 t10) := 
      congrArg effectiveThreshold (toNat_third_byte (wordOf ws 10))
    have cap : t.cap = min 15 (max 1 a10) := 
      congrArg effectiveCap (toNat_fourth_byte (wordOf ws 10))
    refine ⟨rfl, rfl, rfl, rfl, rfl, rfl, rfl, period, lead, window, toNat_high_half _, toNat_low_half _, threshold, cap,
      toNat_low_four _, ?policy, rfl, fun c => ?cell, ?clamps⟩
    case policy =>
      simp only [t, anchorSettings]
      cases (wordOf ws 11).getLsbD 4 <;> simp
    case cell =>
      have at_ : cellAt t.cells c = anchorCell (wordOf ws (12 + c.val)) := by
        rcases CellId.cases c with rfl | rfl | rfl | rfl <;> rfl
      rw [at_, anchorCell, rateOf_eq]
    case clamps =>
      have rates : (allCells.countP fun c => decide ((wordOf ws (12 + c.val)).extractLsb' 2 2 = 3)) =
          [12, 13, 14, 15].countP fun i => (wordOf ws i).extractLsb' 2 2 == 3 := rfl
      rw [anchorClamps, rates]
      simp only [toNat_low_half, toNat_high_half, toNat_third_byte, toNat_fourth_byte, flagBit_bne]
      simp only [List.countP_cons, List.countP_nil, id, decide_eq_true_eq, low, high, t10, a10, t]
      omega

/-! ### An accepted block (R146, R153, R180) -/

section
variable (p : RadioPort) (cell : CellSettings)

theorem RadioPort.atLoad_enabled (h : cell.enabled = true) :
    p.atLoad cell = { p.beginProbe .load cell with clockNext := some cell.clockHigh } := by
  simp [RadioPort.atLoad, h]

theorem RadioPort.atLoad_disabled (h : cell.enabled = false) :
    p.atLoad cell =
      { p.leave .off with status := .notChecked, restartCount := 0, clockNext := some cell.clockHigh } := by
  simp [RadioPort.atLoad, h]

theorem RadioPort.atLoad_loadProbing : (p.atLoad cell).loadProbing = cell.enabled := by
  cases h : cell.enabled with
  | true => rw [p.atLoad_enabled cell h]; rfl
  | false => rw [p.atLoad_disabled cell h, p.leave_eq]; rfl

theorem RadioPort.atLoad_clock : (p.atLoad cell).clockHigh = p.clockHigh ∧
    (p.atLoad cell).clockNext = some cell.clockHigh ∧ ((p.atLoad cell).exchange = none ↔ p.exchange = none) := by
  cases h : cell.enabled with
  | true =>
    rw [p.atLoad_enabled cell h]
    exact ⟨rfl, rfl, Option.map_eq_none_iff⟩
  | false =>
    rw [p.atLoad_disabled cell h, p.leave_eq]
    exact ⟨rfl, rfl, Option.map_eq_none_iff⟩

/-- A free link takes the new clock idle level over as it goes on, when its port makes no probe or begins with a probe's command. -/
theorem RadioPort.goOn_clockHigh (free : p.exchange = none)
    (takes : p.probe = none ∨ (p.serveDue p.due).probeCommandOut = true) : p.goOn.clockHigh = p.clockLevel := by
  obtain ⟨e, d, h, b, served⟩ := RadioPort.serveDue_frame p.due p
  have probe : (p.serveDue p.due).probe = p.probe := by rw [served]
  have none : p.goOn.clockNext = none := by
    rw [p.goOn_free free]
    obtain ⟨d, noted⟩ := (p.serveDue p.due).takeClock.notePull_due
    rw [noted]
    change (p.serveDue p.due).takeClock.clockNext = _
    unfold RadioPort.takeClock
    split
    · assumption
    · rw [if_pos]
      rcases takes with h | h <;> simp [probe, h]
  rw [← p.goOn_clockLevel, RadioPort.clockLevel, none]
  rfl

/-- What the link's going on leaves of an enabled cell's port: its probe, its level and IDENT. -/
theorem RadioPort.atLoad_goOn_enabled (h : cell.enabled = true) :
    (p.atLoad cell).goOn.state = .probing ∧ (p.atLoad cell).goOn.status = p.status ∧
      (p.atLoad cell).goOn.issued .ident .probe ∧
      (p.atLoad cell).goOn.probe = some { reason := .load, channel := cell.channel, rate := cell.rate, tries := [],
                                          tuning := false } := by
  have due : Due.command .ident .probe ∈ (p.atLoad cell).due := by
    rw [p.atLoad_enabled cell h]
    exact List.mem_append_right _ (List.mem_singleton_self _)
  have issued := (p.atLoad cell).goOn_issued .ident .probe (.inr due)
  obtain ⟨e, d, o, b, k, n, frame⟩ := (p.atLoad cell).goOn_frame
  refine ⟨?_, ?_, issued, ?_⟩
  all_goals
    rw [frame, p.atLoad_enabled cell h]
    rfl

theorem RadioPort.atLoad_goOn_disabled (h : cell.enabled = false) :
    (p.atLoad cell).goOn.state = .off ∧ (p.atLoad cell).goOn.status = .notChecked ∧
      (p.atLoad cell).goOn.restartCount = 0 ∧ (p.atLoad cell).goOn.probe = none := by
  obtain ⟨e, d, o, b, k, n, frame⟩ := (p.atLoad cell).goOn_frame
  rw [frame, p.atLoad_disabled cell h, p.leave_eq]
  exact ⟨rfl, rfl, rfl, rfl⟩

/-- The new level is the next exchange's, and a free link has it at once. -/
theorem RadioPort.atLoad_goOn_clock (settled : p.settled = true) :
    (p.atLoad cell).goOn.clockLevel = cell.clockHigh ∧
      (p.exchange = none → (p.atLoad cell).goOn.clockHigh = cell.clockHigh) ∧
      (p.exchange ≠ none → (p.atLoad cell).goOn.clockHigh = p.clockHigh) := by
  obtain ⟨high, next, exchange⟩ := p.atLoad_clock cell
  have level : (p.atLoad cell).clockLevel = cell.clockHigh := by rw [RadioPort.clockLevel, next]; rfl
  refine ⟨by rw [RadioPort.goOn_clockLevel, level], fun free => ?free, fun busy => ?busy⟩
  case free =>
    rw [RadioPort.goOn_clockHigh _ (exchange.2 free) ?takes, level]
    obtain ⟨due, _, _⟩ := (p.settled_free free).1 settled
    cases h : cell.enabled with
    | true =>
      refine .inr ?_
      have one : (p.atLoad cell).due = [.command .ident .probe] := by
        rw [p.atLoad_enabled cell h]
        simp [RadioPort.beginProbe, RadioPort.issue, RadioPort.dropAll, RadioPort.clearReceive, RadioPort.dropWork, due]
      rw [one]
      rfl
    | false =>
      refine .inl ?_
      rw [p.atLoad_disabled cell h, p.leave_eq]
  case busy =>
    rw [RadioPort.goOn_busy _ (fun none => busy (exchange.1 none))]
    obtain ⟨d, noted⟩ := (p.atLoad cell).notePull_due
    rw [noted]
    exact high

end

section
variable {s : State} {before : ControllerState} {aside : Settings} {clamps : Nat} {saved : PerCell SavedPort}

theorem State.checkLoadProbes_of_probing (running : s.cmd.inProgress = some (.load before (.probing aside clamps saved)))
    (h : ∃ c, (s.portAt c).loadProbing = true) : s.checkLoadProbes = s := by
  obtain ⟨c, probing⟩ := h
  unfold State.checkLoadProbes
  rw [running]
  exact if_pos (List.any_eq_true.2 ⟨c, mem_allCells c, probing⟩)

/-- The settings held aside are put into force with the end of the last probe (R180). -/
theorem State.checkLoadProbes_of_ended (running : s.cmd.inProgress = some (.load before (.probing aside clamps saved)))
    (h : ∀ c, (s.portAt c).loadProbing = false) :
    s.checkLoadProbes = ({ s with
      settings := aside, inForce := true,
      cmd := { s.cmd with controller := .loaded,
                          inProgress := some (.load before (.recording clamps)) } } : State).nightDue true := by
  unfold State.checkLoadProbes
  rw [running]
  exact if_neg (by simp [h])

end

/-- The state in which an accepted block's probes have begun on the ports. -/
def State.probing (s : State) (before : ControllerState) (aside : Settings) (clamps : Nat) (saved : PerCell SavedPort)
    (p : PerCell RadioPort) : State :=
  { s with cmd := { s.cmd with inProgress := some (.load before (.probing aside clamps saved)) }, port := p }

theorem exec_anchorReadDone_of_accepted {s : State} {before : ControllerState} {ws : List Word} {saved : PerCell SavedPort}
    (running : s.cmd.inProgress = some (.load before (.read ws saved))) (accepted : anchorAccepted ws = true) :
    ∃ p, exec .anchorReadDone s =
        .next (s.probing before (anchorSettings ws) (anchorClamps ws) saved p).checkLoadProbes.conclude ∧
      ∀ c, cellAt p c = (s.portAt c).atLoad (cellAt (anchorSettings ws).cells c) := by
  obtain ⟨p, probes, at_⟩ := forCells_modPort (fun c q => q.atLoad (cellAt (anchorSettings ws).cells c))
    (s.setCmd { s.cmd with inProgress := some (.load before (.probing (anchorSettings ws) (anchorClamps ws) saved)) })
  refine ⟨p, ?_, at_⟩
  have step : exec .anchorReadDone s = .next s.anchorRead.conclude := rfl
  have read : s.anchorRead = s.probeForLoad before (anchorSettings ws) (anchorClamps ws) saved := by
    unfold State.anchorRead
    rw [running]
    exact if_pos accepted
  rw [step, read, State.probeForLoad]
  dsimp only
  rw [probes]
  rfl

/-- Settles O14: each port is dealt with by its cell's setting, and the last probe's end is there at once when no cell is enabled. -/
theorem acceptedAnchorProbes : Obligations.AcceptedAnchorProbes := by
  unfold Obligations.AcceptedAnchorProbes
  intro s before ws saved hs running accepted aside
  obtain ⟨waiting, settled⟩ := s.quiet_iff.1 hs
  obtain ⟨_, _, ports, bus⟩ := s.settled_iff.1 settled
  obtain ⟨p, step, at_⟩ := exec_anchorReadDone_of_accepted running accepted
  have probing (c : CellId) : (cellAt p c).loadProbing = (cellAt aside.cells c).enabled := by
    rw [at_ c, RadioPort.atLoad_loadProbing]
  have cells (t : State) (link : ∀ c, t.portAt c = (cellAt p c).goOn) (c : CellId) :
      let cell := cellAt aside.cells c
      (t.portAt c).clockLevel = cell.clockHigh ∧
        ((s.portAt c).exchange = none → (t.portAt c).clockHigh = cell.clockHigh) ∧
        ((s.portAt c).exchange ≠ none → (t.portAt c).clockHigh = (s.portAt c).clockHigh) ∧
        (cell.enabled = true →
          (t.portAt c).state = .probing ∧ (t.portAt c).status = (s.portAt c).status ∧
          (t.portAt c).issued .ident .probe ∧
          (t.portAt c).probe = some { reason := .load, channel := cell.channel, rate := cell.rate, tries := [],
                                      tuning := false }) ∧
        (cell.enabled = false →
          (t.portAt c).state = .off ∧ (t.portAt c).status = .notChecked ∧ (t.portAt c).restartCount = 0 ∧
          (t.portAt c).probe = none) := by
    rw [link c, at_ c]
    obtain ⟨level, free, busy⟩ := (s.portAt c).atLoad_goOn_clock (cellAt aside.cells c) (ports c)
    exact ⟨level, free, busy, (s.portAt c).atLoad_goOn_enabled _, (s.portAt c).atLoad_goOn_disabled _⟩
  rw [step]
  let u := s.probing before aside (anchorClamps ws) saved p
  by_cases some_ : ∃ c : CellId, (cellAt aside.cells c).enabled = true
  · have begun : u.checkLoadProbes = u :=
      State.checkLoadProbes_of_probing rfl (some_.imp fun c h => (probing c).trans h)
    obtain ⟨q, links⟩ := State.conclude_links (u := u) (.inr rfl) (by simp [State.drainDue, u, State.probing]) bus
    refine ⟨u.conclude, by rw [begun], ?_, cells _ fun c => u.conclude_portAt c (.inr rfl), fun _ => ⟨?_, ?_⟩,
      fun none => absurd some_ (by simpa using none)⟩
    all_goals
      rw [links]
      rfl
  · have none (c : CellId) : (cellAt aside.cells c).enabled = false := by
      simpa using fun h => some_ ⟨c, h⟩
    have ended := State.checkLoadProbes_of_ended (s := u) rfl fun c => (probing c).trans (none c)
    let v : State := { u with
      settings := aside, inForce := true,
      cmd := { u.cmd with controller := .loaded, inProgress := some (.load before (.recording (anchorClamps ws))) } }
    obtain ⟨n, b, due⟩ := v.nightDue_frame true
    have recorded := v.nightDue_recordDue true
    have awaited := v.nightDue_awaited
    obtain ⟨q, b', frame⟩ := State.conclude_running (u := v.nightDue true)
      (r := .load before (.recording (anchorClamps ws))) (by rw [due]) nofun
    have night : (v.nightDue true).conclude.night = (v.nightDue true).night := by rw [frame]
    refine ⟨(v.nightDue true).conclude, by rw [ended], ?_, cells _ fun c => ?_, fun h => absurd h some_,
      fun _ => ⟨?_, ?_, ?_, ?_, ?_⟩⟩
    · rw [frame, due]; rfl
    · rw [State.conclude_portAt _ c (.inr (by rw [due]; rfl)), due]; rfl
    · rw [frame, due]
    · rw [frame, due]
    · exact (State.recordDue_congr rfl night).2 recorded
    · rw [night]; exact awaited
    · rw [frame, due]; rfl

end Sys2Proof.Machine
end

section
/-! PROOFS. The cut of a night: ABORT, and entry into FAULTED (R41, R66, R88, R105, R124, R159, R164, R185). -/

namespace Sys2Proof.Machine

/-! ### Links with no frame due -/

/-- A link with no held frame's SEND due begins with something else, and what is held stays (R149). -/
theorem RadioPort.goOn_held (p : RadioPort) (h : Due.held ∉ p.due) :
    p.goOn.holding = p.holding ∧ p.goOn.behind = p.behind := by
  by_cases free : p.exchange = none
  · obtain ⟨d, noted⟩ := (p.serveDue p.due).takeClock.notePull_due
    obtain ⟨k, n, taken⟩ := (p.serveDue p.due).takeClock_frame
    have served := RadioPort.serveDue_no_held p.due h p
    rw [p.goOn_free free, noted, taken]
    exact served
  · obtain ⟨d, noted⟩ := p.notePull_due
    rw [p.goOn_busy free, noted]
    exact ⟨rfl, rfl⟩

theorem RadioPort.goOn_exchange (p : RadioPort) {e : Exchange} (h : p.exchange = some e) : p.goOn.exchange = some e := by
  rw [p.goOn_busy (by simp [h]), RadioPort.notePull_exchange, h]

/-! ### One cell at the cut -/

/-- The port of a cell at the cut, by whether a CELL_OFF is pending. -/
def RadioPort.atCut (offPending : Bool) (p : RadioPort) : RadioPort :=
  if offPending then p.cut.cutProbe.leave .off else p.cut.cutProbe

/-- The sequencer of a cell at the cut. -/
def Sequencer.atCut (q : Sequencer) : Sequencer := { q.noPlan with coming := none, offPending := false, cut := true }

theorem State.cutCell_eq (s : State) (c : CellId) :
    s.cutCell c = (s.modPort c (RadioPort.atCut (s.seqAt c).offPending)).modSeq c Sequencer.atCut := by
  have pending (t : State) (ht : (t.seqAt c).offPending = (s.seqAt c).offPending) :
      t.takeOffPending c = if (s.seqAt c).offPending then t.cellOff c else t := by rw [State.takeOffPending, ht]
  rw [State.cutCell, pending _ (by simp; rfl)]
  cases h : (s.seqAt c).offPending with
  | true =>
    rw [if_pos rfl]
    have order (t : State) (f : Sequencer → Sequencer) (g : RadioPort → RadioPort) :
        (t.modSeq c f).modPort c g = (t.modPort c g).modSeq c f := rfl
    rw [State.cellOff, order, State.modPort_modPort, State.modSeq_modSeq]
    rfl
  | false =>
    rw [if_neg Bool.false_ne_true]
    refine State.modSeq_congr _ c ?_
    simp [Sequencer.atCut, Sequencer.noPlan, h]

/-- What the cut of a night leaves, block by block (R66, R88, R105, R106, R144, R159). -/
theorem State.cutNight_eq (s : State) (hand : Option InHand) : ∃ ports seqs, s.cutNight hand =
      { s with
        notices := [], due := Vector.replicate 4 [], wb := { list := [], phase := .idle },
        sweep := { running := none, suspended := none, groupSet := [], rescanPending := false, reread := [], hand := hand },
        flip := { s.flip with groups := tableMap (fun r => { r with state := .opened }) s.flip.groups },
        fetch := { list := [], current := none }, store := Vector.replicate 4 [],
        timer := { s.timer with schedule := none }, port := ports, seq := seqs } ∧
    ∀ c, cellAt ports c = (s.portAt c).atCut (s.seqAt c).offPending ∧ cellAt seqs c = (s.seqAt c).atCut := by
  obtain ⟨ports, seqs, cells, at_⟩ := forCells_modCell (f := State.cutCell) (fun q => RadioPort.atCut q.offPending)
    Sequencer.atCut State.cutCell_eq ((s.endSweep hand).discardRecords.reopenGroups)
  refine ⟨ports, seqs, ?_, at_⟩
  unfold State.cutNight
  rw [cells]
  rfl

section
variable (p : RadioPort)

/-- A cut leaves nothing held, received, or waiting for the link but pulls and an IDLE (R149, R159). -/
theorem RadioPort.cut_eq : p.cut = { p with
    holding := none, behind := [], due := p.due.filter fun d => !d.isWork, fifo := [], blocked := false,
    exchange := p.exchange.map Exchange.cut } := rfl

theorem held_notMem_filter (l : List Due) : Due.held ∉ l.filter fun d => !d.isWork := by
  simp [List.mem_filter, Due.isWork]

/-- A cell that leaves with nothing held has no frame due. -/
theorem RadioPort.leave_held (st : CellState) : Due.held ∉ (p.leave st).due := by
  rw [p.leave_eq]
  simp only [List.mem_append, not_or]
  refine ⟨held_notMem_filter _, ?_⟩
  split <;> simp

theorem Exchange.endProbe_cut (e : Exchange) : e.cut.endProbe = e.cut := by
  cases e <;> rfl

/-- What a cut port is whatever becomes of its probe. -/
structure RadioPort.Emptied (p q : RadioPort) : Prop where
  fifo : q.fifo = []
  holding : q.holding = none
  behind : q.behind = []
  due : Due.held ∉ q.due
  exchange : q.exchange = p.exchange.map Exchange.cut
  status : q.status = p.status
  restartCount : q.restartCount = p.restartCount

theorem RadioPort.cut_emptied : p.Emptied p.cut :=
  ⟨rfl, rfl, rfl, held_notMem_filter _, rfl, rfl, rfl⟩

theorem RadioPort.Emptied.leave {p q : RadioPort} (h : p.Emptied q) (st : CellState) : p.Emptied (q.leave st) := by
  have exchange : (q.leave st).exchange = p.exchange.map Exchange.cut := by
    rw [q.leave_eq, h.exchange, Option.map_map]
    exact congrArg (fun f => p.exchange.map f) (funext Exchange.endProbe_cut)
  exact ⟨by rw [q.leave_eq], by rw [q.leave_eq], by rw [q.leave_eq], q.leave_held st, exchange,
    by rw [q.leave_eq]; exact h.status, by rw [q.leave_eq]; exact h.restartCount⟩

theorem RadioPort.Emptied.cutProbe {q : RadioPort} {p : RadioPort} (h : p.Emptied q) : p.Emptied q.cutProbe := by
  unfold RadioPort.cutProbe
  split
  · exact h
  · split
    · obtain ⟨fifo, holding, behind, due, exchange, status, restartCount⟩ := h.leave .quiet
      exact ⟨fifo, holding, behind, due, exchange, status, restartCount⟩
    · exact h.leave .off
    · exact h

theorem RadioPort.atCut_emptied (offPending : Bool) : p.Emptied (p.atCut offPending) := by
  unfold RadioPort.atCut
  split
  · exact (p.cut_emptied.cutProbe).leave .off
  · exact p.cut_emptied.cutProbe

theorem RadioPort.Emptied.goOn {p q : RadioPort} (h : p.Emptied q) :
    q.goOn.fifo = [] ∧ q.goOn.holding = none ∧ q.goOn.behind = [] ∧ q.goOn.status = p.status ∧
      q.goOn.restartCount = p.restartCount ∧
      ∀ k purpose second last, p.exchange = some (.command k purpose second last) →
        q.goOn.exchange = some (.command k .orphan second true) := by
  obtain ⟨holding, behind⟩ := q.goOn_held h.due
  obtain ⟨e, d, o, b, k, n, frame⟩ := q.goOn_frame
  refine ⟨?_, by rw [holding, h.holding], by rw [behind, h.behind], ?_, ?_, fun k purpose second last he => ?_⟩
  · rw [frame]; exact h.fifo
  · rw [frame]; exact h.status
  · rw [frame]; exact h.restartCount
  · exact q.goOn_exchange (by rw [h.exchange, he]; rfl)

end

/-- A cell is cut once its link has gone on after the cut. -/
theorem State.cutInto_of {s t : State} {c : CellId} (port : t.portAt c = ((s.portAt c).atCut (s.seqAt c).offPending).goOn)
    (seq : t.seqAt c = (s.seqAt c).atCut) : s.cutInto t c := by
  obtain ⟨fifo, holding, behind, status, restartCount, exchange⟩ :=
    ((s.portAt c).atCut_emptied (s.seqAt c).offPending).goOn
  obtain ⟨e, d, o, b, k, n, frame⟩ := ((s.portAt c).atCut (s.seqAt c).offPending).goOn_frame
  unfold State.cutInto
  rw [port, seq]
  refine ⟨rfl, rfl, rfl, fifo, holding, behind, exchange, fun pending => ?off, fun kept none => ?kept,
    fun probe kept some_ => ⟨status, restartCount, fun adopted reason => ?restart, fun before reason => ?cellOn⟩⟩
  case off =>
    rw [frame, pending, RadioPort.atCut, if_pos rfl, RadioPort.leave_eq]
  all_goals rw [frame, kept, RadioPort.atCut, if_neg Bool.false_ne_true, RadioPort.cutProbe]
  case kept =>
    have probe : (s.portAt c).cut.probe = Option.none := none
    rw [probe]
    exact ⟨rfl, rfl, rfl⟩
  case restart =>
    have probing : (s.portAt c).cut.probe = some probe := some_
    rw [probing]
    simp only [reason, RadioPort.leave_eq, Config.restartBeacons, and_self]
  case cellOn =>
    have probing : (s.portAt c).cut.probe = some probe := some_
    rw [probing]
    simp only [reason, RadioPort.leave_eq]

/-! ### ABORT of a night (R41, R185) -/

/-- ABORT's own night record write falls due, and ABORT waits for it (R173). -/
theorem State.nightAbort_eq (s : State) : ∃ n r, s.nightAbort = { s with night := n, bus := { s.bus with nightReq := r } } ∧
    n.awaited = true := by
  unfold State.nightAbort
  cases h : s.night.current with
  | none => exact ⟨_, _, rfl, by simp [NightWriter.awaited]⟩
  | some w =>
    dsimp only
    split
    · exact ⟨_, s.bus.nightReq, rfl, by simp [NightWriter.awaited]⟩
    · split
      · exact ⟨_, s.bus.nightReq, rfl, by simp [NightWriter.awaited]⟩
      · exact ⟨_, _, rfl, by simp [NightWriter.awaited]⟩

section
variable (p : MemoryPort) (kept : Bool)

/-- At ABORT a transfer in progress is carried to its end, without its requester unless that goes on; the waiting ones are
withdrawn (R166). -/
theorem MemoryPort.atAbort_eq : p.atAbort kept =
    { p with
      fetchReq := none, writeBackReq := none, anchorReq := none, entryReq := if kept then p.entryReq else none,
      current := p.current.map fun tr => { tr with orphan := (tr.orphan ||
        decide (tr.requester = .fetch ∨ tr.requester = .writeBack ∨ tr.requester = .anchor ∨
          tr.requester = .entry ∧ kept = false)) } } := by
  unfold MemoryPort.atAbort
  cases h : p.current with
  | none => cases kept <;> simp [MemoryPort.orphan, MemoryPort.setWaiting, h]
  | some tr =>
    obtain ⟨requester, action, orphan, checked⟩ := tr
    cases kept <;> cases requester <;> simp [MemoryPort.orphan, MemoryPort.setWaiting, h]

theorem MemoryPort.serves_iff {tr : Transfer} (h : p.current = some tr) (r : Requester) :
    p.serves r = true ↔ tr.requester = r ∧ tr.orphan = false := by
  simp [MemoryPort.serves, h]

end

/-- The entry in hand at ABORT, phase by phase (R41). -/
theorem State.finishesHand_of {s t : State} (h : t.sweep.hand = s.sweep.hand.bind (InHand.atAbort s.bus)) :
    s.finishesHand t := by
  unfold State.finishesHand
  rw [h]
  refine ⟨fun none => by rw [none]; rfl, fun e w some_ => ?_⟩
  rw [some_]
  have begun : (∃ tr, s.bus.current = some tr ∧ tr.requester = .entry ∧ tr.orphan = false) ↔ s.bus.serves .entry = true := by
    cases hc : s.bus.current <;> simp [MemoryPort.serves, hc]
  simp only [Option.bind_some, InHand.atAbort, begun]
  refine ⟨fun phase => ?_, fun phase => ⟨fun serves => ?_, fun not => ?_⟩, fun phase => ?_, fun phase => ?_,
    fun phase => ?_, fun phase => ?_, fun phase => ?_⟩
  · rcases phase with phase | phase | ⟨words, phase⟩ <;> rw [phase]
  · rw [phase]; exact if_pos serves
  · rw [phase]; exact if_neg not
  all_goals rw [phase]

/-- The state that ABORT leaves of a night, its ports, sequencers and night record write being given (R185). -/
def State.nightCut (s : State) (hand : Option InHand) (ports : PerCell RadioPort) (seqs : PerCell Sequencer) (night : NightWriter)
    (request : Option Action) : State :=
  { s with
    cmd := { s.cmd with controller := .loaded, inProgress := some (.abort .ok s.pendingGroups),
                        resultCode := .inProgress, resultValue := 0 }
    notices := [], due := Vector.replicate 4 [], wb := { list := [], phase := .idle }
    sweep := { running := none, suspended := none, groupSet := [], rescanPending := false, reread := [], hand := hand }
    flip := { s.flip with groups := tableMap (fun r => { r with state := .opened }) s.flip.groups }
    fetch := { list := [], current := none }, store := Vector.replicate 4 []
    timer := { s.timer with schedule := none }, port := ports, seq := seqs, night := night
    bus := { s.bus.atAbort hand.isSome with nightReq := request } }

theorem exec_abort_of_night {s : State} (controller : s.cmd.controller ∈ [.running, .paused, .stopping])
    (notAbort : s.cmd.inProgress.any Running.isAbort = false) : ∃ ports seqs night request,
      exec .abort s =
        .next (s.nightCut (s.sweep.hand.bind (InHand.atAbort s.bus)) ports seqs night request).conclude ∧
      (∀ c, cellAt ports c = (s.portAt c).atCut (s.seqAt c).offPending ∧ cellAt seqs c = (s.seqAt c).atCut) ∧
      night.awaited = true := by
  have step : exec .abort s = .next (s.writeCommand .abort).conclude := rfl
  have now : s.writeCommand .abort = s.takeAbort := if_neg (by simp [notAbort])
  have night : s.takeAbort = s.abortNight := by
    unfold State.takeAbort
    cases hc : s.cmd.controller <;> simp_all
  obtain ⟨ports, seqs, cut, cells⟩ := s.cutNight_eq (s.sweep.hand.bind (InHand.atAbort s.bus))
  rw [step, now, night, State.abortNight, cut]
  obtain ⟨n, r, due, awaited⟩ := State.nightAbort_eq (s.nightCut (s.sweep.hand.bind (InHand.atAbort s.bus)) ports seqs s.night
    (s.bus.atAbort (s.sweep.hand.bind (InHand.atAbort s.bus)).isSome).nightReq)
  refine ⟨ports, seqs, n, r, congrArg (fun u : State => Host.Outcome.next u.conclude) due, cells, awaited⟩

/-- Settles O17: the cut, block by block, and the night record write that ABORT makes of its own. -/
theorem abortCutsTheNight : Obligations.AbortCutsTheNight := by
  unfold Obligations.AbortCutsTheNight
  intro s controller notAbort
  obtain ⟨ports, seqs, night, request, step, cells, awaited⟩ := exec_abort_of_night controller notAbort
  let hand := s.sweep.hand.bind (InHand.atAbort s.bus)
  let u := s.nightCut hand ports seqs night request
  obtain ⟨p, acts, links⟩ := State.conclude_acts (u := u) (.inr rfl) (by simp [State.drainDue, u, State.nightCut])
  obtain ⟨b, chosen⟩ := u.arbitrate_frame
  have frame : u.conclude = { u with port := p, bus := b } := by rw [acts, chosen]; rfl
  have bus : u.bus = { s.bus.atAbort hand.isSome with nightReq := request } := rfl
  rw [MemoryPort.atAbort_eq] at bus
  have noWaiting (r : Requester) (h : u.bus.waitingOf r = none) : u.conclude.bus.waitingOf r = none := by
    rw [acts]
    exact State.arbitrate_waitingOf h
  have fetchReq : u.conclude.bus.fetchReq = none := noWaiting .fetch (by rw [bus]; rfl)
  have writeBackReq : u.conclude.bus.writeBackReq = none := noWaiting .writeBack (by rw [bus]; rfl)
  have anchorReq : u.conclude.bus.anchorReq = none := noWaiting .anchor (by rw [bus]; rfl)
  have sweep : u.conclude.sweep = { running := none, suspended := none, groupSet := [], rescanPending := false, reread := [],
                                    hand := hand } := by rw [frame]; rfl
  have cut (c : CellId) : s.cutInto u.conclude c := by
    obtain ⟨port, seq⟩ := cells c
    refine State.cutInto_of ?_ ?_
    · rw [frame]
      exact (links c).trans (congrArg _ port)
    · rw [frame]
      exact seq
  refine ⟨u.conclude, step, by rw [frame]; rfl, by rw [frame]; rfl, by rw [sweep], by rw [sweep], by rw [sweep], by rw [sweep],
    by rw [sweep], by rw [frame]; exact awaited, by rw [frame]; rfl, fun g => ?groups, cut,
    State.finishesHand_of (by rw [sweep]), fetchReq, writeBackReq, anchorReq, fun none => ?entryReq, fun tr current => ?carried⟩
  case groups =>
    rw [frame]
    exact groupAt_tableMap _ s.flip.groups g
  case entryReq =>
    have dropped : hand = Option.none := by rw [sweep] at none; exact none
    exact noWaiting .entry (by rw [bus, dropped]; rfl)
  case carried =>
    have busy : u.bus.current.isSome = true := by rw [bus, current]; rfl
    have unchosen : u.conclude.bus = u.bus := by rw [acts, State.arbitrate_of_current busy]; rfl
    rw [sweep, unchosen, bus, current]
    cases hand <;> simp

/-! ### A cell that LOAD's end brings back (R153) -/

theorem RadioPort.restore_eq (p : RadioPort) (v : SavedPort) : ∃ due, Due.held ∉ due ∧ p.restore v = { p.cut with
    state := if v.state = .probing then .quiet else v.state, status := v.status, runCount := v.runCount,
    restartCount := v.restartCount, countdown := if v.state = .probing then Config.restartBeacons else v.countdown,
    clockNext := some v.clockHigh, probe := none, due := due } := by
  unfold RadioPort.restore
  dsimp only
  cases h : p.state.inUse && !(if v.state = .probing then CellState.quiet else v.state).inUse with
  | true => exact ⟨p.cut.due ++ [.command .rest .port], by simp [RadioPort.cut_eq, Due.isWork], if_pos rfl⟩
  | false => exact ⟨p.cut.due, held_notMem_filter _, if_neg Bool.false_ne_true⟩

theorem RadioPort.restore_goOn (p : RadioPort) (v : SavedPort) : (p.restore v).goOn.broughtBack v ∧
    (p.restore v).goOn.fifo = [] ∧ (p.restore v).goOn.holding = none ∧ (p.restore v).goOn.behind = [] := by
  obtain ⟨due, notHeld, restored⟩ := p.restore_eq v
  obtain ⟨holding, behind⟩ := (p.restore v).goOn_held (by rw [restored]; exact notHeld)
  have level := (p.restore v).goOn_clockLevel
  obtain ⟨e, d, o, b, k, n, frame⟩ := (p.restore v).goOn_frame
  refine ⟨⟨?_, ?_, ?_, ?_, ?_, fun other => ⟨?_, ?_⟩, fun probing => ⟨?_, ?_⟩⟩, ?_, ?_, ?_⟩
  case refine_5 => rw [level, restored]; rfl
  case refine_6 => rw [frame, restored]; exact if_neg other
  case refine_7 => rw [frame, restored]; exact if_neg other
  case refine_8 => rw [frame, restored]; exact if_pos probing
  case refine_9 => rw [frame, restored]; exact if_pos probing
  case refine_11 => rw [holding, restored]; rfl
  case refine_12 => rw [behind, restored]; rfl
  case refine_10 => rw [frame, restored]; rfl
  all_goals rw [frame, restored]

/-! ### Entry into FAULTED (R164, R185) -/

/-- Under a LOAD that is probing, the ports return to what they held before it (R153). -/
def State.bringBack (s : State) (running : Option Running) : State :=
  match running with
  | some (.load _ (.probing _ _ saved)) => forCells (fun w c => w.modPort c fun p => p.restore (cellAt saved c)) s
  | _ => s

theorem State.bringBack_eq (s : State) (running : Option Running) : ∃ p, s.bringBack running = s.setPort p ∧
    ((∀ before aside clamps saved, running ≠ some (.load before (.probing aside clamps saved))) → p = s.port) ∧
    ∀ before aside clamps saved, running = some (.load before (.probing aside clamps saved)) →
      ∀ c, cellAt p c = (s.portAt c).restore (cellAt saved c) := by
  by_cases probing : ∃ before aside clamps saved, running = some (.load before (.probing aside clamps saved))
  · obtain ⟨before, aside, clamps, saved, rfl⟩ := probing
    obtain ⟨p, restored, at_⟩ := forCells_modPort (fun c q => q.restore (cellAt saved c)) s
    refine ⟨p, restored, fun not => absurd rfl (not before aside clamps saved), ?_⟩
    rintro before' aside' clamps' saved' ⟨⟩
    exact at_
  · have same : s.bringBack running = s := by
      unfold State.bringBack
      split
      · exact absurd ⟨_, _, _, _, rfl⟩ probing
      · rfl
    exact ⟨s.port, same, fun _ => rfl, fun before aside clamps saved h => absurd ⟨before, aside, clamps, saved, h⟩ probing⟩

theorem State.enterFaulted_of_notReset {s : State} (notReset : ∀ busy, s.cmd.inProgress ≠ some (.reset busy)) :
    s.enterFaulted =
      let t := (s.cutNight none).setBus memoryPortReset
      let w := (((t.setNight { t.night with current := none, waiting := none }).bringBack s.cmd.inProgress).setController
        .faulted).raise .faulted
      if s.cmd.inProgress.isSome then w.finish .fault 0 else w := by
  unfold State.enterFaulted
  split
  · next busy running => exact absurd running (notReset busy)
  · rfl

/-- The state that entry into FAULTED leaves, its command unit, ports and sequencers being given. -/
def State.faulted (s : State) (cmd : CommandUnit) (ports : PerCell RadioPort) (seqs : PerCell Sequencer) : State :=
  { s with
    cmd := cmd, notices := [], due := Vector.replicate 4 [], wb := { list := [], phase := .idle }
    sweep := State.reset.sweep
    flip := { s.flip with groups := tableMap (fun r => { r with state := .opened }) s.flip.groups }
    fetch := { list := [], current := none }, store := Vector.replicate 4 []
    timer := { s.timer with schedule := none }, port := ports, seq := seqs, bus := State.reset.bus
    night := { s.night with current := none, waiting := none } }

theorem State.enterFaulted_eq {s : State} (notReset : ∀ busy, s.cmd.inProgress ≠ some (.reset busy)) : ∃ cmd ports seqs,
    s.enterFaulted = s.faulted cmd ports seqs ∧
    (s.cmd.inProgress = none → cmd = { s.cmd with controller := .faulted, attn := s.cmd.attn ||| 128 }) ∧
    (s.cmd.inProgress.isSome = true → cmd = { s.cmd with
      controller := .faulted, attn := s.cmd.attn ||| 129, inProgress := none, resultCode := .fault, resultValue := 0 }) ∧
    (∀ c, cellAt seqs c = (s.seqAt c).atCut) ∧
    ((∀ before aside clamps saved, s.cmd.inProgress ≠ some (.load before (.probing aside clamps saved))) →
      ∀ c, cellAt ports c = (s.portAt c).atCut (s.seqAt c).offPending) ∧
    ∀ before aside clamps saved, s.cmd.inProgress = some (.load before (.probing aside clamps saved)) →
      ∀ c, cellAt ports c = ((s.portAt c).atCut (s.seqAt c).offPending).restore (cellAt saved c) := by
  obtain ⟨ports, seqs, cut, cells⟩ := s.cutNight_eq none
  obtain ⟨p, back, unchanged, restored⟩ := (s.faulted s.cmd ports seqs).bringBack_eq s.cmd.inProgress
  have attn : s.cmd.attn ||| Cause.faulted.bit ||| Cause.cmdDone.bit = s.cmd.attn ||| 129 := BitVec.or_assoc _ _ _
  have cells' (not : ∀ before aside clamps saved, s.cmd.inProgress ≠ some (.load before (.probing aside clamps saved)))
      (c : CellId) : cellAt p c = (s.portAt c).atCut (s.seqAt c).offPending := by
    rw [unchanged not]
    exact (cells c).1
  have back' (before aside clamps saved) (h : s.cmd.inProgress = some (.load before (.probing aside clamps saved))) (c : CellId) :
      cellAt p c = ((s.portAt c).atCut (s.seqAt c).offPending).restore (cellAt saved c) := by
    rw [restored before aside clamps saved h c, ← (cells c).1]
    rfl
  rw [State.enterFaulted_of_notReset notReset, cut]
  change ∃ cmd ports' seqs', (if s.cmd.inProgress.isSome = true then
    ((((s.faulted s.cmd ports seqs).bringBack s.cmd.inProgress).setController .faulted).raise .faulted).finish .fault 0
    else (((s.faulted s.cmd ports seqs).bringBack s.cmd.inProgress).setController .faulted).raise .faulted) = _ ∧ _
  rw [back]
  by_cases running : s.cmd.inProgress.isSome = true
  · rw [if_pos running]
    refine ⟨_, p, seqs, rfl, fun none => by simp [none] at running, fun _ => ?_, fun c => (cells c).2, cells', back'⟩
    rw [← attn]
    rfl
  · rw [if_neg running]
    exact ⟨_, p, seqs, rfl, fun _ => rfl, fun h => absurd h running, fun c => (cells c).2, cells', back'⟩

/-- Settles O56: the night is cut as ABORT cuts it, LOAD's probes are undone, and nothing is left for the end of the step but the links. -/
theorem transferErrorFaults : Obligations.TransferErrorFaults := by
  unfold Obligations.TransferErrorFaults
  intro s tr waiting holding current notReset
  obtain ⟨cmd, ports, seqs, faults, idle, busy, cells, cut, back⟩ := State.enterFaulted_eq notReset
  have unit : cmd.waiting = none ∧ cmd.controller = .faulted := by
    cases h : s.cmd.inProgress with
    | none => rw [idle h]; exact ⟨waiting, rfl⟩
    | some r => rw [busy (by rw [h]; rfl)]; exact ⟨waiting, rfl⟩
  have step := exec_transferError_of_holding holding current
  rw [faults] at step
  obtain ⟨p, acts, links⟩ := State.conclude_acts (u := s.faulted cmd ports seqs) (.inl unit.1)
    (by simp [State.drainDue, State.stopping, State.faulted, unit.2])
  have unchosen : (s.faulted cmd ports seqs).arbitrate = s.faulted cmd ports seqs :=
    State.arbitrate_settled _ (by rfl)
  rw [unchosen] at acts
  have seq (c : CellId) : (s.faulted cmd ports seqs).conclude.seqAt c = (s.seqAt c).atCut := by
    rw [acts]
    exact cells c
  have link (c : CellId) : (s.faulted cmd ports seqs).conclude.portAt c = (cellAt ports c).goOn := by
    rw [acts]
    exact links c
  refine ⟨_, step, by rw [acts]; rfl, by rw [acts]; rfl, fun g => ?groups, fun c => by rw [seq]; rfl,
    fun notProbing c => State.cutInto_of (by rw [link, cut notProbing]) (seq c), fun before aside clamps saved h c => ?back,
    fun h => ?idle, fun h => ?busy⟩
  case groups =>
    rw [acts]
    exact groupAt_tableMap _ s.flip.groups g
  case back =>
    rw [link, back before aside clamps saved h]
    exact RadioPort.restore_goOn _ _
  case idle =>
    rw [acts]
    exact idle h
  case busy =>
    rw [acts]
    exact busy h

end Sys2Proof.Machine
end

section
/-! PROOFS. CELL_ON and CELL_OFF by the state of their cell, and ABORT of a LOAD and of a CELL_ON (R153, R157, R158, R183, R185). -/

namespace Sys2Proof.Machine

/-! ### A command of one cell that completes (R172, R183) -/

/-- A completed command of cell c with nothing else to begin: the night record write falls due in LOADED alone, and only the link of
cell c goes on. -/
theorem State.conclude_nightIfLoaded {u : State} {c : CellId} (waiting : u.cmd.waiting = none)
    (idle : u.cmd.inProgress = none) (others : ∀ d, d ≠ c → (u.portAt d).settled = true) (bus : u.bus.settled = true) :
    ∃ n b p, u.nightIfLoaded.conclude = { u with night := n, bus := b, port := p } ∧
      (u.cmd.controller = .loaded → u.recordDue u.nightIfLoaded.conclude) ∧
      (u.cmd.controller ≠ .loaded → n = u.night ∧ b = u.bus) ∧
      cellAt p c = (u.portAt c).goOn ∧ ∀ d, d ≠ c → cellAt p d = u.portAt d := by
  have cells {p : PerCell RadioPort} (links : ∀ d, cellAt p d = (u.portAt d).goOn) :
      cellAt p c = (u.portAt c).goOn ∧ ∀ d, d ≠ c → cellAt p d = u.portAt d :=
    ⟨links c, fun d ne => (links d).trans (RadioPort.goOn_settled _ (others d ne))⟩
  by_cases loaded : u.cmd.controller = .loaded
  · have night : u.nightIfLoaded = u.nightDue false := if_pos loaded
    obtain ⟨n, b, due⟩ := u.nightDue_frame false
    have recorded := u.nightDue_recordDue false
    obtain ⟨p, acts, links⟩ := State.conclude_acts (u := u.nightDue false) (.inl (by rw [due]; exact waiting))
      (by rw [due]; simp [State.drainDue, idle])
    obtain ⟨b', chosen⟩ := (u.nightDue false).arbitrate_frame
    have after : (u.nightDue false).conclude = { u with night := n, bus := b', port := p } := by
      rw [acts, chosen, due]
      rfl
    rw [night, after]
    refine ⟨n, b', p, rfl, fun _ => ?_, fun h => absurd loaded h, cells fun d => ?_⟩
    · rw [due] at recorded
      exact recorded
    · rw [links d, due]
      rfl
  · have night : u.nightIfLoaded = u := if_neg loaded
    obtain ⟨p, acts, links⟩ := State.conclude_acts (u := u) (.inl waiting) (by simp [State.drainDue, idle])
    rw [night, acts, u.arbitrate_settled bus]
    exact ⟨u.night, u.bus, p, rfl, fun h => absurd h loaded, fun _ => ⟨rfl, rfl⟩, cells links⟩

theorem State.nightOn_loaded {s : State} (on : s.nightOn = true) : s.cmd.controller ≠ .loaded := by
  rcases s.nightOn_iff.1 on with h | h <;> simp [h]

theorem cellArgument_of_le {cell : BitVec 8} (h : 4 ≤ cell.toNat) : cellArgument cell = none :=
  dif_neg (Nat.not_lt.mpr h)

theorem cellArgument_of_eq {cell : BitVec 8} {c : CellId} (h : cell.toNat = c.val) : cellArgument cell = some c := by
  have small : cell.toNat < 4 := h ▸ c.isLt
  rw [cellArgument, dif_pos small]
  exact congrArg some (Fin.ext h)

/-! ### CELL_ON (R157) -/

section
variable {s : State} {cell : BitVec 8} {c : CellId}

theorem State.takeCellOn_of_le (takes : s.takesCells = true) (h : 4 ≤ cell.toNat) :
    s.takeCellOn cell = s.finish .badArgument 0 := by
  simp [State.takeCellOn, takes, cellArgument_of_le h]

theorem State.takeCellOn_of_active (takes : s.takesCells = true) (h : cell.toNat = c.val)
    (active : (s.portAt c).state = .active) :
    s.takeCellOn cell = ((s.modSeq c fun q => { q with offPending := false }).finish .ok
      (s.portAt c).status.code).nightIfLoaded := by
  simp [State.takeCellOn, takes, cellArgument_of_eq h, active]

/-- The port of a cell that CELL_ON makes probe: the countdown is dropped, the restart count kept from OFF alone. -/
def RadioPort.turnedOn (p : RadioPort) (cell : CellSettings) : RadioPort :=
  (if p.state = .off then p else { p with countdown := 0, restartCount := 0 }).beginProbe (.cellOn p.state) cell

theorem State.takeCellOn_of_idle (takes : s.takesCells = true) (h : cell.toNat = c.val)
    (idle : (s.portAt c).state ∈ [.off, .quiet, .failed]) :
    s.takeCellOn cell = (s.modPort c fun p => p.turnedOn (s.cellSettings c)).setRunning (.cellOn c) := by
  simp only [State.takeCellOn, takes, cellArgument_of_eq h, State.modPort, RadioPort.turnedOn, Bool.not_true,
    Bool.false_eq_true, if_false]
  cases hs : (s.portAt c).state <;> simp [hs] at idle ⊢

/-- A restart probe that a CELL_ON has taken over (R157). -/
def RadioPort.adopted (p : RadioPort) : RadioPort :=
  { p with probe := p.probe.map fun q => { q with reason := .restart true } }

theorem RadioPort.adopted_settled (p : RadioPort) : p.adopted.settled = p.settled := by
  have probe : p.adopted.probe.isSome = p.probe.isSome := Option.isSome_map
  unfold RadioPort.settled
  rw [probe]
  rfl

theorem State.takeCellOn_of_probing (takes : s.takesCells = true) (h : cell.toNat = c.val)
    (probing : (s.portAt c).state = .probing) :
    s.takeCellOn cell = (s.modPort c RadioPort.adopted).setRunning (.cellOn c) := by
  simp only [State.takeCellOn, takes, cellArgument_of_eq h, probing, Bool.not_true, Bool.false_eq_true, if_false]
  rfl

end

/-- What a beginning probe leaves of a port when its link has gone on (R152, R154). -/
theorem RadioPort.turnedOn_goOn (p : RadioPort) (cell : CellSettings) :
    (p.turnedOn cell).goOn.state = .probing ∧ (p.turnedOn cell).goOn.issued .ident .probe ∧
      (p.turnedOn cell).goOn.status = p.status ∧
      (p.turnedOn cell).goOn.probe = some { reason := .cellOn p.state, channel := cell.channel, rate := cell.rate,
                                            tries := [], tuning := false } ∧
      (p.state = .off → (p.turnedOn cell).goOn.restartCount = p.restartCount) ∧
      (p.state ≠ .off → (p.turnedOn cell).goOn.restartCount = 0 ∧ (p.turnedOn cell).goOn.countdown = 0) := by
  have due : Due.command .ident .probe ∈ (p.turnedOn cell).due := List.mem_append_right _ (List.mem_singleton_self _)
  have issued := (p.turnedOn cell).goOn_issued .ident .probe (.inr due)
  obtain ⟨e, d, o, b, k, n, frame⟩ := (p.turnedOn cell).goOn_frame
  refine ⟨by rw [frame]; rfl, issued, ?_, by rw [frame]; rfl, fun off => ?_, fun off => ?_⟩
  · rw [frame, RadioPort.turnedOn]
    split <;> rfl
  · rw [frame, RadioPort.turnedOn, if_pos off]
    rfl
  · rw [frame, RadioPort.turnedOn, if_neg off]
    exact ⟨rfl, rfl⟩

/-- Settles O23, by the state of the cell. -/
theorem cellOn : Obligations.CellOn := by
  unfold Obligations.CellOn
  intro s cell hs allowed
  have takes := s.takesCells_iff.2 allowed
  obtain ⟨idle, waiting, settled⟩ := s.free_iff.1 hs
  obtain ⟨_, _, ports, bus⟩ := s.settled_iff.1 settled
  have step {u : State} (h : s.takeCellOn cell = u) : exec (.cellOn cell) s = .next u.conclude := by
    have written : exec (.cellOn cell) s = .next (s.queueCommand (.cellOn cell)).conclude := rfl
    rw [written, State.queueCommand_of_free hs, State.takeCommand, h]
  refine ⟨fun h => (step (State.takeCellOn_of_le takes h)).trans (congrArg _ (State.conclude_finish hs _ _)),
    fun c hc => ⟨fun active => ?active, fun off => ?begins, fun probing => ?adopted⟩⟩
  case active =>
    obtain ⟨n, b, p, frame, loaded, kept, link, others⟩ := State.conclude_nightIfLoaded
      (u := (s.modSeq c fun q => { q with offPending := false }).finish .ok (s.portAt c).status.code) (c := c)
      waiting rfl (fun d _ => ports d) bus
    have same : p = s.port := cell_ext fun d => by
      by_cases hd : d = c
      · rw [hd, link]
        exact RadioPort.goOn_settled _ (ports c)
      · exact others d hd
    refine ⟨_, step (State.takeCellOn_of_active takes hc active), ?_, ?_, fun d hd => ?_, fun on => ?_, fun h => loaded h⟩
    · rw [frame, same]; rfl
    · rw [frame]
      exact State.modSeq_seqAt s c fun q => { q with offPending := false }
    · rw [frame]
      exact State.modSeq_seqAt_other s c d (fun q => { q with offPending := false }) hd
    · rw [frame]
      exact kept (State.nightOn_loaded on)
  case begins =>
    let u := (s.modPort c fun p => p.turnedOn (s.cellSettings c)).setRunning (.cellOn c)
    have own : u.portAt c = (s.portAt c).turnedOn (s.cellSettings c) :=
      s.modPort_portAt c fun p => p.turnedOn (s.cellSettings c)
    have other (d : CellId) (hd : d ≠ c) : u.portAt d = s.portAt d :=
      s.modPort_portAt_other c d (fun p => p.turnedOn (s.cellSettings c)) hd
    have links : u.conclude = u.kick c := u.conclude_link c (.inr rfl)
      (by simp [State.drainDue, u, State.setRunning]) (fun d hd => by rw [other d hd]; exact ports d) bus
    refine ⟨u.conclude, step (State.takeCellOn_of_idle takes hc off), by rw [links]; rfl, by rw [links]; rfl, fun d hd => ?_, ?_⟩
    · rw [links, u.kick_portAt_other c d hd, other d hd]
    · rw [links, u.kick_portAt, own]
      exact (s.portAt c).turnedOn_goOn (s.cellSettings c)
  case adopted =>
    rw [step (State.takeCellOn_of_probing takes hc probing), State.conclude_settled]
    · rfl
    refine (State.settled_iff _).2 ⟨.inl rfl, by simp [State.drainDue, State.setRunning], fun d => ?_, bus⟩
    change ((s.modPort c RadioPort.adopted).portAt d).settled = true
    rw [State.modPort_portAt_eq]
    split
    · rw [RadioPort.adopted_settled]
      exact ports c
    · exact ports d

/-! ### CELL_OFF (R158) -/

section
variable {s : State} {cell : BitVec 8} {c : CellId}

theorem State.takeCellOff_of_le (takes : s.takesCells = true) (h : 4 ≤ cell.toNat) :
    s.takeCellOff cell = s.finish .badArgument 0 := by
  simp [State.takeCellOff, takes, cellArgument_of_le h]

theorem State.takeCellOff_of_night (on : s.nightOn = true) (h : cell.toNat = c.val)
    (active : (s.portAt c).state = .active) :
    s.takeCellOff cell = (s.modSeq c fun q => { q with offPending := true }).finish .ok 0 := by
  have unloaded : ¬((s.modSeq c fun q => { q with offPending := true }).finish .ok 0).cmd.controller = .loaded :=
    State.nightOn_loaded on
  simp [State.takeCellOff, State.takesCells, on, cellArgument_of_eq h, active, State.nightIfLoaded, unloaded]

theorem State.cellOff_portAt (s : State) (c d : CellId) :
    (s.cellOff c).portAt d = if d = c then (s.portAt c).leave .off else s.portAt d :=
  s.modPort_portAt_eq c d fun p => p.leave .off

theorem State.cellOff_seqAt (s : State) (c d : CellId) :
    (s.cellOff c).seqAt d = if d = c then { s.seqAt c with offPending := false } else s.seqAt d :=
  cellAt_cellPut s.seq c d _

/-- The state in which CELL_OFF completes when its cell does not stay ACTIVE. -/
def State.turnedOff (s : State) (c : CellId) : State := if (s.portAt c).state = .off then s else s.cellOff c

theorem State.takeCellOff_of_off (takes : s.takesCells = true) (h : cell.toNat = c.val)
    (leaves : (s.portAt c).state ≠ .active ∨ s.cmd.controller = .loaded) :
    s.takeCellOff cell = ((s.turnedOff c).finish .ok 0).nightIfLoaded := by
  have dark (active : (s.portAt c).state = .active) : s.nightOn = false := by
    have loaded := leaves.resolve_left (not_not.2 active)
    simp [State.nightOn, loaded]
  simp only [State.takeCellOff, takes, cellArgument_of_eq h, State.turnedOff]
  cases hs : (s.portAt c).state with
  | active => simp [dark hs]
  | off => simp
  | quiet => simp
  | failed => simp
  | probing => simp

end

theorem RadioPort.leave_goOn (p : RadioPort) (st : CellState) : (p.leave st).goOn.state = st ∧
    (p.leave st).goOn.status = p.status ∧ (p.leave st).goOn.probe = none ∧ (p.leave st).goOn.fifo = [] ∧
    (p.leave st).goOn.holding = none ∧ (p.leave st).goOn.behind = [] ∧
    (p.state ∈ [.active, .probing] → (p.leave st).goOn.issued .rest .port) := by
  obtain ⟨holding, behind⟩ := (p.leave st).goOn_held (p.leave_held st)
  obtain ⟨e, d, o, b, k, n, frame⟩ := (p.leave st).goOn_frame
  refine ⟨by rw [frame, p.leave_eq], by rw [frame, p.leave_eq], by rw [frame, p.leave_eq], by rw [frame, p.leave_eq],
    by rw [holding, p.leave_eq], by rw [behind, p.leave_eq], fun used => (p.leave st).goOn_issued .rest .port (.inr ?_)⟩
  have inUse : p.state.inUse = true := by
    simp only [List.mem_cons, List.not_mem_nil, or_false] at used
    rcases used with h | h <;> rw [h] <;> rfl
  rw [p.leave_eq, inUse]
  exact List.mem_append_right _ (List.mem_singleton_self _)

/-- Settles O24, by the state of the cell. -/
theorem cellOff : Obligations.CellOff := by
  unfold Obligations.CellOff
  intro s cell hs allowed
  have takes := s.takesCells_iff.2 allowed
  obtain ⟨idle, waiting, settled⟩ := s.free_iff.1 hs
  obtain ⟨_, _, ports, bus⟩ := s.settled_iff.1 settled
  have step {u : State} (h : s.takeCellOff cell = u) : exec (.cellOff cell) s = .next u.conclude := by
    have written : exec (.cellOff cell) s = .next (s.queueCommand (.cellOff cell)).conclude := rfl
    rw [written, State.queueCommand_of_free hs, State.takeCommand, h]
  refine ⟨fun h => (step (State.takeCellOff_of_le takes h)).trans (congrArg _ (State.conclude_finish hs _ _)),
    fun c hc => ⟨fun active on => ?pending, fun leaves => ?goesOff⟩⟩
  case pending =>
    rw [step (State.takeCellOff_of_night on hc active),
      State.conclude_finish_of_ports (u := s.modSeq c fun q => { q with offPending := true }) waiting ports bus]
    rfl
  case goesOff =>
    let u := (s.turnedOff c).finish .ok 0
    have frame : ∃ p q, s.turnedOff c = { s with port := p, seq := q } := by
      unfold State.turnedOff
      split
      · exact ⟨s.port, s.seq, rfl⟩
      · exact s.cellOff_frame c
    obtain ⟨p, q, turned⟩ := frame
    have other (d : CellId) (hd : d ≠ c) : u.portAt d = s.portAt d ∧ u.seqAt d = s.seqAt d := by
      change (s.turnedOff c).portAt d = _ ∧ (s.turnedOff c).seqAt d = _
      unfold State.turnedOff
      split
      · exact ⟨rfl, rfl⟩
      · rw [s.cellOff_portAt, s.cellOff_seqAt, if_neg hd, if_neg hd]
        exact ⟨rfl, rfl⟩
    obtain ⟨n, b, p', concluded, loaded, kept, link, others⟩ := State.conclude_nightIfLoaded (u := u) (c := c)
      (by simp only [u, turned]; exact waiting) rfl (fun d hd => by rw [(other d hd).1]; exact ports d)
      (by simp only [u, turned]; exact bus)
    have unit : u.cmd = (s.finish .ok 0).cmd := by simp only [u, turned]; rfl
    have night : u.night = s.night ∧ u.bus = s.bus := by simp only [u, turned]; exact ⟨rfl, rfl⟩
    have controller : u.cmd.controller = s.cmd.controller := by rw [unit]; rfl
    have port (d : CellId) : u.nightIfLoaded.conclude.portAt d = cellAt p' d := by rw [concluded]; rfl
    have seq (d : CellId) : u.nightIfLoaded.conclude.seqAt d = u.seqAt d := by rw [concluded]; rfl
    have stays (off : (s.portAt c).state = .off) : u.nightIfLoaded.conclude.portAt c = s.portAt c ∧
        u.nightIfLoaded.conclude.seqAt c = s.seqAt c := by
      have same : u = s.finish .ok 0 := by simp only [u, State.turnedOff, if_pos off]
      rw [port, seq, link, same]
      exact ⟨RadioPort.goOn_settled _ (ports c), rfl⟩
    have leavesIt (off : (s.portAt c).state ≠ .off) : u.nightIfLoaded.conclude.portAt c = ((s.portAt c).leave .off).goOn ∧
        u.nightIfLoaded.conclude.seqAt c = { s.seqAt c with offPending := false } := by
      have same : u = (s.cellOff c).finish .ok 0 := by simp only [u, State.turnedOff, if_neg off]
      rw [port, seq, link, same]
      exact ⟨congrArg RadioPort.goOn ((s.cellOff_portAt c c).trans (if_pos rfl)), (s.cellOff_seqAt c c).trans (if_pos rfl)⟩
    obtain ⟨state, status, probe, fifo, holding, behind, rests⟩ := (s.portAt c).leave_goOn .off
    refine ⟨u.nightIfLoaded.conclude, step (State.takeCellOff_of_off takes hc leaves), ?_,
      fun d hd => ⟨?_, ?_⟩, ?_, ?_, stays, fun off => ?_, fun used => ?_, fun on => ?_, fun h => ?_⟩
    · rw [concluded, unit]
      simp only [u, turned]
      rfl
    · rw [port, others d hd, (other d hd).1]
    · rw [seq, (other d hd).2]
    · by_cases off : (s.portAt c).state = .off
      · rw [(stays off).1, off]
      · rw [(leavesIt off).1, state]
    · by_cases off : (s.portAt c).state = .off
      · rw [(stays off).1]
      · rw [(leavesIt off).1, status]
    · rw [(leavesIt off).1]
      exact ⟨probe, fifo, holding, behind, (leavesIt off).2⟩
    · have off : (s.portAt c).state ≠ .off := fun off => by simp [off] at used
      rw [(leavesIt off).1]
      exact rests used
    · obtain ⟨sameNight, sameBus⟩ := kept (by rw [controller]; exact State.nightOn_loaded on)
      rw [concluded]
      exact ⟨sameNight.trans night.1, sameBus.trans night.2⟩
    · exact (State.recordDue_congr night.1 rfl).1 (loaded (controller.trans h))

/-! ### ABORT of a LOAD and of a CELL_ON (R153, R180, R185) -/

section
variable {s : State}

theorem exec_abort_of_command {r : Running} (running : s.cmd.inProgress = some r) (notAbort : r.isAbort = false) :
    exec .abort s = .next s.takeAbort.conclude := by
  have step : exec .abort s = .next (s.writeCommand .abort).conclude := rfl
  have now : s.writeCommand .abort = s.takeAbort := if_neg (by simp [running, notAbort])
  rw [step, now]

theorem State.takeAbort_of_load {before : ControllerState} {phase : LoadPhase} (loading : s.cmd.controller = .loading)
    (running : s.cmd.inProgress = some (.load before phase)) : s.takeAbort = s.abortLoad before phase := by
  simp [State.takeAbort, loading, running]

theorem State.takeAbort_of_record {before : ControllerState} {phase : LoadPhase} (loaded : s.cmd.controller = .loaded)
    (running : s.cmd.inProgress = some (.load before phase)) : s.takeAbort = s.setRunning (.abort .aborted 0) := by
  simp [State.takeAbort, loaded, running]

theorem State.takeAbort_of_cellOn {c : CellId} (loaded : s.cmd.controller = .loaded)
    (running : s.cmd.inProgress = some (.cellOn c)) : s.takeAbort = s.abortCellOn c := by
  simp [State.takeAbort, loaded, running]

end

/-- What ABORT makes of a LOAD before its command is answered: its probes are undone, or its anchor read is withdrawn. -/
theorem State.abortLoad_eq (s : State) (before : ControllerState) (phase : LoadPhase) : ∃ u,
    s.abortLoad before phase = (u.setController before).finish .aborted 0 ∧
      ((∃ aside clamps saved, phase = .probing aside clamps saved ∧ ∃ p, u = s.setPort p ∧
          ∀ c, cellAt p c = (s.portAt c).restore (cellAt saved c)) ∨
        (∀ aside clamps saved, phase ≠ .probing aside clamps saved) ∧
          u = s.setBus ((s.bus.setWaiting .anchor none).orphan .anchor)) := by
  unfold State.abortLoad
  cases phase with
  | probing aside clamps saved =>
    obtain ⟨p, restored, at_⟩ := forCells_modPort (fun c q => q.restore (cellAt saved c)) (s.setController before)
    refine ⟨s.setPort p, ?_, .inl ⟨aside, clamps, saved, rfl, p, rfl, at_⟩⟩
    dsimp only
    rw [restored]
    rfl
  | reading address got saved => exact ⟨_, rfl, .inr ⟨nofun, rfl⟩⟩
  | read words saved => exact ⟨_, rfl, .inr ⟨nofun, rfl⟩⟩
  | recording clamps => exact ⟨_, rfl, .inr ⟨nofun, rfl⟩⟩

theorem State.nightIfLoaded_portAt (s : State) (c : CellId) : s.nightIfLoaded.portAt c = s.portAt c := by
  unfold State.nightIfLoaded
  split
  · obtain ⟨n, b, due⟩ := s.nightDue_frame false
    rw [due]
    rfl
  · rfl

theorem State.quietCheck_of_inactive {s : State} {c : CellId} (h : (s.portAt c).state ≠ .active) : s.quietCheck c = s :=
  if_neg fun ⟨active, _⟩ => h active

/-- A probe's command that was cut ends with its answer or timeout, and ABORT of its CELL_ON completes (R185). -/
theorem exec_cutCommandOver {s : State} {c : CellId} {k : LinkCommand} {second : Bool} {event : Instr}
    (running : s.cmd.inProgress = some (.abortProbe c)) (still : k.moves = false) (notRest : k ≠ .rest)
    (out : (s.portAt c).exchange = some (.command k .orphan second true)) (inactive : (s.portAt c).state ≠ .active)
    (h : (∃ answer, event = .linkAnswer c answer) ∨ ∃ seen, event = .linkTimeout c seen) : ∃ f : RadioPort → RadioPort,
      exec event s = .next (((s.modPort c f).finish .ok 0).nightIfLoaded).conclude ∧
        (f (s.portAt c)).state = (s.portAt c).state ∧ (f (s.portAt c)).runCount = (s.portAt c).runCount := by
  have completes (f : RadioPort → RadioPort) :
      (s.modPort c f).cutCommandOver c = ((s.modPort c f).finish .ok 0).nightIfLoaded := if_pos running
  have unanswered (seen : DataIn) : ∃ f : RadioPort → RadioPort,
      s.unanswered c k .orphan second true seen = ((s.modPort c f).finish .ok 0).nightIfLoaded ∧
        (f (s.portAt c)).state = (s.portAt c).state ∧ (f (s.portAt c)).runCount = (s.portAt c).runCount := by
    rw [State.unanswered, if_neg notRest, if_neg (by simp)]
    cases second with
    | false => exact ⟨_, completes fun p => { p with exchange := none }, rfl, rfl⟩
    | true =>
      have faulted (p : RadioPort) : p.faulted k = p := if_neg (by simp [still])
      refine ⟨fun p => { p.dropFaulted .orphan with exchange := none }, ?_, rfl, rfl⟩
      rw [if_pos rfl, State.linkFault]
      simp only [faulted, State.reportFault, completes]
      refine State.quietCheck_of_inactive ?_
      rw [State.nightIfLoaded_portAt]
      change (State.portAt (s.modPort c fun p => { p.dropFaulted .orphan with exchange := none }) c).state ≠ .active
      rw [State.modPort_portAt]
      exact inactive
  rcases h with ⟨answer, rfl⟩ | ⟨seen, rfl⟩
  · have step : exec (.linkAnswer c answer) s = .next (s.takeAnswer c answer).conclude := rfl
    rw [step, State.takeAnswer, out]
    dsimp only
    split
    · have heard (p : RadioPort) : p.heard k = p := if_neg (by simp [still])
      refine ⟨fun p => { p with exchange := none }, ?_, rfl, rfl⟩
      simp only [heard, State.answered, completes]
    · obtain ⟨f, ends, kept⟩ := unanswered .varied
      exact ⟨f, by rw [ends], kept⟩
  · obtain ⟨f, ends, kept⟩ := unanswered seen
    have step : exec (.linkTimeout c seen) s = .next (s.takeTimeout c seen).conclude := rfl
    rw [step, State.takeTimeout, out]
    exact ⟨f, congrArg (fun u : State => Host.Outcome.next u.conclude) ends, kept⟩

/-- A probe that is not LOAD's is cut short (R159, R185). -/
theorem RadioPort.cutProbe_goOn (p : RadioPort) {probe : Probe} (h : p.probe = some probe) (other : probe.reason ≠ .load) :
    (∀ before, probe.reason = .cellOn before → p.cutProbe.goOn.state = .off) ∧
      (∀ adopted, probe.reason = .restart adopted → p.cutProbe.goOn.state = .quiet ∧ p.cutProbe.goOn.countdown = 16) ∧
      p.cutProbe.goOn.status = p.status ∧ p.cutProbe.goOn.restartCount = p.restartCount ∧ p.cutProbe.goOn.probe = none := by
  obtain ⟨e, d, o, b, k, n, frame⟩ := p.cutProbe.goOn_frame
  rw [frame, RadioPort.cutProbe, h]
  cases hr : probe.reason with
  | load => exact absurd hr other
  | cellOn before => simp [hr, RadioPort.leave_eq]
  | restart adopted => simp [hr, RadioPort.leave_eq, Config.restartBeacons]

/-- Settles O18: a LOAD by its phase, the wait for LOAD's record, the end of the wait for a probe's command, and a CELL_ON by whether
one is out. -/
theorem abortOfLoadAndCellOn : Obligations.AbortOfLoadAndCellOn := by
  unfold Obligations.AbortOfLoadAndCellOn
  refine ⟨fun s before phase hs loading running => ?load, fun s before phase settled loaded running => ?record,
    fun s c k second event hs loaded running still notRest out inactive h => ?probeOver,
    fun s c probe hs loaded running probing other => ?cellOn⟩
  case load =>
    obtain ⟨waiting, settled⟩ := s.quiet_iff.1 hs
    obtain ⟨_, _, ports, bus⟩ := s.settled_iff.1 settled
    obtain ⟨u, aborted, cases⟩ := s.abortLoad_eq before phase
    have step := exec_abort_of_command running rfl
    rw [State.takeAbort_of_load loading running, aborted] at step
    obtain ⟨p, acts, links⟩ := State.conclude_acts (u := (u.setController before).finish .aborted 0)
      (.inl (by rcases cases with ⟨_, _, _, _, p, rfl, _⟩ | ⟨_, rfl⟩ <;> exact waiting))
      (by simp [State.drainDue, State.finish, State.setResult, State.raise])
    rcases cases with ⟨aside, clamps, saved, rfl, p', rfl, at_⟩ | ⟨notProbing, rfl⟩
    · rw [State.arbitrate_settled (((s.setPort p').setController before).finish .aborted 0) bus] at acts
      refine ⟨_, step, by rw [acts]; rfl, by rw [acts]; rfl, ?_, fun not => absurd rfl (not aside clamps saved)⟩
      rintro _ _ _ ⟨⟩ c
      rw [acts]
      have port : cellAt p c = ((s.portAt c).restore (cellAt saved c)).goOn := (links c).trans (congrArg _ (at_ c))
      change (cellAt p c).broughtBack _
      rw [port]
      exact (RadioPort.restore_goOn _ _).1
    · obtain ⟨b, chosen⟩ := (((s.setBus ((s.bus.setWaiting .anchor none).orphan .anchor)).setController before).finish
        .aborted 0).arbitrate_frame
      have asked := State.arbitrate_waitingOf (u := ((s.setBus ((s.bus.setWaiting .anchor none).orphan .anchor)).setController
        before).finish .aborted 0) (r := .anchor) rfl
      refine ⟨_, step, by rw [acts, chosen]; rfl, by rw [acts, chosen]; rfl,
        fun aside clamps saved h => absurd h (notProbing aside clamps saved), fun _ => ⟨?_, ?_⟩⟩
      · rw [acts]
        exact cell_ext fun c => (links c).trans (RadioPort.goOn_settled _ (ports c))
      · rw [acts]
        exact asked
  case record =>
    rw [exec_abort_of_command running rfl, State.takeAbort_of_record loaded running, State.conclude_settled]
    · rfl
    obtain ⟨_, _, ports, bus⟩ := s.settled_iff.1 settled
    exact (State.settled_iff _).2 ⟨.inl rfl, by simp [State.drainDue, State.setRunning], ports, bus⟩
  case probeOver =>
    obtain ⟨waiting, settled⟩ := s.quiet_iff.1 hs
    obtain ⟨_, _, ports, bus⟩ := s.settled_iff.1 settled
    obtain ⟨f, step, state, runCount⟩ := exec_cutCommandOver running still notRest out inactive h
    obtain ⟨n, b, p, frame, recorded, _, link, others⟩ := State.conclude_nightIfLoaded
      (u := (s.modPort c f).finish .ok 0) (c := c) waiting rfl
      (fun d hd => (congrArg RadioPort.settled (s.modPort_portAt_other c d f hd)).trans (ports d)) bus
    have own : cellAt p c = (f (s.portAt c)).goOn := link.trans (congrArg _ (s.modPort_portAt c f))
    obtain ⟨e, d, o, b', k', n', gone⟩ := (f (s.portAt c)).goOn_frame
    refine ⟨_, step, by rw [frame]; rfl, recorded loaded, fun d hd => ?_, ?_, ?_⟩
    · rw [frame]
      exact (others d hd).trans (s.modPort_portAt_other c d f hd)
    · rw [frame]
      exact (congrArg RadioPort.state own).trans (by rw [gone]; exact state)
    · rw [frame]
      exact (congrArg RadioPort.runCount own).trans (by rw [gone]; exact runCount)
  case cellOn =>
    obtain ⟨waiting, settled⟩ := s.quiet_iff.1 hs
    obtain ⟨_, _, ports, bus⟩ := s.settled_iff.1 settled
    have cut := (s.portAt c).cutProbe_goOn probing other
    obtain ⟨off, quiet, status, restartCount, none⟩ := cut
    have step := exec_abort_of_command running rfl
    rw [State.takeAbort_of_cellOn loaded running, State.abortCellOn] at step
    by_cases outing : (s.portAt c).probeCommandOut = true
    · rw [if_pos outing] at step
      let u := (s.modPort c RadioPort.cutProbe).setRunning (.abortProbe c)
      have links : u.conclude = u.kick c := u.conclude_link c (.inr rfl) (by simp [State.drainDue, u, State.setRunning])
        (fun d hd => (congrArg RadioPort.settled (s.modPort_portAt_other c d _ hd)).trans (ports d)) bus
      have own : u.conclude.portAt c = (s.portAt c).cutProbe.goOn := by
        rw [links, u.kick_portAt]
        exact congrArg _ (s.modPort_portAt c RadioPort.cutProbe)
      refine ⟨u.conclude, step, by rw [links]; rfl, by rw [own]; exact off, by rw [own]; exact quiet, by rw [own, status],
        by rw [own, restartCount], by rw [own, none], fun d hd => ?_, fun _ => ?_, fun h => by simp [outing] at h⟩
      · rw [links, u.kick_portAt_other c d hd]
        exact s.modPort_portAt_other c d _ hd
      · rw [links]
        exact ⟨rfl, rfl, rfl⟩
    · rw [if_neg outing] at step
      obtain ⟨n, b, p, frame, recorded, _, link, others⟩ := State.conclude_nightIfLoaded
        (u := (s.modPort c RadioPort.cutProbe).finish .ok 0) (c := c) waiting rfl
        (fun d hd => (congrArg RadioPort.settled (s.modPort_portAt_other c d _ hd)).trans (ports d)) bus
      have own : (((s.modPort c RadioPort.cutProbe).finish .ok 0).nightIfLoaded.conclude).portAt c =
          (s.portAt c).cutProbe.goOn := by
        rw [frame]
        exact link.trans (congrArg _ (s.modPort_portAt c RadioPort.cutProbe))
      refine ⟨_, step, by rw [frame]; rfl, by rw [own]; exact off, by rw [own]; exact quiet, by rw [own, status],
        by rw [own, restartCount], by rw [own, none], fun d hd => ?_, fun h => absurd h outing, fun _ => ⟨?_, ?_⟩⟩
      · rw [frame]
        exact (others d hd).trans (s.modPort_portAt_other c d _ hd)
      · rw [frame]; rfl
      · exact recorded loaded

end Sys2Proof.Machine
end

section
/-! PROOFS. Good replies to SHOW and POLL items, the next eligible beacon, what a flip does to its records, and the evaluation of an
entry (R15, R55, R58, R59, R135). -/

namespace Sys2Proof.Machine

/-! ### Replies to SHOW and POLL items (R58, R59) -/

section
variable {r : DueRecord} {y : Reply}

theorem displayEffect_of_rejected (hy : y.kind = .rejected) : displayEffect r y = r.ends .refused := if_pos hy

theorem displayEffect_of_shown (hy : y.kind ≠ .rejected) (hs : y.shown = r.target) : displayEffect r y = r.ends .shown := by
  rw [displayEffect, if_neg hy, if_pos hs]

theorem displayEffect_of_other (hy : y.kind ≠ .rejected) (hs : y.shown ≠ r.target) :
    displayEffect r y = { record := if y.staged = r.target then r else r.toDeliver .display, attempt := true } := by
  rw [displayEffect, if_neg hy, if_neg hs]
  split <;> rfl

theorem pollEffect_of_rejected (policy : LatePolicy) (done : Bool) (hy : y.kind = .rejected) :
    pollEffect policy done r y = r.ends .refused := if_pos hy

theorem pollEffect_of_shown (policy : LatePolicy) (done : Bool) (hy : y.kind ≠ .rejected) (hs : y.shown = r.target) :
    pollEffect policy done r y = r.ends .shown := by
  rw [pollEffect, if_neg hy, if_pos hs]

theorem pollEffect_of_late (hy : y.kind ≠ .rejected) (hs : y.shown ≠ r.target) :
    pollEffect .holdOld true r y = r.ends .late := by
  rw [pollEffect, if_neg hy, if_neg hs, if_pos rfl, if_pos rfl]

theorem pollEffect_of_arrival (hy : y.kind ≠ .rejected) (hs : y.shown ≠ r.target) :
    pollEffect .showOnArrival true r y =
      { record := if y.staged = r.target then r.toDisplay else r.toDeliver .display, attempt := false } := by
  rw [pollEffect, if_neg hy, if_neg hs, if_pos rfl, if_neg nofun]
  split <;> rfl

theorem pollEffect_of_ungrouped (policy : LatePolicy) (hy : y.kind ≠ .rejected) (hs : y.shown ≠ r.target)
    (hg : r.group = 0) : pollEffect policy false r y = { record := r.toDeliver .display, attempt := false } := by
  rw [pollEffect, if_neg hy, if_neg hs, if_neg Bool.false_ne_true, if_pos hg]

theorem pollEffect_of_grouped (policy : LatePolicy) (hy : y.kind ≠ .rejected) (hs : y.shown ≠ r.target)
    (hg : r.group ≠ 0) : pollEffect policy false r y =
      if y.staged = r.target then r.ends .staged else { record := r.toDeliver .stage, attempt := false } := by
  rw [pollEffect, if_neg hy, if_neg hs, if_neg Bool.false_ne_true, if_neg hg]

theorem resultEffect_good_of_display (t : Settings) (done : Bool) (hk : r.kind = .display) :
    resultEffect t done r (.good y) = displayEffect r y := by
  simp [resultEffect, hk]

theorem resultEffect_good_of_poll (t : Settings) (done : Bool) (hk : r.kind = .poll) :
    resultEffect t done r (.good y) = pollEffect t.policy done r y := by
  simp [resultEffect, hk]

end

/-- Settles O41, by the kind of the item and then by the reply's first test that applies. -/
theorem displayAndPollReplies : Obligations.DisplayAndPollReplies := by
  unfold Obligations.DisplayAndPollReplies
  intro t done r y e again
  have ends {o : EntryState} (hd : displayEffect r y = r.ends o) (hp : pollEffect t.policy done r y = r.ends o)
      (other : r.kind ≠ .deliver) : e = r.ends o := by
    cases hk : r.kind with
    | deliver => exact absurd hk other
    | display => exact (resultEffect_good_of_display t done hk).trans hd
    | poll => exact (resultEffect_good_of_poll t done hk).trans hp
  refine ⟨?health, fun other rejected => ?rejected, fun other taken shown => ?shown, fun displays taken other => ?showItem,
    fun polls taken other => ?pollItem⟩
  case health =>
    rw [Effect.charge_health, (resultEffect_actsOn t done r (.good y)).health_eq, healthAfter]
  case rejected =>
    rw [ends (displayEffect_of_rejected rejected) (pollEffect_of_rejected _ _ rejected) other]
    exact ⟨rfl, rfl⟩
  case shown =>
    rw [ends (displayEffect_of_shown taken shown) (pollEffect_of_shown _ _ taken shown) other]
    exact ⟨rfl, rfl⟩
  case showItem =>
    have effect : e = displayEffect r y := resultEffect_good_of_display t done displays
    rw [effect, displayEffect_of_other taken other]
    exact ⟨rfl, rfl⟩
  case pollItem =>
    simp only [e, resultEffect_good_of_poll t done polls]
    refine ⟨?attempt, ?late, ?arrival, ?ungrouped, ?grouped⟩
    case attempt =>
      unfold pollEffect
      rw [if_neg taken, if_neg other]
      split_ifs <;> rfl
    case late =>
      rintro rfl hold
      rw [hold, pollEffect_of_late taken other]
      rfl
    case arrival =>
      rintro rfl arrive
      rw [arrive, pollEffect_of_arrival taken other]
      rfl
    case ungrouped =>
      rintro rfl hg
      rw [pollEffect_of_ungrouped t.policy taken other hg]
      rfl
    case grouped =>
      rintro rfl hg
      rw [pollEffect_of_grouped t.policy taken other hg]
      split <;> rfl

/-! ### The next eligible beacon (R55) -/

theorem Effect.actsOn.wake_eq {e : Effect} {r : DueRecord} (h : e.actsOn r) : e.record.k = r.k ∧ e.record.phase = r.phase := by
  rw [h.1]
  exact ⟨rfl, rfl⟩

theorem DueRecord.hear_wake (t : Settings) (b : BeaconNo) (r : DueRecord) (res : ItemResult) :
    (r.hear t b res).k = r.k ∧ (r.hear t b res).phase = r.phase := by
  cases res <;> exact ⟨rfl, rfl⟩

theorem DueRecord.threshold_wake (t : Settings) (res : ItemResult) (r : DueRecord) :
    (r.threshold t res).k = r.k ∧ (r.threshold t res).phase = r.phase := by
  unfold DueRecord.threshold
  split_ifs <;> exact ⟨rfl, rfl⟩

theorem DueRecord.applyLate_wake (policy : LatePolicy) (r : DueRecord) :
    (r.applyLate policy).k = r.k ∧ (r.applyLate policy).phase = r.phase := by
  rcases r.applyLate_cases policy with e | e | e | e | e <;> rw [e] <;> exact ⟨rfl, rfl⟩

/-- No step of R52 moves a label's wake. -/
theorem DueRecord.judged_wake (t : Settings) (done : Bool) (b : BeaconNo) (r : DueRecord) (res : ItemResult) :
    (r.judged t done b res).k = r.k ∧ (r.judged t done b res).phase = r.phase := by
  obtain ⟨k₁, p₁⟩ := r.hear_wake t b res
  obtain ⟨k₂, p₂⟩ := (resultEffect_actsOn t done (r.hear t b res) res).wake_eq
  obtain ⟨k₄, p₄⟩ := ((resultEffect t done (r.hear t b res) res).charge t res).threshold_wake t res
  obtain ⟨k₅, p₅⟩ := (((resultEffect t done (r.hear t b res) res).charge t res).threshold t res).applyLate_wake t.policy
  exact ⟨k₅.trans (k₄.trans (k₂.trans k₁)), p₅.trans (p₄.trans (p₂.trans p₁))⟩

/-- A multiple of 2^k beacons later the label wakes again. -/
theorem wake_again (b : BeaconNo) (k : BitVec 3) (n : Nat) :
    (b + BitVec.ofNat 32 (2 ^ k.toNat * n)).toNat % 2 ^ k.toNat = b.toNat % 2 ^ k.toNat := by
  have divides : 2 ^ k.toNat ∣ 2 ^ 32 := pow_dvd_pow 2 (by have := k.isLt; omega)
  rw [BitVec.toNat_add, BitVec.toNat_ofNat, Nat.add_mod_mod, Nat.mod_mod_of_dvd _ divides, Nat.add_mul_mod_self_left]

theorem eligibleAfter_silent (b : BeaconNo) (k : BitVec 3) (attempts : Nat) {res : ItemResult}
    (h : res = .noReply ∨ res = .damaged) :
    eligibleAfter b k attempts res = b + BitVec.ofNat 32 (2 ^ k.toNat * min attempts 4) := by
  rcases h with rfl | rfl <;> rfl

theorem eligibleAfter_other (b : BeaconNo) (k : BitVec 3) (attempts : Nat) {res : ItemResult} (noReply : res ≠ .noReply)
    (damaged : res ≠ .damaged) : eligibleAfter b k attempts res = b + BitVec.ofNat 32 (2 ^ k.toNat) := by
  cases res with
  | noReply => exact absurd rfl noReply
  | damaged => exact absurd rfl damaged
  | good y => rfl
  | lostAtPort => rfl
  | notSent => rfl

/-- Settles O42: steps 1 to 5 leave the wake, and step 6 adds wakes to the beacon. -/
theorem nextEligible : Obligations.NextEligible := by
  unfold Obligations.NextEligible
  intro t done b r res after
  refine ⟨fun works => ?works, fun b' eligible => ?planner⟩
  case planner =>
    have : r.isWaiting = true ∧ b'.toNat % 2 ^ r.k.toNat = r.phase.toNat ∧ atOrAfter b' r.eligible = true := by
      simpa [DueRecord.eligibleAt, and_assoc] using eligible
    obtain ⟨_, _, later⟩ := this
    exact (atOrAfter_iff _ _).1 later
  case works =>
    obtain ⟨k, phase⟩ := r.judged_wake t done b res
    have judged : (r.judged t done b res).outcome = none := by rw [← r.afterResult_outcome]; exact works
    have moved : after = { r.judged t done b res with
        eligible := eligibleAfter b r.k (r.judged t done b res).attempts res } := by
      rw [← k]
      simp only [after]
      rw [r.afterResult_eq_judged, if_pos (by simp [judged])]
    rw [moved]
    refine ⟨fun silent => eligibleAfter_silent b r.k _ silent, fun noReply damaged => eligibleAfter_other b r.k _ noReply damaged,
      fun wake => ?_, k, phase⟩
    have wakes (n : Nat) : (b + BitVec.ofNat 32 (2 ^ r.k.toNat * n)).toNat % 2 ^ r.k.toNat = r.phase.toNat :=
      (wake_again b r.k n).trans wake
    have next := wakes 1
    rw [Nat.mul_one] at next
    cases res with
    | noReply => exact wakes _
    | damaged => exact wakes _
    | good y => exact next
    | lostAtPort => exact next
    | notSent => exact next

/-! ### What a flip does to its group's records (R135) -/

/-- A step that retires records while STOP drains counts them (R65). -/
theorem State.retireWhere_drained_eq (s : State) (p : DueRecord → Bool) (o : EntryState) :
    (s.retireWhere p o).drained = s.drained + if s.stopping then (s.inListOrder p).length else 0 := by
  cases h : s.stopping with
  | false => rw [s.retireWhere_drained p o h]; rfl
  | true =>
    have h' : decide (s.cmd.controller = .stopping) = true := h
    unfold State.retireWhere
    simp only [forCells_eq, State.retireIn_eq, State.stopping, h', if_true, State.inListOrder]
    simp [State.dueAt, allCells, Nat.add_assoc]

/-- The flip's marks on the records of the four lists. -/
theorem State.flipMarks_eq (s : State) (g : BitVec 4) : ∃ d,
    forCells (fun u c => u.modDue c (List.map (DueRecord.meetsFlip u.settings.policy g))) s = s.setDue d ∧
      ∀ c, cellAt d c = (s.dueAt c).map (DueRecord.meetsFlip s.settings.policy g) := by
  rw [forCells_eq]
  refine ⟨((((s.modDue 0 (List.map (DueRecord.meetsFlip s.settings.policy g))).modDue 1
    (List.map (DueRecord.meetsFlip s.settings.policy g))).modDue 2 (List.map (DueRecord.meetsFlip s.settings.policy g))).modDue 3
      (List.map (DueRecord.meetsFlip s.settings.policy g))).due, rfl, fun c => ?_⟩
  change State.dueAt _ c = _
  have put (u : State) (d : CellId) (f : List DueRecord → List DueRecord) :
      (u.modDue d f).dueAt c = if c = d then f (u.dueAt d) else u.dueAt c := cellAt_cellPut u.due d c _
  simp only [put]
  rcases CellId.cases c with rfl | rfl | rfl | rfl <;> simp

section
variable (policy : LatePolicy) (g : BitVec 4) (r : DueRecord)

theorem DueRecord.stagesFor_eq : r.stagesFor g =
    (decide (r.state = .waiting) && decide (r.group = g) && decide (r.kind = .deliver) && decide (r.mode = .stage)) := rfl

/-- The marks leave the index, and under HOLD_OLD they leave every record that stages. -/
theorem DueRecord.meetsFlip_index : (r.meetsFlip policy g).index = r.index := by
  unfold DueRecord.meetsFlip
  split
  · rfl
  · split
    · rfl
    · rfl
    · split <;> rfl
    · rfl

theorem DueRecord.meetsFlip_stagesFor : (r.meetsFlip .holdOld g).stagesFor g = r.stagesFor g := by
  unfold DueRecord.meetsFlip
  split
  · rfl
  · split
    · next h => simp [DueRecord.stagesFor, DueRecord.isWaiting, h]
    · next h => simp [DueRecord.stagesFor, DueRecord.isWaiting, h]
    · rfl
    · rfl

end

/-- The marks of a flip, by the group and the state of the record. -/
theorem DueRecord.meetsFlip_eq (policy : LatePolicy) (g : BitVec 4) (r : DueRecord) :
    r.meetsFlip policy g =
      if r.group ≠ g then r
      else if r.state = .planned ∨ r.state = .inAir then { r with lateAtFlip := true }
      else if r.stagesFor g then (if policy = .holdOld then r else { r with mode := .display })
      else r := by
  unfold DueRecord.meetsFlip
  split
  · rfl
  · cases hs : r.state with
    | planned => simp
    | inAir => simp
    | waiting =>
      cases policy <;> simp
    | retiring => simp [DueRecord.stagesFor, DueRecord.isWaiting, hs]

/-- Settles O27: the marks record by record, and under HOLD_OLD the retirement of those that stage. -/
theorem flipChangesRecords : Obligations.FlipChangesRecords := by
  unfold Obligations.FlipChangesRecords
  intro s g stages t
  obtain ⟨d, marks, at_⟩ := s.flipMarks_eq g
  have isStages (r : DueRecord) : stages r = r.stagesFor g := rfl
  cases policy : s.settings.policy with
  | showOnArrival =>
    have flipped : t = s.setDue d := by
      simp only [t, State.flipRecords, marks, policy]
      rfl
    rw [flipped]
    refine ⟨fun c => (at_ c).trans (List.map_congr_left fun r _ => ?_), rfl, by simp, by simp, rfl⟩
    rw [policy, DueRecord.meetsFlip_eq]
    simp only [isStages]
    rfl
  | holdOld =>
    have flipped : t = (s.setDue d).retireWhere (DueRecord.stagesFor g) .late := by
      simp only [t, State.flipRecords, marks, policy]
      rfl
    obtain ⟨due, wb⟩ := (s.setDue d).retireWhere_retires (DueRecord.stagesFor g) .late
    have drained := (s.setDue d).retireWhere_drained_eq (DueRecord.stagesFor g) .late
    have order : (s.setDue d).inListOrder (DueRecord.stagesFor g) = s.inListOrder stages := by
      unfold State.inListOrder
      refine congrArg (allCells.flatMap ·) (funext fun c => ?_)
      change ((cellAt d c).filter _).map _ = _
      rw [at_ c, policy, List.filter_map, List.map_map]
      have same : DueRecord.stagesFor g ∘ DueRecord.meetsFlip .holdOld g = stages :=
        funext fun r => (r.meetsFlip_stagesFor g).trans (isStages r).symm
      have index : DueRecord.index ∘ DueRecord.meetsFlip .holdOld g = DueRecord.index :=
        funext fun r => r.meetsFlip_index .holdOld g
      rw [same]
      exact congrArg (fun f => List.map f _) index
    rw [flipped]
    refine ⟨fun c => ?_, by rw [wb]; rfl, by rw [wb, order]; rfl, ?_, ?_⟩
    · rw [due c]
      change (cellAt d c).map _ = _
      rw [at_ c, List.map_map, policy]
      refine List.map_congr_left fun r _ => ?_
      simp only [Function.comp, DueRecord.meetsFlip_stagesFor, isStages, if_true]
      rw [DueRecord.meetsFlip_eq, if_pos rfl]
      by_cases group : r.group = g
      · by_cases planned : r.state = .planned ∨ r.state = .inAir
        · have not : r.stagesFor g = false := by
            rcases planned with h | h <;> simp [DueRecord.stagesFor, DueRecord.isWaiting, h]
          simp [group, planned, not]
        · subst group
          simp only [planned, ne_eq, not_true_eq_false, if_false, ite_self]
          rfl
      · have not : r.stagesFor g = false := by simp [DueRecord.stagesFor, group]
        simp [group, not]
    · rw [drained, order]
      cases h : s.stopping <;> simp [State.stopping] at h ⊢ <;> simp [h]
    · obtain ⟨d', w, n, frame⟩ := (s.setDue d).retireWhere_frame (DueRecord.stagesFor g) .late
      rw [frame]
      rfl

/-! ### The evaluation of an entry (R9, R15) -/

theorem entryValid_iff (t : Settings) (h : HostHalf) : entryValid t h = true ↔
    h.label ≠ 0 ∧ h.phase.toNat < 2 ^ h.k.toNat ∧ h.k.toNat ≤ (cellAt t.cells h.cell).ceiling.toNat ∧
    h.length ≠ 0 ∧ h.length.toNat ≤ 1536 ∧ h.reference.toNat % 4 = 0 ∧ t.poolBase.toNat ≤ h.reference.toNat ∧
    h.reference.toNat + 16 + h.length.toNat ≤ t.poolBase.toNat + t.poolSize.toNat := by
  have positive : 1 ≤ h.length.toNat ↔ h.length ≠ 0 :=
    Nat.one_le_iff_ne_zero.trans (not_congr (BitVec.toNat_inj (y := 0)))
  simp only [entryValid, Bool.and_eq_true, decide_eq_true_eq, and_assoc, positive]

theorem EntryState.terminal_iff (s : EntryState) :
    s.terminal = true ↔ s ∈ [EntryState.unreachable, .gaveUp, .contentBad, .refused, .late] := by
  cases s <;> decide

theorem keepTerminal_of {e : Entry} (terminal : e.part.state.terminal = true) (same : e.host.requested = e.part.outcome) :
    keepTerminal e = some e.part.state := by
  simp [keepTerminal, terminal, same]

theorem keepTerminal_of_not {e : Entry} (h : ¬(e.part.state.terminal = true ∧ e.host.requested = e.part.outcome)) :
    keepTerminal e = none :=
  if_neg (by simpa using h)

section
variable {t : Settings} {i : EvalInput}

theorem evaluate_of_invalid (h : entryValid t i.host = false) : evaluate t i = .state .entryBad := by
  simp [evaluate, h]

theorem evaluate_of_hold (valid : entryValid t i.host = true) (hold : i.host.hold = true) :
    evaluate t i = .state .held := by
  simp [evaluate, valid, hold]

theorem evaluate_of_kept {kept : EntryState} (valid : entryValid t i.host = true) (hold : i.host.hold = false)
    (h : i.keep = some kept) : evaluate t i = .state kept := by
  simp [evaluate, valid, hold, h]

/-- Steps 4 to 8 of R15. -/
theorem evaluate_of_free (valid : entryValid t i.host = true) (hold : i.host.hold = false) (h : i.keep = none) :
    evaluate t i =
      if i.host.requested = 0 then .state .idle
      else if i.host.requested = i.shown then .state .shown
      else if i.host.requested = i.staged ∧ i.host.group ≠ 0 ∧ i.state ≠ .unsure then
        if !i.done then .state .staged
        else if t.policy = .holdOld then .state .late
        else .item .display .display
      else if i.state = .unsure then .item .poll .display
      else if i.host.group ≠ 0 ∧ i.done ∧ t.policy = .holdOld then .state .late
      else if i.host.group ≠ 0 ∧ !i.done then .item .deliver .stage
      else .item .deliver .display := by
  simp only [evaluate, valid, hold, h, Bool.not_true, Bool.false_eq_true, if_false]

end

/-- Settles O44: the checks, then each step of R15 where the ones before it do not apply. -/
theorem evaluationSteps : Obligations.EvaluationSteps := by
  unfold Obligations.EvaluationSteps
  intro t done e h p verdict grouped terminal staged
  refine ⟨entryValid_iff t h, evaluate_of_invalid (i := plainInput done e), evaluate_of_hold (i := plainInput done e), fun valid hold isTerminal same => ⟨?kept, ?unchanged⟩,
    fun valid hold moves => ?_⟩
  case kept => exact evaluate_of_kept (i := plainInput done e) valid hold (keepTerminal_of ((EntryState.terminal_iff _).2 isTerminal) same)
  case unchanged =>
    change { p with state := p.state, outcome := h.requested } = p
    rw [same]
  have free : keepTerminal e = none :=
    keepTerminal_of_not fun ⟨isTerminal, same⟩ => moves ⟨(EntryState.terminal_iff _).1 isTerminal, same⟩
  have steps : verdict = evaluate t (plainInput done e) := rfl
  rw [steps, evaluate_of_free (i := plainInput done e) valid hold free]
  refine ⟨fun zero => if_pos zero, fun nonzero shown => (if_neg nonzero).trans (if_pos shown),
    fun nonzero new isStaged => ?staged, fun nonzero new notStaged => ?sent⟩
  case staged =>
    have here : evaluate t (plainInput done e) = if !done then .state .staged
        else if t.policy = .holdOld then .state .late else .item .display .display := by
      rw [evaluate_of_free (i := plainInput done e) valid hold free]
      exact (if_neg nonzero).trans ((if_neg new).trans (if_pos isStaged))
    rw [← evaluate_of_free (i := plainInput done e) valid hold free, here]
    exact ⟨fun h => by rw [h]; rfl, fun h hold => by rw [h, hold]; rfl, fun h arrive => by rw [h, arrive]; rfl⟩
  case sent =>
    refine ⟨fun unsure => ?_, fun sure isGrouped isDone held => ?_, fun sure other => ?_⟩
    all_goals refine (if_neg nonzero).trans ((if_neg new).trans ((if_neg notStaged).trans ?_))
    · exact if_pos unsure
    · exact (if_neg sure).trans (if_pos ⟨isGrouped, isDone, held⟩)
    · refine (if_neg sure).trans ((if_neg other).trans ?_)
      by_cases stages : grouped ∧ done = false
      · rw [if_pos stages]
        exact if_pos ⟨stages.1, by rw [show (plainInput done e).done = false from stages.2]; rfl⟩
      · rw [if_neg stages]
        exact if_neg fun ⟨isGrouped, open_⟩ => stages ⟨isGrouped, by simpa [plainInput] using open_⟩

end Sys2Proof.Machine
end

section
/-! PROOFS. The entry reader: taking an entry, finishing it, and what follows a pass (R26 to R37). -/

namespace Sys2Proof.Machine

/-! ### Steps that leave the links, the memory port and the commands alone -/

/-- Between s and u the command in progress, the waiting one, the links and the memory port have stayed. -/
structure State.Stays (s u : State) : Prop where
  inProgress : u.cmd.inProgress = s.cmd.inProgress
  waiting : u.cmd.waiting = s.cmd.waiting
  port : u.port = s.port
  bus : u.bus = s.bus

section
variable {s u : State}

theorem State.Stays.command (h : s.Stays u) (settled : s.settled = true) :
    u.cmd.waiting = none ∨ u.cmd.inProgress.isSome = true := by
  obtain ⟨commands, _⟩ := s.settled_iff.1 settled
  rw [h.waiting, h.inProgress]
  exact commands.symm

theorem State.Stays.ports (h : s.Stays u) (settled : s.settled = true) (c : CellId) : (u.portAt c).settled = true := by
  obtain ⟨_, _, ports, _⟩ := s.settled_iff.1 settled
  rw [State.portAt, h.port]
  exact ports c

theorem State.Stays.busSettled (h : s.Stays u) (settled : s.settled = true) : u.bus.settled = true := by
  obtain ⟨_, _, _, bus⟩ := s.settled_iff.1 settled
  rw [h.bus]
  exact bus

/-- The end of such a step is the end of a drain, when one is over. -/
theorem State.Stays.conclude_drains (h : s.Stays u) (settled : s.settled = true) : u.drainedInto u.conclude :=
  State.conclude_drains (h.command settled) (h.ports settled) (h.busSettled settled)

/-- With no drain over, such a step answers what it has made. -/
theorem State.Stays.conclude_eq (h : s.Stays u) (settled : s.settled = true) (drain : u.drainDue = false) : u.conclude = u :=
  State.conclude_settled u (u.settled_iff.2 ⟨(h.command settled).symm, drain, h.ports settled, h.busSettled settled⟩)

/-- A transfer offered by such a step with no drain over is asked for, and nothing else changes. -/
theorem State.Stays.conclude_offer (h : s.Stays u) (settled : s.settled = true) (drain : u.drainDue = false) (r : Requester)
    (a : Action) :
    (u.offer r a).conclude = { u with bus := (u.offer r a).conclude.bus } ∧ (u.offer r a).conclude.bus.asked r a :=
  State.conclude_offer (h.command settled) drain (h.ports settled) (h.busSettled settled) r a

end

theorem State.drainDue_of_hand {u : State} {h : InHand} (hand : u.sweep.hand = some h) : u.drainDue = false := by
  rw [← Bool.not_eq_true, State.drainDue_iff]
  rintro ⟨_, _, _, _, none⟩
  simp [hand] at none

/-! ### Taking an entry (R26, R27, R35) -/

/-- A visit begins: the entry is in hand and its read is asked for. -/
theorem State.Stays.conclude_visit {s u : State} (h : s.Stays u) (settled : s.settled = true) (index : Nat) (source : HandSource)
    (visit : Visit) :
    let t := (u.beginVisit index source visit).conclude
    t = { u with sweep := { u.sweep with hand := t.sweep.hand }, bus := t.bus } ∧
      t.sweep.hand = some { index := index, source := source, visit := visit, groups := [], phase := .reading } ∧
      t.bus.asked .entry (.read (u.settings.directoryBase.toNat + 32 * index) 8) := by
  intro t
  have stays : s.Stays (u.setSweep { u.sweep with
      hand := some { index := index, source := source, visit := visit, groups := [], phase := .reading } }) :=
    ⟨h.inProgress, h.waiting, h.port, h.bus⟩
  obtain ⟨frame, asked⟩ := stays.conclude_offer settled (State.drainDue_of_hand rfl) .entry
    (.read (entryAddress u.settings index) 8)
  have done : t = _ := frame
  refine ⟨?_, ?_, asked⟩
  · rw [done]; rfl
  · rw [done]; rfl

section
variable {s : State}

theorem State.takeEntry_of_reread {i : Nat} {rest : List Nat} (hand : s.sweep.hand = none)
    (reread : s.sweep.reread = i :: rest) : s.takeEntry = s.takeReread i rest := by
  simp only [State.takeEntry, hand, reread]

theorem State.takeEntry_of_notice {n : Notice} {rest : List Notice} (hand : s.sweep.hand = none)
    (reread : s.sweep.reread = []) (notices : s.notices = n :: rest) : s.takeEntry = s.takeNoticeEntry n := by
  simp only [State.takeEntry, hand, reread, notices]

theorem State.takeEntry_of_pass {p : Pass} (hand : s.sweep.hand = none) (reread : s.sweep.reread = [])
    (notices : s.notices = []) (running : s.sweep.running = some p) :
    s.takeEntry = s.beginVisit p.cursor (.pass p.kind) p.kind.visit := by
  simp only [State.takeEntry, hand, reread, notices, running]

theorem State.takeEntry_of_none (hand : s.sweep.hand = none) (reread : s.sweep.reread = []) (notices : s.notices = [])
    (running : s.sweep.running = none) : s.takeEntry = s := by
  simp only [State.takeEntry, hand, reread, notices, running]

theorem State.Stays.refl (s : State) : s.Stays s := ⟨rfl, rfl, rfl, rfl⟩

end

/-- Settles O45, source by source in their order. -/
theorem entryReaderTakes : Obligations.EntryReaderTakes := by
  unfold Obligations.EntryReaderTakes
  intro s settled hand takes
  obtain ⟨_, drain, _, _⟩ := s.settled_iff.1 settled
  have step {u : State} (h : s.takeEntry = u) : exec .entryReaderTake s = .next u.conclude := by
    have event : exec .entryReaderTake s = .next s.takeEntry.conclude := rfl
    rw [event, h]
  refine ⟨fun i rest reread => ⟨fun ahead => ?passedBy, fun due => ?reread⟩,
    fun n rest reread notices => ⟨fun ahead => ?unread, fun due => ?notice⟩, fun p reread notices running => ?pass,
    fun reread notices running => ?none⟩
  case passedBy =>
    have stays : s.Stays (s.setSweep { s.sweep with reread := rest }) := ⟨rfl, rfl, rfl, rfl⟩
    rw [step ((State.takeEntry_of_reread hand reread).trans (if_pos ahead)), stays.conclude_eq settled drain]
    rfl
  case reread =>
    have stays : s.Stays (s.setSweep { s.sweep with reread := rest }) := ⟨rfl, rfl, rfl, rfl⟩
    obtain ⟨frame, inHand, asked⟩ := stays.conclude_visit settled i .reread .plain
    exact ⟨_, step ((State.takeEntry_of_reread hand reread).trans (if_neg (by simp [due]))), frame, inHand, asked⟩
  case unread =>
    have stays : s.Stays (s.setNotices (advanceNotice s.notices)) := ⟨rfl, rfl, rfl, rfl⟩
    rw [step ((State.takeEntry_of_notice hand reread notices).trans (if_pos ahead)), stays.conclude_eq settled drain, notices]
    rfl
  case notice =>
    obtain ⟨frame, inHand, asked⟩ := (State.Stays.refl s).conclude_visit settled n.progress .notice .plain
    exact ⟨_, step ((State.takeEntry_of_notice hand reread notices).trans (if_neg (by simp [due]))), frame, inHand, asked⟩
  case pass =>
    obtain ⟨frame, inHand, asked⟩ := (State.Stays.refl s).conclude_visit settled p.cursor (.pass p.kind) p.kind.visit
    exact ⟨_, step (State.takeEntry_of_pass hand reread notices running), frame, inHand, asked⟩
  case none => rw [step (State.takeEntry_of_none hand reread notices running), State.conclude_settled s settled]

/-! ### The end of a pass (R29, R32, R33) -/

theorem State.hasRefillCause_iff (s : State) : s.hasRefillCause ↔ allCells.any s.wantsRefill = true := by
  simp only [State.hasRefillCause, List.any_eq_true, State.wantsRefill, Bool.and_eq_true, decide_eq_true_eq]
  exact ⟨fun ⟨c, h⟩ => ⟨c, mem_allCells c, h⟩, fun ⟨c, _, h⟩ => ⟨c, h⟩⟩

theorem State.refillCheck_checked (u : State) : u.refillCheckedInto u.refillCheck := by
  unfold State.refillCheckedInto State.refillCheck State.refillRequest
  rw [State.hasRefillCause_iff]
  refine ⟨fun ⟨on, idle, cause⟩ => ?_, fun not => ?_⟩
  · rw [if_pos cause, if_pos (by simp [on, idle])]
    rfl
  · by_cases cause : allCells.any u.wantsRefill = true
    · rw [if_pos cause, if_neg]
      intro begins
      simp only [Bool.and_eq_true, Bool.not_eq_true'] at begins
      exact not ⟨begins.1, begins.2, cause⟩
    · rw [if_neg cause]

section
variable {s : State} {k : PassKind}

theorem Pass.advanceIf_eq (n : Nat) (k : PassKind) (p : Pass) :
    p.advanceIf n k = if p.kind = k then
      { p with cursor := if p.cursor + 1 < n then p.cursor + 1 else 0, remaining := p.remaining - 1 } else p := rfl

/-- A pass is exhausted once its visit was the last that remained. -/
theorem exhausted_iff (w : Sweep) (n : Nat) (k : PassKind) :
    ({ w with running := w.running.map (Pass.advanceIf n k),
              suspended := w.suspended.map (Pass.advanceIf n k) } : Sweep).exhausted k = true ↔
      ∃ p, (w.running = some p ∨ w.suspended = some p) ∧ p.kind = k ∧ p.remaining ≤ 1 := by
  have spent (p : Pass) : (decide ((p.advanceIf n k).kind = k) && decide ((p.advanceIf n k).remaining = 0)) = true ↔
      p.kind = k ∧ p.remaining ≤ 1 := by
    rw [Pass.advanceIf_eq]
    split
    · next h => simp [h, Nat.sub_eq_zero_iff_le]
    · next h => simp [h]
  simp only [Sweep.exhausted, Bool.or_eq_true, Option.any_map, Option.any_eq_true, spent]
  constructor
  · rintro (⟨p, running, h⟩ | ⟨p, suspended, h⟩)
    · exact ⟨p, .inl running, h⟩
    · exact ⟨p, .inr suspended, h⟩
  · rintro ⟨p, running | suspended, h⟩
    · exact .inl ⟨p, running, h⟩
    · exact .inr ⟨p, suspended, h⟩

end

/-- Settles O46: the source moves on, and a pass whose visit was its last is complete. -/
theorem entryFinished : Obligations.EntryFinished := by
  unfold Obligations.EntryFinished
  intro s h hand
  refine ⟨fun source => ?freed, fun n rest source notices => ?notice, fun k source => ?pass⟩
  case freed =>
    unfold State.finishHand
    rw [hand]
    rcases source with e | e <;> simp only [e] <;> rfl
  case notice =>
    unfold State.finishHand
    rw [hand]
    simp only [source, notices]
    rfl
  case pass =>
    intro moved running suspended last left done
    have advances : s.finishHand = (s.setSweep { s.sweep with hand := none }).advancePass k := by
      unfold State.finishHand
      rw [hand]
      simp only [source]
    have exhausted := exhausted_iff { s.sweep with hand := none } s.settings.entryCount k
    have isMoved : moved = Pass.advanceIf s.settings.entryCount k := rfl
    have ends (h : last) : s.finishHand = (s.setSweep { s.sweep with
        hand := none, running := running, suspended := suspended }).passComplete k := by
      rw [advances]
      exact if_pos (exhausted.2 h)
    refine ⟨fun notLast => ?goesOn, ?_, ?_, ?_, ?_, ?_⟩
    case goesOn =>
      rw [advances]
      exact if_neg fun h => notLast (exhausted.1 h)
    all_goals
      rintro h rfl
      rw [ends h]
    · exact State.refillCheck_checked _
    · exact State.refillCheck_checked _
    · exact State.refillCheck_checked _
    · intro pending
      have check : (s.setSweep { s.sweep with hand := none, running := running, suspended := suspended }).passComplete .opening =
          State.refillCheck { s with cmd := done, sweep := left } := if_neg (by
        change ¬s.sweep.rescanPending = true
        simp [pending])
      rw [check]
      exact State.refillCheck_checked _
    · intro pending u t
      have request : t = u.rescanRequest := if_pos pending
      rw [request]
      refine ⟨fun off => ?_, fun on => ⟨u.rescanRequest_takes on, u.rescanRequest_eq on⟩⟩
      exact if_pos (by
        change (!s.nightOn) = true
        rw [off]; rfl)

end Sys2Proof.Machine
end

section
/-! PROOFS. The entry read: evaluation and its verdict, the reads that a record takes, changeover visits, and the sweep engine's
writes and marks (R15 to R18, R28, R34 to R39, R136 to R139). -/

namespace Sys2Proof.Machine

/-! ### The entry in hand goes on, or is finished -/

theorem State.Stays.trans {s u v : State} (h : s.Stays u) (k : u.Stays v) : s.Stays v :=
  ⟨k.inProgress.trans h.inProgress, k.waiting.trans h.waiting, k.port.trans h.port, k.bus.trans h.bus⟩

theorem State.finishHand_stays (s : State) : s.Stays s.finishHand := by
  obtain ⟨a, x, l, d, w, n, f, h⟩ := s.finishHand_frame
  rw [h]
  exact ⟨rfl, rfl, rfl, rfl⟩

section
variable {s u : State} {h : InHand}

/-- Finishing the entry may end a drain. -/
theorem State.Stays.finishHand_drains (stays : s.Stays u) (settled : s.settled = true) :
    u.finishHand.drainedInto u.finishHand.conclude :=
  (stays.trans u.finishHand_stays).conclude_drains settled

theorem State.setPhase_of_hand (hand : u.sweep.hand = some h) (phase : HandPhase) :
    u.setPhase phase = { u with sweep := { u.sweep with hand := some { h with phase := phase } } } := by
  simp only [State.setPhase, hand, Option.map_some]
  rfl

theorem State.Stays.setPhase (stays : s.Stays u) (phase : HandPhase) : s.Stays (u.setPhase phase) :=
  ⟨stays.inProgress, stays.waiting, stays.port, stays.bus⟩

theorem State.drainDue_setPhase (hand : u.sweep.hand = some h) (phase : HandPhase) : (u.setPhase phase).drainDue = false :=
  State.drainDue_of_hand (h := { h with phase := phase }) (by rw [State.setPhase_of_hand hand])

/-- A next step of the entry in hand that asks for a transfer. -/
theorem State.Stays.conclude_step (stays : s.Stays u) (settled : s.settled = true) (hand : u.sweep.hand = some h)
    (phase : HandPhase) (a : Action) :
    let t := ((u.setPhase phase).offer .entry a).conclude
    t = { u with sweep := { u.sweep with hand := some { h with phase := phase } }, bus := t.bus } ∧ t.bus.asked .entry a := by
  intro t
  obtain ⟨frame, asked⟩ := (stays.setPhase phase).conclude_offer settled (State.drainDue_setPhase hand phase) .entry a
  have made : t = { u.setPhase phase with bus := t.bus } := frame
  exact ⟨made.trans (congrArg (fun v : State => { v with bus := t.bus }) (State.setPhase_of_hand hand phase)), asked⟩

/-- The part half is asked to be written. -/
theorem State.Stays.conclude_write (stays : s.Stays u) (settled : s.settled = true) (hand : u.sweep.hand = some h)
    (index : Nat) (written : PartHalf) (w : SweepWrite) :
    let t := (u.beginWrite index written w).conclude
    t = { u with sweep := { u.sweep with hand := some { h with phase := .writing w } }, bus := t.bus } ∧
      t.bus.asked .entry (.write (u.settings.directoryBase.toNat + 32 * index + 16) (partHalfWords written)) :=
  stays.conclude_step settled hand _ _

/-- A write that changes the part half. -/
theorem State.Stays.conclude_change (stays : s.Stays u) (settled : s.settled = true) (hand : u.sweep.hand = some h)
    {index : Nat} {read written : PartHalf} (changed : written ≠ read) :
    let t := (u.writeIfChanged index read written).conclude
    t = { u with
        sweep := { u.sweep with hand := some { h with
          phase := .writing { written := written.state, reportable := reportable read written, poll := none } } },
        bus := t.bus } ∧
      t.bus.asked .entry (.write (u.settings.directoryBase.toNat + 32 * index + 16) (partHalfWords written)) := by
  unfold State.writeIfChanged
  rw [if_neg changed]
  exact stays.conclude_write settled hand _ _ _

theorem State.canAdmit_iff (c : CellId) : s.canAdmit c = true ↔ s.nightOn = true ∧ (s.dueAt c).length < 1024 := by
  simp only [State.canAdmit, Bool.and_eq_true, decide_eq_true_eq]
  rfl

/-- A verdict is carried out: the state or the admission is written where the part half changes. -/
theorem State.carryOut_carriesOut (settled : s.settled = true) (hand : s.sweep.hand = some h) (read : PartHalf) (e : Entry)
    (v : Verdict) : s.carriesOut (s.carryOut h.index read e v).conclude h read e v := by
  unfold State.carriesOut
  intro written writes
  have writesOut (u : State) (stays : s.Stays u) (inHand : u.sweep.hand = some h) (settings : u.settings = s.settings)
      (state : EntryState) {t : State} (made : t = (u.writeIfChanged h.index read (written state)).conclude) :
      if written state = read then u.finishHand.drainedInto t
      else
        t = { u with
            sweep := { u.sweep with hand := some { h with
              phase := .writing { written := state, reportable := reportable read (written state), poll := none } } },
            bus := t.bus } ∧
          t.bus.asked .entry
            (.write (s.settings.directoryBase.toNat + 32 * h.index + 16) (partHalfWords (written state))) := by
    subst made
    by_cases same : written state = read
    · rw [if_pos same]
      unfold State.writeIfChanged
      rw [if_pos same]
      exact stays.finishHand_drains settled
    · rw [if_neg same, ← settings]
      exact stays.conclude_change settled inHand same
  cases v with
  | state state => exact writesOut s (.refl s) hand rfl state rfl
  | item kind mode =>
    by_cases room : s.nightOn = true ∧ (s.dueAt e.host.cell).length < 1024
    · dsimp only
      rw [if_pos room]
      refine writesOut (s.admitRecord h.index e kind mode) ⟨rfl, rfl, rfl, rfl⟩ hand rfl .queued ?_
      exact congrArg State.conclude (if_pos ((State.canAdmit_iff _).2 room))
    · dsimp only
      rw [if_neg room]
      refine writesOut (s.deferCell e.host.cell) ⟨rfl, rfl, rfl, rfl⟩ hand rfl .deferred ?_
      exact congrArg State.conclude (if_neg fun can => room ((State.canAdmit_iff _).1 can))

end

/-! ### Reads that a record takes (R18, R49 to R51) -/

section
variable {s : State} {index : Nat} {c : CellId} {r : DueRecord}

theorem State.recordIn_of_findRecord (found : s.findRecord index = some (c, r)) : s.recordIn c index = some r := by
  obtain ⟨d, -, at_d⟩ := List.exists_of_findSome?_eq_some found
  obtain ⟨q, inList, pair⟩ := Option.map_eq_some_iff.1 at_d
  obtain ⟨rfl, rfl⟩ := Prod.mk.inj pair
  exact inList

theorem State.index_of_recordIn (inList : s.recordIn c index = some r) : r.index = index := by
  simpa using List.find?_some inList

theorem State.routeOr_of_record (found : s.findRecord index = some (c, r)) (e : Entry) (act : State → State) :
    s.routeOr index e act = (s.routeRead c r e).finishHand := by
  simp only [State.routeOr, found]

theorem State.routeOr_of_none (found : s.findRecord index = none) (e : Entry) (act : State → State) :
    s.routeOr index e act = act s := by
  simp only [State.routeOr, found]

theorem State.routeRead_stays (e : Entry) : s.Stays (s.routeRead c r e) := by
  obtain ⟨d, w, n, frame⟩ := s.routeRead_frame c r e
  rw [frame]
  exact ⟨rfl, rfl, rfl, rfl⟩

theorem State.routeRead_of_held (e : Entry) (held : r.state = .planned ∨ r.state = .inAir) :
    s.routeRead c r e = s.modRecord c r.index fun q => { q with refreshPending := true } := by
  unfold State.routeRead
  rcases held with state | state <;> rw [state]

theorem State.routeRead_of_retiring (e : Entry) (retiring : r.state = .retiring) :
    s.routeRead c r e = s.modRecord c r.index fun q => { q with reEvaluate := true } := by
  unfold State.routeRead
  rw [retiring]

/-- A read retires its record: with the entry's requested version, and to be evaluated again where it moves on. -/
theorem State.retireRecord_read (index : Nat) (o : EntryState) (target : Version) (f : DueRecord → DueRecord) (again : Bool)
    (makes : ∀ q, f q = { q with target := target, reEvaluate := q.reEvaluate || again }) :
    s.retireRecord c index o f =
      { s with
        due := cellPut s.due c ((s.dueAt c).map fun q => if q.index = index then
          { q with target := target, reEvaluate := q.reEvaluate || again, outcome := some o, state := .retiring,
                   lateAtFlip := false } else q),
        wb := { s.wb with list := s.wb.list ++ [index] },
        drained := if s.cmd.controller = .stopping then s.drained + 1 else s.drained } := by
  simp only [State.retireRecord_eq, makes, State.stopping, decide_eq_true_eq, DueRecord.retire]

theorem keepTerminal_of_not_terminal {e : Entry} (h : e.part.state.terminal = false) : keepTerminal e = none := by
  simp [keepTerminal, h]

/-- The input of R49 is that of the entry with its substitutes. -/
theorem refreshInput_eq (done : Bool) (r : DueRecord) (e : Entry) :
    refreshInput done r e = plainInput done { e with part := { e.part with
      state := if e.part.state ∈ [EntryState.unreachable, .gaveUp, .contentBad, .refused, .late] then e.part.state
        else if r.kind = .poll then .unsure else .queued,
      staged := (r.reply.map (·.staged)).getD e.part.staged,
      shown := (r.reply.map (·.shown)).getD e.part.shown } } := by
  simp only [← EntryState.terminal_iff]
  have staged : (refreshInput done r e).staged = (r.reply.map (·.staged)).getD e.part.staged := by
    unfold refreshInput
    cases r.reply <;> rfl
  have shown : (refreshInput done r e).shown = (r.reply.map (·.shown)).getD e.part.shown := by
    unfold refreshInput
    cases r.reply <;> rfl
  rw [← staged, ← shown]
  by_cases terminal : e.part.state.terminal = true
  · simp only [plainInput, refreshInput, if_pos terminal, keepTerminal]
  · simp only [plainInput, refreshInput, if_neg terminal]
    rw [keepTerminal_of_not_terminal (by simpa using terminal), keepTerminal_of_not_terminal]
    change (if r.kind = .poll then EntryState.unsure else .queued).terminal = false
    split <;> rfl

/-- A record refreshed in place takes the host half of the read (R51). -/
theorem DueRecord.refreshed_eq (q : DueRecord) (h : HostHalf) :
    let content := h.length ≠ q.length ∨ h.reference ≠ q.reference
    let segments := if content then (h.length.toNat + 47) / 48 else q.segments
    q.refreshed h = { q with
      label := h.label, k := h.k, phase := h.phase, group := h.group, reference := h.reference, length := h.length,
      target := h.requested, urgent := h.urgent, segments := segments,
      needed := if h.requested ≠ q.target ∨ content ∨ h.label ≠ q.label then
        (if q.kind = .deliver then List.range segments else []) else q.needed,
      check := if h.requested ≠ q.target ∨ content then none else q.check } := by
  simp only [DueRecord.refreshed, segmentCount, allNeeded, Config.segmentBytes, Bool.or_eq_true, decide_eq_true_eq,
    or_assoc, Nat.add_succ_sub_one]

section
variable {e : Entry} {kind : ItemKind} {mode : Mode}

theorem State.refreshRecord_of_state {state : EntryState}
    (moves : evaluate s.settings (refreshInput (s.groupDone e.host.group) r e) = .state state) :
    s.refreshRecord c r e = s.retireRecord c r.index state fun q => { q with target := e.host.requested } := by
  simp only [State.refreshRecord, refreshFate, moves]

theorem State.refreshRecord_of_other
    (moves : evaluate s.settings (refreshInput (s.groupDone e.host.group) r e) = .item kind mode)
    (other : ¬(e.host.cell = r.cell ∧ kind = r.kind ∧ mode = r.mode)) :
    s.refreshRecord c r e = s.retireRecord c r.index .queued fun q =>
      { q with target := e.host.requested, reEvaluate := true } := by
  simp only [State.refreshRecord, refreshFate, moves, if_neg other]

theorem State.refreshRecord_of_same
    (moves : evaluate s.settings (refreshInput (s.groupDone e.host.group) r e) = .item kind mode)
    (same : e.host.cell = r.cell ∧ kind = r.kind ∧ mode = r.mode) :
    s.refreshRecord c r e = { s with due := cellPut s.due c (refreshInList (s.dueAt c) r.index e.host) } := by
  simp only [State.refreshRecord, refreshFate, moves, if_pos same]
  rfl

end

theorem refreshInList_of_same {l : List DueRecord} {h : HostHalf} (found : l.find? (fun q => q.index == index) = some r)
    (same : h.urgent = r.urgent) :
    refreshInList l index h = l.map fun q => if q.index = index then q.refreshed h else q := by
  simp only [refreshInList, found, if_pos same]

theorem refreshInList_of_moved {l : List DueRecord} {h : HostHalf} (found : l.find? (fun q => q.index == index) = some r)
    (moved : h.urgent ≠ r.urgent) :
    refreshInList l index h = joinClass (l.filter fun q => q.index != index) (r.refreshed h) := by
  simp only [refreshInList, found, if_neg moved]

end

/-! ### The read (R15, R34) -/

/-- The opening pass's step 3 is that of an entry whose outcome version is the requested one just where UNREACHABLE stands. -/
theorem openingInput_eq (threshold : Nat) (done : Bool) (e : Entry) :
    openingInput threshold done e = plainInput done { e with part := { e.part with
      outcome := if e.part.state = .unreachable ∧ threshold < e.part.health / 2 then e.host.requested
        else e.host.requested + 1 } } := by
  have next : e.host.requested ≠ e.host.requested + 1 := by
    intro h
    have := congrArg BitVec.toNat h
    simp only [BitVec.toNat_add] at this
    have := e.host.requested.isLt
    have one : (1 : Version).toNat = 1 := by decide
    omega
  by_cases kept : e.part.state = .unreachable ∧ threshold < e.part.health / 2
  · have keeps : keepOpening threshold e = some .unreachable := if_pos (by simp [kept.1, kept.2])
    simp only [openingInput, plainInput, keeps, if_pos kept]
    rw [keepTerminal_of (by simp [kept.1, EntryState.terminal]) rfl]
    simp [kept.1]
  · have drops : keepOpening threshold e = none := if_neg (by
      simpa only [Bool.and_eq_true, decide_eq_true_eq] using kept)
    simp only [openingInput, plainInput, drops, if_neg kept]
    rw [keepTerminal_of_not fun ⟨_, same⟩ => next same]

theorem State.entryRead_of_read {s : State} {h : InHand} {words : List Word} (hand : s.sweep.hand = some h)
    (phase : h.phase = .read words) : exec .entryReadDone s = .next (s.dealWith h (decodeEntry words)).conclude := by
  have event : exec .entryReadDone s = .next s.entryRead.conclude := rfl
  have read : s.entryRead = s.dealWith h (decodeEntry words) := by
    simp only [State.entryRead, hand, phase]
  rw [event, read]

section
variable {s : State} {h : InHand} {e : Entry}

/-- A visit of the refill pass deals with DEFERRED and UNSURE only (R38). -/
theorem State.dealWith_of_not_dealt (not : ¬(h.visit = .refill → e.part.state = .deferred ∨ e.part.state = .unsure)) :
    s.dealWith h e = s.finishHand := by
  obtain ⟨refill, other⟩ := Classical.not_imp.1 not
  unfold State.dealWith
  rw [refill]
  exact if_neg other

theorem State.dealWith_of_dealt (other : h.visit ≠ .changeover)
    (dealt : h.visit = .refill → e.part.state = .deferred ∨ e.part.state = .unsure) :
    s.dealWith h e = s.routeOr h.index e fun t =>
      if h.visit = .opening then t.openingVisit h.index e else t.plainVisit h.index e := by
  unfold State.dealWith
  cases visit : h.visit with
  | plain => rfl
  | opening => rfl
  | refill => exact if_pos (dealt visit)
  | changeover => exact absurd visit other

end

/-- Settles O47: the record that holds the entry takes the read, and otherwise the entry is evaluated. -/
theorem entryReadDone : Obligations.EntryReadDone := by
  unfold Obligations.EntryReadDone
  intro s h words settled hand phase notChangeover e done dealt
  refine ⟨_, State.entryRead_of_read hand phase, fun not => ?passedBy, fun noRecord => ⟨fun plain isDealt => ?evaluated,
    fun opening => ?opened⟩, fun c r found isDealt => ?held⟩
  case passedBy =>
    rw [State.dealWith_of_not_dealt not]
    exact (State.Stays.refl s).finishHand_drains settled
  case evaluated =>
    rw [State.dealWith_of_dealt notChangeover isDealt, State.routeOr_of_none noRecord, if_neg plain]
    exact State.carryOut_carriesOut settled hand _ _ _
  case opened =>
    intro kept fresh judged
    have isDealt : dealt := fun refill => by simp [opening] at refill
    rw [State.dealWith_of_dealt notChangeover isDealt, State.routeOr_of_none noRecord, if_pos opening]
    unfold State.openingVisit
    rw [openingInput_eq]
    exact State.carryOut_carriesOut settled hand _ _ _
  case held =>
    intro onRecord retires refreshed substitute verdict
    have inList : (s.dueAt c).find? (fun q => q.index == r.index) = some r := by
      have holds := State.recordIn_of_findRecord found
      rw [State.index_of_recordIn holds]
      exact holds
    have isRefreshed : (fun q : DueRecord => q.refreshed e.host) = refreshed := funext fun q => q.refreshed_eq e.host
    rw [State.dealWith_of_dealt notChangeover isDealt, State.routeOr_of_record found]
    have drains : (s.routeRead c r e).finishHand.drainedInto (s.routeRead c r e).finishHand.conclude :=
      (State.routeRead_stays e).finishHand_drains settled
    refine ⟨fun planned => ?_, fun retiring => ?_, fun waiting => ?_⟩
    · rw [State.routeRead_of_held e planned] at drains ⊢
      exact drains
    · rw [State.routeRead_of_retiring e retiring] at drains ⊢
      exact drains
    have refreshes : s.routeRead c r e = s.refreshRecord c r e := by
      unfold State.routeRead
      rw [waiting]
    have judges {v : Verdict} (is : verdict = v) : evaluate s.settings (refreshInput done r e) = v := by
      rw [refreshInput_eq]
      exact is
    rw [refreshes] at drains ⊢
    refine ⟨fun state moves => ?_, fun kind mode moves => ⟨fun other => ?_, fun same asUrgent => ?_, fun same moved => ?_⟩⟩
    · rw [State.refreshRecord_of_state (judges moves), State.retireRecord_read (target := e.host.requested) (again := false) (makes := fun q => by simp)]
        at drains ⊢
      exact drains
    · rw [State.refreshRecord_of_other (judges moves) other, State.retireRecord_read (target := e.host.requested) (again := true) (makes := fun q => by simp)]
        at drains ⊢
      exact drains
    · have stays : s.refreshRecord c r e = onRecord refreshed := by
        rw [State.refreshRecord_of_same (judges moves) same, refreshInList_of_same inList asUrgent]
        exact congrArg onRecord isRefreshed
      rw [stays] at drains ⊢
      exact drains
    · have moves : s.refreshRecord c r e = { s with due := cellPut s.due c (joinClass
          ((s.dueAt c).filter fun q => q.index != r.index) (refreshed r)) } := by
        rw [State.refreshRecord_of_same (judges moves) same, refreshInList_of_moved inList moved, ← isRefreshed]
      rw [moves] at drains ⊢
      exact drains

/-! ### Changeover visits (R39, R136 to R139) -/

theorem cellBit_gap (gap : BitVec 4) (c : CellId) : (gap &&& cellBit c != 0) = gap.getLsbD c.val := by
  revert gap c
  decide

theorem settledAhead_iff (flipBeacon : BeaconNo) (e : Entry) :
    settledAhead flipBeacon e = true ↔ e.part.state = .late ∧ e.part.staged = e.host.requested ∧
      e.part.outcome = e.host.requested ∧ e.host.requested ≠ 0 ∧ 2 ^ 31 ≤ (e.part.lastContact - flipBeacon).toNat := by
  simp only [settledAhead, Bool.and_eq_true, decide_eq_true_eq, beforeBeacon_iff, and_assoc]

section
variable {s : State} {h : InHand} {e : Entry} {g : GroupId}

theorem State.dealWith_of_changeover (visit : h.visit = .changeover) : s.dealWith h e = s.changeoverVisit h e := by
  unfold State.dealWith
  rw [visit]

theorem State.changeoverVisit_of_noGroup (group : e.host.group = 0) : s.changeoverVisit h e = s.finishHand := by
  have noGroup : groupIndex e.host.group = none := by rw [group]; rfl
  simp only [State.changeoverVisit, noGroup]

theorem State.changeoverVisit_of_other (group : groupIndex e.host.group = some g) (other : g ∉ s.visitGroups h) :
    s.changeoverVisit h e = s.finishHand := by
  simp only [State.changeoverVisit, group, if_neg other]

theorem State.changeoverVisit_of_record {c : CellId} {r : DueRecord} (group : groupIndex e.host.group = some g)
    (member : g ∈ s.visitGroups h) (found : s.findRecord h.index = some (c, r)) :
    s.changeoverVisit h e = if r.state = .retiring then s.setPhase .awaitingRemoval else s.finishHand := by
  simp only [State.changeoverVisit, group, if_pos member, found]

theorem State.changeoverVisit_of_free (group : groupIndex e.host.group = some g)
    (member : g ∈ s.visitGroups h) (found : s.findRecord h.index = none) :
    s.changeoverVisit h e = s.changeoverEntry g h.index e := by
  simp only [State.changeoverVisit, group, if_pos member, found]

/-- An entry whose staged version is the requested one: STAGED, or a LATE that an evaluation recorded ahead of the pass. -/
def Entry.flipped (e : Entry) (flipBeacon : BeaconNo) : Prop :=
  e.part.staged = e.host.requested ∧ (e.part.state = .staged ∨
    (e.part.state = .late ∧ e.part.outcome = e.host.requested ∧ e.host.requested ≠ 0 ∧
      2 ^ 31 ≤ (e.part.lastContact - flipBeacon).toNat))

theorem Entry.flipped_iff (e : Entry) (b : BeaconNo) :
    e.flipped b ↔ (e.part.state = .staged ∧ e.part.staged = e.host.requested) ∨ settledAhead b e = true := by
  rw [settledAhead_iff, Entry.flipped]
  constructor
  · rintro ⟨same, isStaged | ⟨late, outcome, some, before⟩⟩
    · exact .inl ⟨isStaged, same⟩
    · exact .inr ⟨late, same, outcome, some, before⟩
  · rintro (⟨isStaged, same⟩ | ⟨late, same, outcome, some, before⟩)
    · exact ⟨same, .inl isStaged⟩
    · exact ⟨same, .inr ⟨late, outcome, some, before⟩⟩

theorem State.changeoverEntry_of_flipped (flipped : e.flipped (s.groupRec g).flipBeacon) (index : Nat) :
    s.changeoverEntry g index e = if (s.groupRec g).gap.getLsbD e.host.cell.val = true then s.makeUnsure index e
      else s.writeIfChanged index e.part (e.part.assumeShown e.host.requested) := by
  rw [← cellBit_gap]
  exact if_pos ((e.flipped_iff _).1 flipped)

theorem State.changeoverEntry_of_not (not : ¬e.flipped (s.groupRec g).flipBeacon) (index : Nat) :
    s.changeoverEntry g index e = if e.part.state = .staged then s.movedOn index e
      else if e.part.state = .deferred ∧ s.settings.policy = .holdOld then
        s.writeIfChanged index e.part (e.part.record .late e.host.requested)
      else s.finishHand :=
  if_neg fun is => not ((e.flipped_iff _).2 is)

theorem Entry.flipped_state {b : BeaconNo} (flipped : e.flipped b) : e.part.state = .staged ∨ e.part.state = .late := by
  obtain ⟨_, isStaged | ⟨late, _⟩⟩ := flipped
  · exact .inl isStaged
  · exact .inr late

theorem State.makeUnsure_eq (index : Nat) :
    let unsure : PartHalf := { e.part with state := .unsure, outcome := e.host.requested }
    s.makeUnsure index e = s.beginWrite index unsure
      { written := .unsure, reportable := reportable e.part unsure,
        poll := if s.sweep.aheadOfOpening index = true ∨ entryValid s.settings e.host = false then none
          else some { e with part := unsure } } := by
  simp only [State.makeUnsure, Bool.or_eq_true, Bool.not_eq_true', PartHalf.record]

/-- A part half written in another state than it was read in. -/
theorem PartHalf.ne_of_state {p q : PartHalf} (state : q.state ≠ p.state) : q ≠ p := fun h => state (congrArg _ h)

theorem State.movedOn_of_item {kind : ItemKind} {mode : Mode} (index : Nat)
    (verdict : evaluate s.settings (plainInput true e) = .item kind mode) :
    s.movedOn index e = if s.sweep.aheadOfOpening index = true then s.finishHand
      else s.carryOut index e.part e (.item kind mode) := by
  simp only [State.movedOn, verdict]

theorem State.movedOn_carries (index : Nat)
    (carries : (∃ state, evaluate s.settings (plainInput true e) = .state state) ∨ s.sweep.aheadOfOpening index = false) :
    s.movedOn index e = s.carryOut index e.part e (evaluate s.settings (plainInput true e)) := by
  cases verdict : evaluate s.settings (plainInput true e) with
  | state state => simp only [State.movedOn, verdict]
  | item kind mode =>
    have behind : s.sweep.aheadOfOpening index = false := carries.resolve_left fun ⟨_, is⟩ => by simp [verdict] at is
    rw [State.movedOn_of_item index verdict, if_neg (by simp [behind])]

end

/-- Settles O48: the entry's group, its record and its state say what the visit writes. -/
theorem changeoverVisit : Obligations.ChangeoverVisit := by
  unfold Obligations.ChangeoverVisit
  intro s h words settled hand phase visit e groups
  have stays : s.Stays s := .refl s
  have finishes : s.finishHand.drainedInto s.finishHand.conclude := stays.finishHand_drains settled
  refine ⟨_, State.entryRead_of_read hand phase, fun noGroup => ?noGroup, fun g isGroup => ?ofGroup⟩
  case noGroup =>
    rw [State.dealWith_of_changeover visit, State.changeoverVisit_of_noGroup noGroup]
    exact finishes
  case ofGroup =>
    intro gap ahead asks isSettled unsure verdict
    have group : groupIndex e.host.group = some g := groupIndex_of_toNat isGroup
    have step {u : State} (acts : s.changeoverVisit h e = u) : (s.dealWith h e).conclude = u.conclude := by
      rw [State.dealWith_of_changeover visit, acts]
    refine ⟨fun other => ?other, fun c r member found => ?record, fun member found => ?entry⟩
    case other =>
      rw [step (State.changeoverVisit_of_other group other)]
      exact finishes
    case record =>
      rw [step (State.changeoverVisit_of_record group member found)]
      refine ⟨fun retiring => ?_, fun other => ?_⟩
      · rw [if_pos retiring, (stays.setPhase .awaitingRemoval).conclude_eq settled (State.drainDue_setPhase hand _)]
        exact State.setPhase_of_hand hand _
      · rw [if_neg other]
        exact finishes
    case entry =>
      have acts {u : State} (is : s.changeoverEntry g h.index e = u) : (s.dealWith h e).conclude = u.conclude :=
        step ((State.changeoverVisit_of_free group member found).trans is)
      have changes {part : PartHalf} (changed : part.state ≠ e.part.state)
          (is : s.changeoverEntry g h.index e = s.writeIfChanged h.index e.part part) : asks part none := by
        have made := stays.conclude_change settled hand (index := h.index) (PartHalf.ne_of_state changed)
        rw [← acts is] at made
        exact made
      refine ⟨fun flipped noGap => ?shown, fun flipped inGap => ?unsure, fun isStaged moved => ⟨fun ⟨kind, mode, item⟩ isAhead => ?left,
        fun carries => ?carried⟩, fun deferred holds => ?late, fun deferred shows => ?skipped, fun notStaged notDeferred not => ?passedBy⟩
      case shown =>
        refine changes (fun same => ?_) ((State.changeoverEntry_of_flipped flipped _).trans (if_neg (Bool.eq_false_iff.1 noGap)))
        rcases Entry.flipped_state (b := (s.groupRec g).flipBeacon) flipped with state | state <;> simp [state] at same
      case unsure =>
        have is := (State.changeoverEntry_of_flipped flipped h.index).trans (if_pos inGap)
        have made := stays.conclude_write settled hand h.index unsure
          { written := .unsure, reportable := reportable e.part unsure,
            poll := if ahead = true ∨ entryValid s.settings e.host = false then none else some { e with part := unsure } }
        rw [← acts (is.trans (State.makeUnsure_eq _))] at made
        exact made
      case left =>
        have not : ¬e.flipped (s.groupRec g).flipBeacon := fun ⟨same, _⟩ => moved same
        rw [acts ((State.changeoverEntry_of_not not _).trans (if_pos isStaged)), State.movedOn_of_item _ item, if_pos isAhead]
        exact finishes
      case carried =>
        have not : ¬e.flipped (s.groupRec g).flipBeacon := fun ⟨same, _⟩ => moved same
        rw [acts ((State.changeoverEntry_of_not not _).trans (if_pos isStaged)), State.movedOn_carries _ carries]
        exact State.carryOut_carriesOut settled hand _ _ _
      all_goals have state (is : e.flipped (s.groupRec g).flipBeacon) := Entry.flipped_state is
      case late =>
        have other := (State.changeoverEntry_of_not (fun is => by simpa [deferred] using state is) h.index).trans
          (if_neg (by simp [deferred]))
        exact changes (by simp [deferred]) (other.trans (if_pos ⟨deferred, holds⟩))
      case skipped =>
        have other := (State.changeoverEntry_of_not (fun is => by simpa [deferred] using state is) h.index).trans
          (if_neg (by simp [deferred]))
        rw [acts (other.trans (if_neg (by simp [shows])))]
        exact finishes
      case passedBy =>
        rw [acts ((State.changeoverEntry_of_not not _).trans ((if_neg notStaged).trans (if_neg fun is => notDeferred is.1)))]
        exact finishes

/-! ### Writes and marks of the sweep engine (R28, R139) -/

theorem reportable_iff (read written : PartHalf) : reportable read written = true ↔
    written.state ≠ .queued ∧ written.state ≠ .deferred ∧
      (written.state ≠ read.state ∨ written.outcome ≠ read.outcome) := by
  simp only [reportable, Bool.and_eq_true, Bool.or_eq_true, decide_eq_true_eq, and_assoc]

section
variable {s u : State} {h : InHand} {w : SweepWrite}

theorem exec_sweepPartHalfWritten_of (hand : s.sweep.hand = some h) (phase : h.phase = .written w) :
    exec .sweepPartHalfWritten s = .next (if w.reportable = true then
      (s.setPhase (.entryMark w)).offer .entry (entryMarkPair s.settings h.index)
      else s.afterMarks h.index w).conclude := by
  have event : exec .sweepPartHalfWritten s = .next s.sweepWritten.conclude := rfl
  rw [event]
  simp only [State.sweepWritten, hand, phase]

theorem exec_sweepMarkSet_of_entry (hand : s.sweep.hand = some h) (phase : h.phase = .entryMarked w) :
    exec .sweepMarkSet s = .next ((s.setPhase (.groupMark w)).offer .entry (groupMarkPair s.settings h.index)).conclude := by
  have event : exec .sweepMarkSet s = .next s.sweepMarked.conclude := rfl
  rw [event]
  simp only [State.sweepMarked, hand, phase]

theorem exec_sweepMarkSet_of_group (hand : s.sweep.hand = some h) (phase : h.phase = .groupMarked w) :
    exec .sweepMarkSet s = .next ((s.report w.written).afterMarks h.index w).conclude := by
  have event : exec .sweepMarkSet s = .next s.sweepMarked.conclude := rfl
  rw [event]
  simp only [State.sweepMarked, hand, phase]

theorem State.afterMarks_of_none (poll : w.poll = none) (index : Nat) : u.afterMarks index w = u.finishHand := by
  simp only [State.afterMarks, poll]

theorem State.afterMarks_of_poll {e : Entry} (poll : w.poll = some e) (index : Nat) :
    u.afterMarks index w = u.followPoll index e := by
  simp only [State.afterMarks, poll]

/-- What follows the marks: the entry is finished, or its POLL is admitted or put off. -/
theorem State.Stays.conclude_afterMarks (stays : s.Stays u) (settled : s.settled = true) (hand : u.sweep.hand = some h) :
    let t := (u.afterMarks h.index w).conclude
    (w.poll = none → u.finishHand.drainedInto t) ∧
      ∀ e, w.poll = some e →
        (u.nightOn = true ∧ (u.dueAt e.host.cell).length < 1024 →
          t = { u with
            due := cellPut u.due e.host.cell (joinClass (u.dueAt e.host.cell)
              (newRecord u.settings h.index e .poll .display (u.timer.now + 1))),
            sweep := { u.sweep with hand := some { h with
              phase := .writing { written := .queued, reportable := false, poll := none } } },
            bus := t.bus } ∧
          t.bus.asked .entry (.write (u.settings.directoryBase.toNat + 32 * h.index + 16)
            (partHalfWords { e.part with state := .queued, outcome := e.host.requested }))) ∧
        (¬(u.nightOn = true ∧ (u.dueAt e.host.cell).length < 1024) →
          ({ u with deferred := cellPut u.deferred e.host.cell true } : State).finishHand.drainedInto t) := by
  intro t
  refine ⟨fun poll => ?_, fun e poll => ⟨fun room => ?_, fun full => ?_⟩⟩
  · have done : t = u.finishHand.conclude := congrArg State.conclude (State.afterMarks_of_none poll _)
    rw [done]
    exact stays.finishHand_drains settled
  · have admitted : s.Stays (u.admitRecord h.index e .poll .display) := ⟨stays.inProgress, stays.waiting, stays.port, stays.bus⟩
    have made := admitted.conclude_write settled hand h.index (e.part.record .queued e.host.requested)
      { written := .queued, reportable := false, poll := none }
    have done : t = _ := congrArg State.conclude
      ((State.afterMarks_of_poll poll _).trans (if_pos ((State.canAdmit_iff _).2 room)))
    rw [done]
    exact made
  · have deferred : s.Stays (u.deferCell e.host.cell) := ⟨stays.inProgress, stays.waiting, stays.port, stays.bus⟩
    have done : t = _ := congrArg State.conclude
      ((State.afterMarks_of_poll poll _).trans (if_neg fun can => full ((State.canAdmit_iff _).1 can)))
    rw [done]
    exact deferred.finishHand_drains settled

end

/-- Settles O49: each step asks for the next transfer of the write, and the last is followed by the POLL. -/
theorem sweepWritesAndMarks : Obligations.SweepWritesAndMarks := by
  unfold Obligations.SweepWritesAndMarks
  refine ⟨fun s h w settled hand => ?_, reportable_iff⟩
  intro goes follows
  have stays : s.Stays s := .refl s
  refine ⟨fun phase reports => ?_, fun phase silent => ?_, fun phase => ?_, fun phase => ?_, rfl, rfl, rfl⟩
  · rw [exec_sweepPartHalfWritten_of hand phase, if_pos reports]
    exact ⟨_, rfl, stays.conclude_step settled hand _ _⟩
  · rw [exec_sweepPartHalfWritten_of hand phase, if_neg (by simp [silent])]
    exact ⟨_, rfl, stays.conclude_afterMarks settled hand⟩
  · rw [exec_sweepMarkSet_of_entry hand phase]
    obtain ⟨frame, asked⟩ := stays.conclude_step settled hand (.groupMark w) (groupMarkPair s.settings h.index)
    refine ⟨_, rfl, frame, ?_⟩
    have pair : groupMarkPair s.settings h.index =
        .pair (s.settings.groupMarkBase.toNat + 4 * (h.index / 1024)) (h.index / 32 % 32) := by
      rw [groupMarkPair, Nat.div_div_eq_div_mul]
    rw [← pair]
    exact asked
  · rw [exec_sweepMarkSet_of_group hand phase]
    have reported : s.Stays (s.report w.written) := ⟨rfl, rfl, rfl, rfl⟩
    exact ⟨_, rfl, reported.conclude_afterMarks settled hand⟩

end Sys2Proof.Machine
end

section
/-! PROOFS. The steps of a window and of receiving: one cell's link goes on, frames are judged, slots start and end, and the window ends
(R110 to R120, R149 to R151). -/

namespace Sys2Proof.Machine

/-! ### Steps of one cell -/

/-- Between s and u the command in progress, the waiting one, the memory port and every port but that of cell c have stayed. -/
structure State.CellStep (s u : State) (c : CellId) : Prop where
  inProgress : u.cmd.inProgress = s.cmd.inProgress
  waiting : u.cmd.waiting = s.cmd.waiting
  bus : u.bus = s.bus
  others : ∀ d, d ≠ c → u.portAt d = s.portAt d

section
variable {s u : State} {c : CellId}

theorem State.CellStep.command (h : s.CellStep u c) (settled : s.settled = true) :
    u.cmd.waiting = none ∨ u.cmd.inProgress.isSome = true := by
  obtain ⟨commands, _⟩ := s.settled_iff.1 settled
  rw [h.waiting, h.inProgress]
  exact commands.symm

theorem State.CellStep.othersSettled (h : s.CellStep u c) (settled : s.settled = true) (d : CellId) (other : d ≠ c) :
    (u.portAt d).settled = true := by
  obtain ⟨_, _, ports, _⟩ := s.settled_iff.1 settled
  rw [h.others d other]
  exact ports d

theorem State.CellStep.busSettled (h : s.CellStep u c) (settled : s.settled = true) : u.bus.settled = true := by
  obtain ⟨_, _, _, bus⟩ := s.settled_iff.1 settled
  rw [h.bus]
  exact bus

/-- With no drain over, the end of such a step is what the cell's link begins. -/
theorem State.CellStep.conclude_kick (h : s.CellStep u c) (settled : s.settled = true) (drain : u.drainDue = false) :
    u.conclude = u.kick c :=
  State.conclude_link u c (h.command settled) drain (h.othersSettled settled) (h.busSettled settled)

/-- The ports after the end of such a step. -/
theorem State.CellStep.kick_portAt (h : s.CellStep u c) : ((u.kick c).portAt c = (u.portAt c).goOn) ∧
    ∀ d, d ≠ c → (u.kick c).portAt d = s.portAt d :=
  ⟨u.kick_portAt c, fun d other => (u.kick_portAt_other c d other).trans (h.others d other)⟩

theorem State.cellStep_modPort (s : State) (c : CellId) (f : RadioPort → RadioPort) : s.CellStep (s.modPort c f) c :=
  ⟨rfl, rfl, rfl, fun d other => s.modPort_portAt_other c d f other⟩

/-- A change of one cell's port and sequencer. -/
theorem State.cellStep_modSeq_modPort (s : State) (c : CellId) (f : RadioPort → RadioPort) (g : Sequencer → Sequencer) :
    s.CellStep ((s.modSeq c g).modPort c f) c :=
  ⟨rfl, rfl, rfl, fun d other => (s.modSeq c g).modPort_portAt_other c d f other⟩

theorem State.drainDue_of_standing {plan : Plan} (standing : (u.seqAt c).standing = some plan) : u.drainDue = false := by
  rw [← Bool.not_eq_true, State.drainDue_iff]
  rintro ⟨_, _, cells, _, _⟩
  obtain ⟨_, ended⟩ := cells c
  simp [standing] at ended

/-- The end of a drain depends on the commands, the lists, the windows and the entry in hand. -/
theorem State.drainDue_congr (inProgress : u.cmd.inProgress = s.cmd.inProgress) (controller : u.cmd.controller = s.cmd.controller)
    (due : u.due = s.due) (standing : ∀ d, (u.seqAt d).standing = (s.seqAt d).standing) (list : u.wb.list = s.wb.list)
    (hand : u.sweep.hand = s.sweep.hand) : u.drainDue = s.drainDue := by
  rw [Bool.eq_iff_iff, State.drainDue_iff, State.drainDue_iff, inProgress, controller, list, hand]
  simp only [State.dueAt, due, standing]

theorem State.modSeq_seqAt_eq (s : State) (c d : CellId) (g : Sequencer → Sequencer) :
    (s.modSeq c g).seqAt d = if d = c then g (s.seqAt c) else s.seqAt d :=
  cellAt_cellPut s.seq c d _

theorem State.modSeq_standing (s : State) (c : CellId) {g : Sequencer → Sequencer}
    (keeps : (g (s.seqAt c)).standing = (s.seqAt c).standing) (d : CellId) :
    ((s.modSeq c g).seqAt d).standing = (s.seqAt d).standing := by
  rw [State.modSeq_seqAt_eq]
  by_cases same : d = c
  · rw [if_pos same, keeps, same]
  · rw [if_neg same]

/-- A step that changes the port and the sequencer of one cell, which keeps its standing plan: it answers with what the cell's link
begins, and no other cell changes. -/
theorem State.conclude_cell (settled : s.settled = true) (c : CellId) (f : RadioPort → RadioPort) {g : Sequencer → Sequencer}
    (keeps : (g (s.seqAt c)).standing = (s.seqAt c).standing) :
    let t := ((s.modSeq c g).modPort c f).conclude
    t = { s with seq := t.seq, port := t.port } ∧
      (∀ d : CellId, d ≠ c → t.portAt d = s.portAt d ∧ t.seqAt d = s.seqAt d) ∧
      t.portAt c = (f (s.portAt c)).goOn ∧ t.seqAt c = g (s.seqAt c) := by
  intro t
  have step := s.cellStep_modSeq_modPort c f g
  have drain : ((s.modSeq c g).modPort c f).drainDue = false := by
    obtain ⟨_, drain, _⟩ := s.settled_iff.1 settled
    exact (State.drainDue_congr (s := s) (u := (s.modSeq c g).modPort c f) rfl rfl rfl (s.modSeq_standing c keeps) rfl rfl).trans drain
  have made : t = ((s.modSeq c g).modPort c f).kick c := step.conclude_kick settled drain
  rw [made]
  refine ⟨rfl, fun d other => ⟨step.kick_portAt.2 d other, s.modSeq_seqAt_other c d g other⟩, ?_, s.modSeq_seqAt c g⟩
  rw [step.kick_portAt.1, State.modPort_portAt]
  rfl

/-- A step that changes the port of one cell alone. -/
theorem State.conclude_cellPort (settled : s.settled = true) (c : CellId) (f : RadioPort → RadioPort) :
    (s.modPort c f).conclude = { s with port := cellPut s.port c (f (s.portAt c)).goOn } := by
  obtain ⟨_, drain, _⟩ := s.settled_iff.1 settled
  have step := s.cellStep_modPort c f
  have same : (s.modPort c f).drainDue = s.drainDue := rfl
  rw [step.conclude_kick settled (same.trans drain), State.kick, State.modPort_modPort]
  rfl

end

/-! ### What a link begins (R146, R149, R150) -/

section
variable {p : RadioPort}

/-- Behind an exchange in progress, more that falls due leaves a settled port settled. -/
theorem RadioPort.settled_due (settled : p.settled = true) (busy : p.exchange ≠ none) (l : List Due) :
    ({ p with due := p.due ++ l } : RadioPort).settled = true := by
  unfold RadioPort.settled at settled ⊢
  cases out : p.exchange with
  | none => exact absurd out busy
  | some e =>
    cases e with
    | pull d => rfl
    | command k purpose second last =>
      simp only [out, Bool.or_eq_true] at settled ⊢
      refine settled.imp (fun no => no) fun noted => ?_
      simp only [List.contains_eq_mem, decide_eq_true_eq] at noted ⊢
      exact List.mem_append_left _ noted

theorem RadioPort.goOn_due (settled : p.settled = true) (busy : p.exchange ≠ none) (l : List Due) :
    ({ p with due := p.due ++ l } : RadioPort).goOn = { p with due := p.due ++ l } :=
  RadioPort.goOn_settled _ (p.settled_due settled busy l)

theorem RadioPort.refill_of_empty (empty : p.holding = none) :
    p.refill.holding = p.behind.head? ∧ p.refill.behind = p.behind.tail ∧ p.refill.exchange = p.exchange := by
  unfold RadioPort.refill
  cases behind : p.behind <;> simp [empty, behind]

/-- A free link on which the holding buffer has fallen due issues its frame, and the next frame takes its place. -/
theorem RadioPort.goOn_held_free {h : HeldFrame} (free : p.exchange = none) (due : p.due = [.held]) (held : p.holding = some h) :
    p.goOn.exchange = some (.command (.send h.frame) (.window h.beacon) false false) ∧
      p.goOn.holding = p.behind.head? ∧ p.goOn.behind = p.behind.tail := by
  have served : p.serveDue p.due = ({ p with
      exchange := some (.command (.send h.frame) (.window h.beacon) false false), holding := none, due := [] } : RadioPort).refill := by
    rw [due, RadioPort.serveDue, held]
  obtain ⟨d, noted⟩ := (p.serveDue p.due).takeClock.notePull_due
  obtain ⟨k, n, taken⟩ := (p.serveDue p.due).takeClock_frame
  obtain ⟨holding, behind, exchange⟩ := RadioPort.refill_of_empty (p := ({ p with
      exchange := some (.command (.send h.frame) (.window h.beacon) false false), holding := none, due := [] } : RadioPort)) rfl
  rw [p.goOn_free free, noted, taken, served]
  exact ⟨exchange, holding, behind⟩

end

/-! ### Slot starts (R113, R149) -/

theorem State.replyStart_of {s : State} {c : CellId} {plan : Plan} (standing : (s.seqAt c).standing = some plan)
    (inFrames : (s.seqAt c).position = .inFrames) (noneLeft : (s.seqAt c).slotsLeft = 0) :
    s.replyStart c = (s.modSeq c fun q => { q with position := .inReply, obs := noObservations }).modPort c fun p =>
      p.outsideSlot.issue (.listen (s.cellSettings c).rate.replySlot) (.window plan.beacon) := by
  unfold State.replyStart
  simp only [standing, inFrames, noneLeft, and_self, if_true]

/-- Settles O32: the cell's link takes the held frame, or the LISTEN falls due on it. -/
theorem frameAndReplySlotStarts : Obligations.FrameAndReplySlotStarts := by
  unfold Obligations.FrameAndReplySlotStarts
  intro s c settled inFrames
  obtain ⟨_, _, ports, _⟩ := s.settled_iff.1 settled
  refine ⟨fun left => ?frame, fun plan noneLeft standing => ?reply⟩
  case frame =>
    obtain ⟨frame, others, port, seq⟩ := State.conclude_cell settled c
      (fun p => { p with due := p.due ++ [.held] }) (g := fun q => { q with slotsLeft := q.slotsLeft - 1 }) rfl
    have event : exec (.frameSlotStart c) s = .next (s.frameSlot c).conclude := rfl
    refine ⟨_, event.trans (congrArg (fun u : State => Host.Outcome.next u.conclude) (if_pos ⟨inFrames, left⟩)), frame, others, seq,
      fun h free held => ?_, fun busy => ?_⟩
    · have noDue : (s.portAt c).due = [] := (((s.portAt c).settled_free free).1 (ports c)).1
      rw [port]
      exact RadioPort.goOn_held_free (p := { s.portAt c with due := (s.portAt c).due ++ [.held] }) free (by simp [noDue]) held
    · rw [port]
      exact RadioPort.goOn_due (ports c) busy _
  case reply =>
    obtain ⟨frame, others, port, seq⟩ := State.conclude_cell settled c
      (fun p => p.outsideSlot.issue (.listen (s.cellSettings c).rate.replySlot) (.window plan.beacon))
      (g := fun q => { q with position := .inReply, obs := noObservations }) rfl
    have event : exec (.replySlotStart c) s = .next (s.replyStart c).conclude := rfl
    refine ⟨_, event.trans (congrArg (fun u : State => Host.Outcome.next u.conclude)
      (State.replyStart_of standing inFrames noneLeft)), frame, others, seq, ?_⟩
    rw [port]
    exact RadioPort.goOn_issued _ _ _ (.inr (List.mem_append_right _ (List.mem_singleton_self _)))

/-! ### The end of a window (R110, R122) -/

section
variable {u : State}

/-- The end of a step that leaves only the links and the end of a drain to begin. -/
theorem State.conclude_drainsLinks (command : u.cmd.waiting = none ∨ u.cmd.inProgress.isSome = true)
    (bus : u.bus.settled = true) :
    ∃ p : PerCell RadioPort, (∀ d, cellAt p d = (u.portAt d).goOn) ∧ (u.setPort p).drainedInto u.conclude := by
  have ends (v : State) : ∃ p, v.kickAll = v.setPort p ∧ ∀ d, cellAt p d = (v.portAt d).goOn :=
    forCells_modPort (fun _ => RadioPort.goOn) v
  by_cases isOver : u.drainDue = true
  · obtain ⟨r, n, m, drained⟩ := u.checkDrain_frame
    obtain ⟨p, links, each⟩ := ends u.checkDrain
    obtain ⟨b, chosen⟩ := u.checkDrain.kickAll.arbitrate_frame
    refine ⟨p, fun d => ?_, ?_⟩
    · rw [each d, drained]
      rfl
    have drains := u.checkDrain_drains b isOver
    rw [u.conclude_same command, State.proceed, chosen, links]
    unfold State.drainedInto at drains ⊢
    rw [if_pos (u.drainDue_iff.1 isOver)] at drains
    rw [if_pos ((u.setPort p).drainDue_iff.1 isOver)]
    obtain ⟨same, due, awaited⟩ := drains
    exact ⟨congrArg (fun v : State => v.setPort p) same, due, awaited⟩
  · have isOver : u.drainDue = false := by simpa using isOver
    obtain ⟨p, links, each⟩ := ends u
    refine ⟨p, each, ?_⟩
    rw [u.conclude_same command, State.proceed, u.checkDrain_same isOver, links,
      State.arbitrate_settled (u.setPort p) bus]
    exact State.drainedInto_of_not (u := u.setPort p) isOver

end

/-- Settles O34: with a CELL_OFF pending the cell's port leaves ACTIVE, and a drain may be over. -/
theorem windowEnd : Obligations.WindowEnd := by
  unfold Obligations.WindowEnd
  intro s c settled isOver ended
  have event : exec (.windowEnd c) s = .next (s.endWindow c).conclude :=
    congrArg Host.Outcome.next (if_pos isOver)
  refine ⟨fun stays => ?stays, fun offPending => ?off⟩
  case stays =>
    have ends : s.endWindow c = s.modSeq c Sequencer.noPlan := by
      refine if_neg ?_
      rw [State.modSeq_seqAt]
      simp [Sequencer.noPlan, stays]
    rw [ends] at event
    have quiet : s.Stays (s.modSeq c Sequencer.noPlan) := ⟨rfl, rfl, rfl, rfl⟩
    exact ⟨_, event, quiet.conclude_drains settled⟩
  case off =>
    have ends : s.endWindow c = (s.modSeq c Sequencer.noPlan).cellOff c := by
      refine if_pos ?_
      rw [State.modSeq_seqAt]
      exact offPending
    have leaves (d : CellId) : ((s.modSeq c Sequencer.noPlan).cellOff c).portAt d =
        if d = c then (s.portAt c).leave .off else s.portAt d := (s.modSeq c Sequencer.noPlan).cellOff_portAt c d
    rw [ends] at event
    have step : s.CellStep ((s.modSeq c Sequencer.noPlan).cellOff c) c :=
      ⟨rfl, rfl, rfl, fun d other => (leaves d).trans (if_neg other)⟩
    obtain ⟨p, each, drains⟩ := State.conclude_drainsLinks (step.command settled) (step.busSettled settled)
    have port (d : CellId) : cellAt p d = if d = c then ((s.portAt c).leave .off).goOn else s.portAt d := by
      rw [each d, leaves d]
      split
      · rfl
      · next other =>
        obtain ⟨_, _, ports, _⟩ := s.settled_iff.1 settled
        exact RadioPort.goOn_settled _ (ports d)
    obtain ⟨state, _, _, fifo, _, _, rest⟩ := (s.portAt c).leave_goOn .off
    have left : ((((s.modSeq c Sequencer.noPlan).cellOff c).setPort p).portAt c) = ((s.portAt c).leave .off).goOn :=
      (port c).trans (if_pos rfl)
    refine ⟨_, _, event, drains, ?_, fun d other => (port d).trans (if_neg other), by rw [left, state], by rw [left, fifo],
      fun active => by rw [left]; exact rest (by simp [active])⟩
    have seq : ((s.modSeq c Sequencer.noPlan).cellOff c).seq = cellPut s.seq c { ended with offPending := false } := by
      have noPlan : ((s.modSeq c Sequencer.noPlan).modPort c fun p => p.leave .off).seqAt c = (s.seqAt c).noPlan :=
        s.modSeq_seqAt c _
      change cellPut (cellPut s.seq c _) c _ = _
      rw [cellPut_cellPut, noPlan]
      rfl
    rw [← seq]
    rfl

end Sys2Proof.Machine
end

section
/-! PROOFS. Receiving: frame-ready, pulls and overruns, the words of the link, and the frames taken from the FIFO (R118, R120, R150,
R151, R191, R192). -/

namespace Sys2Proof.Machine

/-! ### A link with nothing due (R150) -/

section
variable {p : RadioPort}

/-- A free link with nothing due pulls an announced frame. -/
theorem RadioPort.goOn_pulls (free : p.exchange = none) (due : p.due = []) (can : p.canPull = true)
    (clock : p.clockNext = none ∨ p.probe.isSome = true) : p.goOn = { p with exchange := some (.pull false) } := by
  have served : p.serveDue p.due = { p with exchange := some (.pull false) } :=
    calc p.serveDue p.due
      _ = p.serveDue [] := by rw [due]
      _ = { p with exchange := if p.canPull = true then some (.pull false) else none, due := [] } := rfl
      _ = { p with exchange := some (.pull false) } := by rw [if_pos can, ← due]
  have taken : ({ p with exchange := some (.pull false) } : RadioPort).takeClock = { p with exchange := some (.pull false) } := by
    unfold RadioPort.takeClock
    rcases clock with none | probing
    · simp [none]
    · cases next : p.clockNext with
      | none => rfl
      | some level =>
        refine if_neg ?_
        rw [Option.isSome_iff_ne_none] at probing
        simp [RadioPort.probeCommandOut, probing]
  rw [p.goOn_free free, served, taken]
  rfl

/-- Frame-ready on a free link whose FIFO has room. -/
theorem RadioPort.goOn_frameReady (settled : p.settled = true) (free : p.exchange = none)
    (pulls : p.state ≠ .active ∨ (p.fifo.length < 2 ∧ p.blocked = false)) :
    ({ p with frameReady := true } : RadioPort).goOn = { p with frameReady := true, exchange := some (.pull false) } := by
  obtain ⟨due, _, clock⟩ := (p.settled_free free).1 settled
  have can : ({ p with frameReady := true } : RadioPort).canPull = true := by
    simpa [RadioPort.canPull, Config.fifoFrames] using pulls
  exact RadioPort.goOn_pulls (p := { p with frameReady := true }) free due can clock

/-- The blocked port of an ACTIVE cell makes no pull. -/
theorem RadioPort.settled_of_blocked (settled : p.settled = true) (active : p.state = .active) (blocked : p.blocked = true) :
    ({ p with frameReady := true } : RadioPort).settled = true := by
  have no (e : Option Exchange) : ({ p with frameReady := true, exchange := e } : RadioPort).canPull = false := by
    simp [RadioPort.canPull, active, blocked]
  unfold RadioPort.settled at settled ⊢
  cases out : p.exchange with
  | none =>
    simp only [out, no, Bool.and_eq_true] at settled ⊢
    obtain ⟨⟨due, _⟩, clock⟩ := settled
    exact ⟨⟨due, rfl⟩, clock⟩
  | some e =>
    cases e with
    | pull d => rfl
    | command k purpose second last => simp only [no, Bool.not_false, Bool.true_or]

/-- A free link makes an overrun's pull when it falls due. -/
theorem RadioPort.goOn_overrunPull (free : p.exchange = none) (due : p.due = [.overrunPull]) :
    p.goOn.exchange = some (.pull true) := by
  rw [p.goOn_free free, RadioPort.notePull_exchange, due]
  obtain ⟨k, n, taken⟩ := (p.serveDue [.overrunPull]).takeClock_frame
  rw [taken]
  rfl

theorem RadioPort.overruns_iff : p.overruns = true ↔ p.state = .active ∧ 2 ≤ p.fifo.length ∧ p.blocked = false := by
  simp only [RadioPort.overruns, Bool.and_eq_true, decide_eq_true_eq, Bool.not_eq_true', and_assoc]
  rfl

theorem Sequencer.seeOverrun_eq (q : Sequencer) : q.seeOverrun =
    { q with obs := { q.obs with overrun := q.obs.overrun || decide (q.position = .inReply) } } := by
  unfold Sequencer.seeOverrun
  split
  · next inReply => simp [inReply]
  · next not => simp [not]

theorem RadioPort.pullDone_eq (p : RadioPort) (frame : Frame) (inSlot discard : Bool) :
    p.pullDone frame inSlot discard = { p with
      exchange := none, frameReady := false,
      fifo := if p.state = .active ∧ discard = false then p.fifo ++ [{ bytes := frame, inSlot := inSlot }] else p.fifo } := by
  unfold RadioPort.pullDone
  by_cases kept : p.state = .active ∧ discard = false
  · simp [kept]
  · have not : ¬(p.state = .active ∧ (!discard) = true) := by simpa using kept
    dsimp only
    rw [if_neg kept, if_neg not]

end

/-! ### Words and frames (R191) -/

theorem toNat_append_eq {m n : Nat} (x : BitVec m) (y : BitVec n) : (x ++ y).toNat = x.toNat * 2 ^ n + y.toNat := by
  rw [BitVec.toNat_append, ← Nat.shiftLeft_add_eq_or_of_lt y.isLt, Nat.shiftLeft_eq]

/-- Four bytes in a word, the first lowest. -/
def bytesWord (a b c d : Byte) : Word := packFields [(0, 8, a.toNat), (8, 8, b.toNat), (16, 8, c.toNat), (24, 8, d.toNat)]

theorem bytesWord_byte (a b c d : Byte) {i : Nat} (h : i < 4) :
    (bytesWord a b c d).extractLsb' (8 * i) 8 = [a, b, c, d].getD i 0 := by
  have field {p : Nat} {x : Byte} (mem : (p, 8, x.toNat) ∈
      [(0, 8, a.toNat), (8, 8, b.toNat), (16, 8, c.toNat), (24, 8, d.toNat)]) :
      (bytesWord a b c d).extractLsb' p 8 = x := by
    rw [bytesWord, packFields_field (by simp [ascends]) mem, BitVec.ofNat_toNat, BitVec.setWidth_eq]
  have cases : i = 0 ∨ i = 1 ∨ i = 2 ∨ i = 3 := by omega
  rcases cases with rfl | rfl | rfl | rfl
  all_goals exact field (by simp)

theorem packBytes_cons (a b c d : Byte) (rest : List Byte) :
    packBytes (a :: b :: c :: d :: rest) = bytesWord a b c d :: packBytes rest := rfl

theorem packBytes_one (a : Byte) : packBytes [a] = [bytesWord a 0 0 0] := by
  simp [packBytes, bytesWord, packFields]

theorem packBytes_two (a b : Byte) : packBytes [a, b] = [bytesWord a b 0 0] := by
  simp [packBytes, bytesWord, packFields]

theorem packBytes_three (a b c : Byte) : packBytes [a, b, c] = [bytesWord a b c 0] := by
  simp [packBytes, bytesWord, packFields]

theorem packBytes_length (bytes : List Byte) : (packBytes bytes).length = (bytes.length + 3) / 4 := by
  fun_induction packBytes bytes with
  | case1 => rfl
  | case2 => simp
  | case3 => simp
  | case4 => simp
  | case5 a b c d rest ih =>
    simp only [List.length_cons, ih]
    omega

theorem wordOf_cons_zero (w : Word) (ws : List Word) : wordOf (w :: ws) 0 = w := rfl

theorem wordOf_cons_succ (w : Word) (ws : List Word) (i : Nat) : wordOf (w :: ws) (i + 1) = wordOf ws i := by
  simp [wordOf]

/-- Byte k of a packed frame, zero behind its last byte. -/
theorem packBytes_byte (bytes : List Byte) (k : Nat) (h : k < 4 * (packBytes bytes).length) :
    (wordOf (packBytes bytes) (k / 4)).extractLsb' (8 * (k % 4)) 8 = bytes.getD k 0 := by
  have one (a b c d : Byte) {k : Nat} (small : k < 4) :
      (wordOf [bytesWord a b c d] (k / 4)).extractLsb' (8 * (k % 4)) 8 = [a, b, c, d].getD k 0 := by
    rw [Nat.div_eq_of_lt small, Nat.mod_eq_of_lt small, wordOf_cons_zero, bytesWord_byte a b c d small]
  have padded (l : List Byte) {a b c d : Byte} {k : Nat} (small : k < 4) (word : packBytes l = [bytesWord a b c d])
      (pads : [a, b, c, d].getD k 0 = l.getD k 0) :
      (wordOf (packBytes l) (k / 4)).extractLsb' (8 * (k % 4)) 8 = l.getD k 0 := by
    rw [word, one a b c d small, pads]
  induction k using Nat.strong_induction_on generalizing bytes with
  | _ k ih =>
    match bytes with
    | [] => simp [packBytes] at h
    | [a] =>
      have small : k < 4 := by simpa [packBytes_one] using h
      exact padded _ small (packBytes_one a) (by interval_cases k <;> rfl)
    | [a, b] =>
      have small : k < 4 := by simpa [packBytes_two] using h
      exact padded _ small (packBytes_two a b) (by interval_cases k <;> rfl)
    | [a, b, c] =>
      have small : k < 4 := by simpa [packBytes_three] using h
      exact padded _ small (packBytes_three a b c) (by interval_cases k <;> rfl)
    | a :: b :: c :: d :: rest =>
      rw [packBytes_cons] at h ⊢
      by_cases small : k < 4
      · rw [Nat.div_eq_of_lt small, Nat.mod_eq_of_lt small, wordOf_cons_zero, bytesWord_byte a b c d small]
        interval_cases k <;> rfl
      · obtain ⟨j, rfl⟩ : ∃ j, k = j + 4 := ⟨k - 4, by omega⟩
        rw [Nat.add_div_right j (by omega), Nat.add_mod_right, wordOf_cons_succ]
        simp only [List.length_cons] at h
        exact ih j (by omega) rest (by omega)

theorem unpackBytes_cons (w : Word) (ws : List Word) :
    unpackBytes (w :: ws) = wordByte w 0 :: wordByte w 1 :: wordByte w 2 :: wordByte w 3 :: unpackBytes ws := rfl

/-- The words of a frame give its bytes back. -/
theorem unpackBytes_packBytes (bytes : List Byte) : (unpackBytes (packBytes bytes)).take bytes.length = bytes := by
  have byte (a b c d : Byte) {i : Nat} (h : i < 4) : wordByte (bytesWord a b c d) i = [a, b, c, d].getD i 0 :=
    bytesWord_byte a b c d h
  have opens (a b c d : Byte) (ws : List Word) : unpackBytes (bytesWord a b c d :: ws) = a :: b :: c :: d :: unpackBytes ws := by
    rw [unpackBytes_cons, byte _ _ _ _ (by omega), byte _ _ _ _ (by omega), byte _ _ _ _ (by omega), byte _ _ _ _ (by omega)]
    rfl
  match bytes with
  | [] => rfl
  | [a] => rw [packBytes_one, opens]; rfl
  | [a, b] => rw [packBytes_two, opens]; rfl
  | [a, b, c] => rw [packBytes_three, opens]; rfl
  | a :: b :: c :: d :: rest =>
    rw [packBytes_cons, opens]
    simp only [List.length_cons, List.take_succ_cons]
    rw [unpackBytes_packBytes rest]

theorem wordBits_eq (w : Word) : (wordBits w).length = 32 ∧ ∀ i : Nat, i < 32 → (wordBits w)[i]? = some (w.getLsbD (31 - i)) := by
  refine ⟨by simp [wordBits], fun i small => ?_⟩
  simp [wordBits, small]

/-- The command words of the link, bit by bit. -/
theorem linkWord_eq (channel : BitVec 6) (rate : Rate) (micros : Nat) (frame : Frame) :
    (LinkCommand.tune channel rate).word =
        0#14 ++ (match rate with | .k50 => 0#2 | .k100 => 1#2 | .k200 => 2#2) ++ 0#2 ++ channel ++ 0#4 ++ 1#4 ∧
      (LinkCommand.send frame).word = 0#16 ++ BitVec.ofNat 8 frame.length ++ 0#4 ++ 2#4 ∧
      (LinkCommand.listen micros).word = BitVec.ofNat 24 micros ++ 0#4 ++ 3#4 := by
  have channelBound := channel.isLt
  have opens {m n : Nat} {x : BitVec m} {y : BitVec n} (w : BitVec (m + n)) (h : w.toNat = x.toNat * 2 ^ n + y.toNat) :
      w = x ++ y := BitVec.eq_of_toNat_eq (h.trans (toNat_append_eq x y).symm)
  refine ⟨opens (m := 14 + 2 + 2 + 6 + 4) (n := 4) _ ?_, opens (m := 16 + 8 + 4) (n := 4) _ ?_, opens (m := 24 + 4) (n := 4) _ ?_⟩
  · simp only [LinkCommand.word, packFields, toNat_append_eq, List.map_cons, List.map_nil, List.sum_cons, List.sum_nil]
    cases rate <;> simp only [Rate.code, BitVec.toNat_ofNat] <;> omega
  · simp only [LinkCommand.word, packFields, toNat_append_eq, List.map_cons, List.map_nil, List.sum_cons, List.sum_nil,
      BitVec.toNat_ofNat]
    omega
  · simp only [LinkCommand.word, packFields, toNat_append_eq, List.map_cons, List.map_nil, List.sum_cons, List.sum_nil,
      BitVec.toNat_ofNat]
    omega

/-- Settles O37: the port of the cell by whether its link is free and its FIFO has room; and the words of the link. -/
theorem receiving : Obligations.Receiving := by
  unfold Obligations.Receiving
  refine ⟨fun s c settled => ?ready, fun s c discard lengthWord words settled pulling => ?pulled, fun channel rate micros frame => ?words,
    fun bytes lengthWord => ⟨packBytes_length bytes, packBytes_byte bytes, fun length short => ?frame⟩, wordBits_eq⟩
  case ready =>
    obtain ⟨_, _, ports, _⟩ := s.settled_iff.1 settled
    have event : exec (.frameReady c) s = .next (s.raiseFrameReady c).conclude := rfl
    have announces (no : (s.portAt c).overruns = false) : exec (.frameReady c) s = .next { s with
        port := cellPut s.port c ({ s.portAt c with frameReady := true } : RadioPort).goOn } := by
      rw [event, ← State.conclude_cellPort settled c fun p => { p with frameReady := true }]
      exact congrArg (fun u : State => Host.Outcome.next u.conclude) (if_neg (by simp [no]))
    refine ⟨fun free pulls => ?_, fun active blocked => ?_, fun active blocked full => ?_⟩
    · rw [announces, RadioPort.goOn_frameReady (ports c) free pulls]
      rw [← Bool.not_eq_true, RadioPort.overruns_iff]
      rintro ⟨active, full, _⟩
      rcases pulls with other | ⟨room, _⟩
      · exact other active
      · omega
    · rw [announces, RadioPort.goOn_settled _ (RadioPort.settled_of_blocked (ports c) active blocked)]
      rw [← Bool.not_eq_true, RadioPort.overruns_iff]
      rintro ⟨_, _, not⟩
      simp [blocked] at not
    · obtain ⟨frame, others, port, seq⟩ := State.conclude_cell settled c
        (fun p => { p.overrunNow with frameReady := true }) (g := Sequencer.seeOverrun) (by rw [Sequencer.seeOverrun_eq])
      obtain ⟨e, d, h, b, k, n, begins⟩ := ({ (s.portAt c).overrunNow with frameReady := true } : RadioPort).goOn_frame
      have overruns : s.raiseFrameReady c = (s.modSeq c Sequencer.seeOverrun).modPort c fun p =>
          { p.overrunNow with frameReady := true } := if_pos (RadioPort.overruns_iff.2 ⟨active, full, blocked⟩)
      refine ⟨_, event.trans (congrArg (fun u : State => Host.Outcome.next u.conclude) overruns), frame, others, ?_, ?_, ?_,
        fun free => ?_, fun busy => ?_, ?_⟩
      · rw [port, begins]; rfl
      · rw [port, begins]; rfl
      · rw [port, begins]; rfl
      · have noDue : (s.portAt c).due = [] := (((s.portAt c).settled_free free).1 (ports c)).1
        rw [port]
        refine RadioPort.goOn_overrunPull free ?_
        change (s.portAt c).due ++ [.overrunPull] = _
        rw [noDue]
        rfl
      · rw [port, RadioPort.goOn_busy _ (by exact busy)]
        refine ⟨RadioPort.notePull_exchange _, RadioPort.notePull_mem _ ?_⟩
        exact List.mem_append_right _ (List.mem_singleton_self _)
      · rw [seq, Sequencer.seeOverrun_eq]
  case pulled =>
    have event : exec (.framePullDone c lengthWord words) s = .next (s.takePull c lengthWord words).conclude := rfl
    have takes : s.takePull c lengthWord words = s.modPort c fun p =>
        p.pullDone (pulledFrame lengthWord words) (decide ((s.seqAt c).position = .inReply)) discard := by
      simp only [State.takePull, pulling]
    rw [takes, State.conclude_cellPort settled, RadioPort.pullDone_eq] at event
    obtain ⟨e, l, h, b, k, n, begins⟩ := ({ s.portAt c with
      exchange := none, frameReady := false,
      fifo := if (s.portAt c).state = .active ∧ discard = false then (s.portAt c).fifo ++
        [{ bytes := pulledFrame lengthWord words, inSlot := decide ((s.seqAt c).position = .inReply) }] else (s.portAt c).fifo
      } : RadioPort).goOn_frame
    rw [begins] at event
    have port (p : RadioPort) : ({ s with port := cellPut s.port c p } : State).portAt c = p := s.modPort_portAt c fun _ => p
    refine ⟨_, event, rfl, fun d other => s.modPort_portAt_other c d (fun _ => _) other, ?_⟩
    rw [port]
    refine ⟨rfl, fun active kept => if_pos ⟨active, kept⟩, fun dropped => if_neg ?_⟩
    rintro ⟨active, kept⟩
    rcases dropped with other | discarded
    · exact other active
    · simp [kept] at discarded
  case words =>
    obtain ⟨tune, send, listen⟩ := linkWord_eq channel rate micros frame
    exact ⟨congrArg (fun w => [w]) tune, congrArg (fun w => w :: packBytes frame) send, congrArg (fun w => [w]) listen, rfl, rfl⟩
  case frame =>
    rw [pulledFrame, length, BitVec.toNat_ofNat, Nat.mod_eq_of_lt short]
    exact unpackBytes_packBytes bytes

/-! ### Frames taken from the FIFO (R118, R120) -/

section
variable {q : Sequencer} {network : BitVec 16} {f : RxFrame}

theorem Sequencer.countStray_of_cut (cut : q.cut = true) : q.countStray = q := if_pos cut

theorem Sequencer.countStray_of_not (notCut : q.cut = false) : q.countStray = { q with stray := countUp q.stray } :=
  if_neg (by simp [notCut])

theorem Sequencer.countStray_eq (q : Sequencer) : ∃ n, q.countStray = { q with stray := n } := by
  by_cases cut : q.cut = true
  · exact ⟨q.stray, q.countStray_of_cut cut⟩
  · exact ⟨_, q.countStray_of_not (by simpa using cut)⟩

theorem Sequencer.takeFrame_outside (outside : f.inSlot = false ∨ q.position ≠ .inReply) :
    q.takeFrame network f = q.countStray := by
  unfold Sequencer.takeFrame
  refine if_neg ?_
  rw [Bool.and_eq_true, decide_eq_true_eq]
  rintro ⟨inSlot, inReply⟩
  rcases outside with not | other
  · simp [not] at inSlot
  · exact other inReply

theorem Sequencer.takeFrame_inside {plan : Plan} {i : PlanItem} (inSlot : f.inSlot = true) (inReply : q.position = .inReply)
    (standing : q.standing = some plan) (current : q.currentItem = some i) :
    q.takeFrame network f = q.observe (judge network plan.beacon i.label f.bytes) := by
  unfold Sequencer.takeFrame
  rw [if_pos (by simp [inSlot, inReply])]
  simp only [standing, current]

/-- A judgement changes the observations and the stray count only. -/
theorem Sequencer.observe_frame (q : Sequencer) (j : Judgement) : ∃ o n, q.observe j = { q with obs := o, stray := n } := by
  obtain ⟨n, strays⟩ := q.countStray_eq
  unfold Sequencer.observe
  cases j with
  | stray => exact ⟨q.obs, n, strays⟩
  | good y =>
    dsimp only
    split
    · exact ⟨q.obs, n, strays⟩
    · exact ⟨_, q.stray, rfl⟩
  | damaged =>
    dsimp only
    split
    · exact ⟨q.obs, q.stray, rfl⟩
    · exact ⟨_, q.stray, rfl⟩

theorem Sequencer.takeFrame_frame (network : BitVec 16) (q : Sequencer) (f : RxFrame) :
    ∃ o n, q.takeFrame network f = { q with obs := o, stray := n } := by
  obtain ⟨n, strays⟩ := q.countStray_eq
  unfold Sequencer.takeFrame
  split
  · split
    · exact q.observe_frame _
    · exact ⟨q.obs, n, strays⟩
  · exact ⟨q.obs, n, strays⟩

/-- What a judged frame adds to the observations of its slot. -/
theorem Sequencer.observe_cases (q : Sequencer) :
    q.observe .stray = q.countStray ∧
      q.observe .damaged = { q with obs := { q.obs with damaged := q.obs.damaged || !q.obs.good.isSome } } ∧
      ∀ y, q.observe (.good y) = if q.obs.good.isSome = true then q.countStray
        else { q with obs := { q.obs with good := some y } } := by
  refine ⟨rfl, ?_, fun y => rfl⟩
  unfold Sequencer.observe
  by_cases held : q.obs.good.isSome = true
  · simp [held]
  · simp [held]

theorem RadioPort.unblock_eq (p : RadioPort) : p.unblock = { p with blocked := p.blocked && !p.fifo.isEmpty } := by
  unfold RadioPort.unblock
  cases p.fifo.isEmpty <;> simp

theorem RadioPort.unblock_goOn (p : RadioPort) :
    p.unblock.goOn.fifo = p.fifo ∧ p.unblock.goOn.blocked = (p.blocked && !p.fifo.isEmpty) := by
  obtain ⟨e, d, h, b, k, n, begins⟩ := p.unblock.goOn_frame
  rw [begins, RadioPort.unblock_eq]
  exact ⟨rfl, rfl⟩

end

theorem crcGood_iff (f : Frame) :
    crcGood f = true ↔ 3 ≤ f.length ∧ fieldAt f (f.length - 2) 2 = (crc16 (f.take (f.length - 2))).toNat := by
  rw [crcGood, Bool.and_eq_true, decide_eq_true_eq, beq_iff_eq]

theorem replyKindOf_iff (code : Nat) : replyKindOf code ≠ none ↔ 1 ≤ code ∧ code ≤ 5 := by
  constructor
  · intro known
    by_contra outside
    have none : replyKindOf code = none := by
      unfold replyKindOf
      split
      case h_6 => rfl
      all_goals omega
    exact known none
  · rintro ⟨low, high⟩
    interval_cases code <;> simp [replyKindOf]

/-- Settles O38: the frame is judged where it was pulled in the slot in progress, and otherwise counted as stray. -/
theorem framesJudged : Obligations.FramesJudged := by
  unfold Obligations.FramesJudged
  refine ⟨fun s c f rest settled fifo => ?taken, fun network b label f => ?judged⟩
  case taken =>
    have event : exec (.fifoFrameTaken c) s = .next (s.takeHeadFrame c).conclude := rfl
    have takes : s.takeHeadFrame c = (s.modSeq c fun q => q.takeFrame s.settings.network f).modPort c fun p =>
        ({ p with fifo := rest } : RadioPort).unblock := by
      simp only [State.takeHeadFrame, fifo]
    obtain ⟨frame, others, port, seq⟩ := State.conclude_cell settled c (fun p => ({ p with fifo := rest } : RadioPort).unblock)
      (g := fun q => q.takeFrame s.settings.network f) (by
        obtain ⟨o, n, same⟩ := Sequencer.takeFrame_frame s.settings.network (s.seqAt c) f
        rw [same])
    obtain ⟨left, blocked⟩ := ({ s.portAt c with fifo := rest } : RadioPort).unblock_goOn
    rw [takes] at event
    refine ⟨_, event, frame, others, by rw [port, left], fun last => ?_, fun more => ?_, fun outside notCut => ?_,
      fun outside cut => ?_, fun plan i inSlot inReply standing current notCut => ?_⟩
    · rw [port, blocked]
      simp [last]
    · rw [port, blocked]
      cases rest with
      | nil => exact absurd rfl more
      | cons x l => simp
    · rw [seq, Sequencer.takeFrame_outside outside, Sequencer.countStray_of_not notCut]
    · rw [seq, Sequencer.takeFrame_outside outside, Sequencer.countStray_of_cut cut]
    · intro seen held
      obtain ⟨stray, damaged, good⟩ := (s.seqAt c).observe_cases
      rw [seq, Sequencer.takeFrame_inside inSlot inReply standing current]
      refine ⟨fun is => ?_, fun is => ?_, fun y is => ⟨fun first => ?_, fun again => ?_⟩⟩
      · exact (congrArg _ is).trans (stray.trans (Sequencer.countStray_of_not notCut))
      · exact (congrArg _ is).trans damaged
      · exact (congrArg _ is).trans ((good y).trans (if_neg (Bool.eq_false_iff.1 first)))
      · exact (congrArg _ is).trans ((good y).trans ((if_pos again).trans (Sequencer.countStray_of_not notCut)))
  case judged =>
    intro mine
    refine ⟨crcGood_iff f, fun bad => if_pos (by simp [bad]), fun sound other => ?_, fun sound length code => ⟨fun notMine => ?_,
      fun isMine unknown => ?_, fun isMine kind known => ?_⟩, replyKindOf_iff _⟩
    all_goals unfold judge; rw [if_neg (by simp [sound])]
    · exact if_pos other
    all_goals rw [if_neg (by simp [length, code])]
    · exact if_neg notMine
    · rw [if_pos isMine, unknown]
    · rw [if_pos isMine, known]
      rfl

end Sys2Proof.Machine
end

section
/-! PROOFS. The bytes of the frames the part sends (11.5, R111, R112, R190, R193). -/

namespace Sys2Proof.Machine

/-! ### Bytes of a number (R190) -/

theorem byteOf_eq {w : Nat} (v : BitVec w) (i : Nat) : BitVec.ofNat 8 (v.toNat / 256 ^ i) = v.extractLsb' (8 * i) 8 := by
  apply BitVec.eq_of_toNat_eq
  rw [BitVec.toNat_ofNat, BitVec.extractLsb'_toNat, Nat.shiftRight_eq_div_pow, pow_mul]
  norm_num

theorem littleEndian_word (w : Word) : littleEndian 4 w.toNat = airBytes w := by
  have bytes : littleEndian 4 w.toNat = [0, 1, 2, 3].map fun i => BitVec.ofNat 8 (w.toNat / 256 ^ i) := rfl
  rw [bytes]
  simp only [byteOf_eq, List.map_cons, List.map_nil]
  rfl

theorem littleEndian_half (v : BitVec 16) : littleEndian 2 v.toNat = [v.extractLsb' 0 8, v.extractLsb' 8 8] := by
  have bytes : littleEndian 2 v.toNat = [0, 1].map fun i => BitVec.ofNat 8 (v.toNat / 256 ^ i) := rfl
  rw [bytes]
  simp only [byteOf_eq, List.map_cons, List.map_nil, Nat.mul_zero, Nat.mul_one]

theorem littleEndian_byte (n : Nat) : littleEndian 1 n = [BitVec.ofNat 8 n] := by
  have bytes : littleEndian 1 n = [BitVec.ofNat 8 (n / 256 ^ 0)] := rfl
  rw [bytes, pow_zero, Nat.div_one]

theorem sealFrame_eq (body : List Byte) : sealFrame body = withCrc body := by
  rw [sealFrame, littleEndian_half, withCrc]

/-! ### Segment and control frames (R111, R112) -/

theorem labelWord_eq (label : LabelId) (shows last : Bool) :
    labelWord label shows last = airBytes (0#2 ++ BitVec.ofBool last ++ BitVec.ofBool shows ++ label) := by
  have word : label.toNat + 2 ^ 28 * flagBit shows + 2 ^ 29 * flagBit last =
      (0#2 ++ BitVec.ofBool last ++ BitVec.ofBool shows ++ label).toNat := by
    simp only [toNat_append_eq, BitVec.toNat_ofBool, flagBit, BitVec.toNat_ofNat]
    cases last <;> cases shows <;> simp <;> omega
  rw [labelWord, word]
  exact littleEndian_word _

theorem segmentWord_eq (segment : Nat) (length : BitVec 16) :
    length.toNat % 2 ^ 11 + 2 ^ 11 * (segment % 2 ^ 5) = (BitVec.ofNat 5 segment ++ length.extractLsb' 0 11).toNat := by
  rw [toNat_append_eq, BitVec.toNat_ofNat, BitVec.extractLsb'_toNat, Nat.shiftRight_zero, Nat.mul_comm, Nat.add_comm]

theorem groupByte_eq (group : BitVec 4) : BitVec.ofNat 8 group.toNat = 0#4 ++ group := by
  apply BitVec.eq_of_toNat_eq
  have small := group.isLt
  have wide : (0#4 ++ group).toNat = group.toNat := by rw [toNat_append_eq]; simp
  refine Eq.trans ?_ wide.symm
  rw [BitVec.toNat_ofNat]
  omega

theorem segmentFrame_eq (t : Settings) (i : PlanItem) (segment : Nat) (last : Bool) (data : List Byte) :
    segmentFrame t i segment last data = withCrc ([0x02] ++
      airBytes (0#2 ++ BitVec.ofBool last ++ BitVec.ofBool (i.mode == .display) ++ i.label) ++
      [t.network.extractLsb' 0 8, t.network.extractLsb' 8 8] ++ [i.target.extractLsb' 0 8, i.target.extractLsb' 8 8] ++
      [(BitVec.ofNat 5 segment ++ i.length.extractLsb' 0 11).extractLsb' 0 8,
        (BitVec.ofNat 5 segment ++ i.length.extractLsb' 0 11).extractLsb' 8 8] ++ [0#4 ++ i.group] ++ data) := by
  have place := littleEndian_half (BitVec.ofNat 5 segment ++ i.length.extractLsb' 0 11)
  rw [segmentFrame, sealFrame_eq, labelWord_eq, littleEndian_byte, littleEndian_byte, littleEndian_half, littleEndian_half,
    segmentWord_eq, place, groupByte_eq]
  rfl

theorem controlFrame_eq (t : Settings) (i : PlanItem) :
    controlFrame t i = withCrc ([0x03] ++
      airBytes (0#2 ++ BitVec.ofBool true ++ BitVec.ofBool false ++ i.label) ++
      [t.network.extractLsb' 0 8, t.network.extractLsb' 8 8] ++ [if i.kind = .poll then 1 else 2] ++
      [i.target.extractLsb' 0 8, i.target.extractLsb' 8 8]) := by
  have code : BitVec.ofNat 8 (if i.kind = .poll then 1 else 2) = if i.kind = .poll then 1 else 2 := by
    split <;> rfl
  rw [controlFrame, sealFrame_eq, labelWord_eq, littleEndian_byte, littleEndian_byte, littleEndian_half, littleEndian_half, code]
  rfl

/-! ### The frames of an item -/

section
variable {t : Settings} {store : List SegBuffer} {i : PlanItem}

theorem bufferData_eq (store : List SegBuffer) (number : Nat) :
    bufferData store number = ((store.find? fun x => x.number == number).map (·.data)).getD [] := by
  unfold bufferData
  cases store.find? fun x => x.number == number <;> rfl

theorem itemFrames_of_deliver (kind : i.kind = .deliver) (claimed : i.buffers.length = i.needed.length) :
    (itemFrames t store i).length = i.needed.length ∧
      ∀ (k segment number : Nat), i.needed[k]? = some segment → i.buffers[k]? = some number →
        (itemFrames t store i)[k]? = some (segmentFrame t i segment (decide (k + 1 = i.needed.length)) (bufferData store number)) := by
  have frames : itemFrames t store i = segmentFrames t store i := if_pos kind
  rw [frames]
  unfold segmentFrames
  refine ⟨by simp [claimed], fun k segment number needed buffer => ?_⟩
  obtain ⟨inRange, -⟩ := List.getElem?_eq_some_iff.1 needed
  have zipped : ((i.needed.zip i.buffers).zip (List.range i.needed.length))[k]? = some ((segment, number), k) := by
    rw [List.getElem?_zip_eq_some, List.getElem?_zip_eq_some]
    exact ⟨⟨needed, buffer⟩, by simp [inRange]⟩
  rw [List.getElem?_map, zipped]
  rfl

theorem itemFrames_of_other (kind : i.kind ≠ .deliver) : itemFrames t store i = [controlFrame t i] := if_neg kind

end

end Sys2Proof.Machine
end

section
/-! PROOFS. The slots of an item: its slot start, the items that end as NOT_SENT, and its reply slot's end (R99, R100, R111, R119). -/

namespace Sys2Proof.Machine

/-! ### What ending items leaves alone -/

/-- Between s and u items of a plan of cell c may have ended: of its sequencer the plans alone have changed, no other sequencer has, and
the memory port has at most lost the requester of a fetch. -/
structure State.ItemsEnded (s u : State) (c : CellId) : Prop where
  bus : s.bus.settled = true → u.bus.settled = true
  others : ∀ d, d ≠ c → u.seqAt d = s.seqAt d
  plans : u.seqAt c = { s.seqAt c with coming := (u.seqAt c).coming, standing := (u.seqAt c).standing }
  standing : (u.seqAt c).standing.isSome = (s.seqAt c).standing.isSome

theorem State.ItemsEnded.refl (s : State) (c : CellId) : s.ItemsEnded s c := ⟨id, fun _ _ => rfl, rfl, rfl⟩

theorem State.ItemsEnded.trans {s u v : State} {c : CellId} (h : s.ItemsEnded u c) (k : u.ItemsEnded v c) : s.ItemsEnded v c where
  bus := k.bus ∘ h.bus
  others d other := (k.others d other).trans (h.others d other)
  plans := by rw [k.plans, h.plans]
  standing := k.standing.trans h.standing

/-- A waiting fetch that is withdrawn, and a fetch in progress that loses its requester, leave the memory port settled. -/
theorem MemoryPort.settled_withoutFetch {p : MemoryPort} (settled : p.settled = true) :
    ({ p with fetchReq := none, current := p.current.map fun tr =>
        if tr.requester = .fetch then { tr with orphan := true } else tr } : MemoryPort).settled = true := by
  unfold MemoryPort.settled at settled ⊢
  by_cases free : p.bus = .idle ∧ p.current = none
  · obtain ⟨idle, noCurrent⟩ := free
    have noneWaits : p.highest = none := by simpa [idle, noCurrent] using settled
    have waits (r : Requester) : p.waitingOf r = none := by
      unfold MemoryPort.highest at noneWaits
      have all := List.find?_eq_none.1 noneWaits r (by cases r <;> decide)
      simpa using all
    have gone (r : Requester) : ({ p with fetchReq := none, current := p.current.map fun tr =>
        if tr.requester = .fetch then { tr with orphan := true } else tr } : MemoryPort).waitingOf r = none := by
      have was := waits r
      cases r with
      | fetch => rfl
      | _ => exact was
    simp only [MemoryPort.highest, Bool.or_eq_true]
    right
    rw [Option.isNone_iff_eq_none, List.find?_eq_none]
    intro r _
    simp [gone r]
  · cases current : p.current with
    | none =>
      have busy : p.bus ≠ .idle := fun idle => free ⟨idle, current⟩
      simp [busy]
    | some tr => simp

section
variable (s : State) (c : CellId) (b : BeaconNo) (place : Nat)

theorem State.abandonFetch_items : s.ItemsEnded (s.abandonFetch c b place) c := by
  by_cases current : ∃ f, s.fetch.current = some f ∧ f.elem.isItem c b place = true
  · obtain ⟨f, isCurrent, isItem⟩ := current
    rw [s.abandonFetch_current c b place f isCurrent isItem]
    exact ⟨MemoryPort.settled_withoutFetch, fun _ _ => rfl, rfl, rfl⟩
  · rw [s.abandonFetch_listed c b place fun f isCurrent => by
      by_contra isItem
      exact current ⟨f, isCurrent, by simpa using isItem⟩]
    exact ⟨id, fun _ _ => rfl, rfl, rfl⟩

theorem State.modItem_seqAt (f : PlanItem → PlanItem) :
    (s.modItem c b place f).seqAt c = { s.seqAt c with
      coming := (s.seqAt c).coming.map fun p => if p.beacon = b then p.modItem place f else p,
      standing := (s.seqAt c).standing.map fun p => if p.beacon = b then p.modItem place f else p } :=
  s.modSeq_seqAt c _

theorem State.modItem_items (f : PlanItem → PlanItem) : s.ItemsEnded (s.modItem c b place f) c where
  bus := id
  others d other := s.modSeq_seqAt_other c d _ other
  plans := by rw [State.modItem_seqAt]
  standing := by rw [State.modItem_seqAt, Option.isSome_map]

theorem State.dropItem_items : s.ItemsEnded (s.dropItem c b place) c := by
  unfold State.dropItem
  split
  · exact .refl s c
  · next i _ =>
    have released : (s.abandonFetch c b place).ItemsEnded ((s.abandonFetch c b place).releaseBuffers c i.buffers) c :=
      ⟨id, fun _ _ => rfl, rfl, rfl⟩
    exact ((s.abandonFetch_items c b place).trans released).trans (State.modItem_items _ c b place _)

theorem State.itemResult_items (index : Nat) (res : ItemResult) : s.ItemsEnded (s.itemResult c index b res) c := by
  obtain ⟨d, w, n, x, f, frame⟩ := s.itemResult_frame c index b res
  rw [frame]
  exact ⟨id, fun _ _ => rfl, rfl, rfl⟩

theorem State.notSent_items : s.ItemsEnded (s.notSent c b place) c := by
  unfold State.notSent
  split
  · exact .refl s c
  · split
    · exact (s.dropItem_items c b place).trans (State.itemResult_items _ c b _ _)
    · exact .refl s c

theorem State.notSentAll_items (plan : Plan) : s.ItemsEnded (s.notSentAll c plan) c := by
  unfold State.notSentAll
  generalize List.range plan.items.length = places
  induction places generalizing s with
  | nil => exact .refl s c
  | cons place rest ih => exact (s.notSent_items c plan.beacon place).trans (ih _)

end

theorem State.drainDue_of_window {u : State} {c : CellId} (window : (u.seqAt c).standing.isSome = true) : u.drainDue = false := by
  obtain ⟨plan, standing⟩ := Option.isSome_iff_exists.1 window
  exact State.drainDue_of_standing standing

/-! ### An item's slot start (R99, R111, R112, R149) -/

section
variable {s : State} {c : CellId} {plan : Plan} {i : PlanItem}

theorem Sequencer.standing_of_nextItem {q : Sequencer} (next : q.nextItem = some (plan, i)) : q.standing = some plan := by
  unfold Sequencer.nextItem at next
  split at next
  · cases next
  · next p standing =>
    split at next
    · obtain ⟨j, _, pair⟩ := Option.map_eq_some_iff.1 next
      rw [standing, ← (Prod.mk.inj pair).1]
    · cases next

theorem State.slotStart_of_ready (next : (s.seqAt c).nextItem = some (plan, i)) (ready : i.status = .ready) :
    s.slotStart c = s.sendItem c plan i := by
  simp only [State.slotStart, next, ready]

theorem State.slotStart_of_unready (next : (s.seqAt c).nextItem = some (plan, i)) (unready : i.status = .unready) :
    s.slotStart c = s.fetchLate c plan := by
  simp only [State.slotStart, next, unready]

theorem State.slotStart_of_gone (next : (s.seqAt c).nextItem = some (plan, i)) (gone : i.status = .dropped ∨ i.status = .ended) :
    s.slotStart c = s.modSeq c Sequencer.idleItem := by
  rcases gone with status | status <;> simp only [State.slotStart, next, status]

/-- The frames handed over stand behind those that have not gone yet. -/
theorem RadioPort.handFrames_eq (p : RadioPort) (b : BeaconNo) (frames : List Frame) {first : HeldFrame} {rest : List HeldFrame}
    (queue : p.holding.toList ++ p.behind ++ frames.map (fun f => { frame := f, beacon := b }) = first :: rest) :
    p.handFrames b frames = { p with due := p.due ++ [.held], holding := some first, behind := rest } := by
  unfold RadioPort.handFrames RadioPort.refill
  cases holding : p.holding with
  | some h =>
    simp only [holding, Option.toList_some, List.cons_append, List.nil_append, List.cons.injEq] at queue
    obtain ⟨rfl, rfl⟩ := queue
    rfl
  | none =>
    simp only [holding, Option.toList_none, List.nil_append] at queue
    simp only [queue]

/-- The state in which the frames of a ready item have been handed over, before its link goes on. -/
theorem State.sendItem_step (standing : (s.seqAt c).standing = some plan) :
    s.CellStep (s.sendItem c plan i) c ∧ (s.sendItem c plan i).drainDue = false ∧
      (∀ d, d ≠ c → (s.sendItem c plan i).seqAt d = s.seqAt d ∧ (s.sendItem c plan i).dueAt d = s.dueAt d) ∧
      (s.sendItem c plan i).portAt c = (s.portAt c).handFrames plan.beacon (itemFrames s.settings (s.storeAt c) i) ∧
      (s.sendItem c plan i).dueAt c = ((s.dueAt c).map fun r => if r.index = i.index ∧ r.state = .planned then
        { r with state := .inAir } else r) ∧
      ∃ coming standing, (s.sendItem c plan i).seqAt c = { s.seqAt c with
        coming := coming, standing := standing, position := .inFrames, upNext := (s.seqAt c).upNext + 1,
        slotsLeft := (itemFrames s.settings (s.storeAt c) i).length - 1, itemsSent := countUp (s.seqAt c).itemsSent } := by
  let waits (r : DueRecord) : DueRecord := if r.state = .planned then { r with state := .inAir } else r
  let t := (s.modRecord c i.index waits).modItem c plan.beacon (s.seqAt c).upNext fun j => { j with status := .inAir }
  let sends (q : Sequencer) : Sequencer :=
    { q with position := .inFrames, upNext := (s.seqAt c).upNext + 1,
             slotsLeft := (itemFrames s.settings (s.storeAt c) i).length - 1, itemsSent := countUp q.itemsSent }
  have sent : s.sendItem c plan i = (t.modSeq c sends).modPort c fun p =>
      p.handFrames plan.beacon (itemFrames s.settings (s.storeAt c) i) := rfl
  have seqOf (d : CellId) : (s.sendItem c plan i).seqAt d = (t.modSeq c sends).seqAt d := by rw [sent]; rfl
  have itemOf : t.seqAt c = _ := State.modItem_seqAt (s.modRecord c i.index waits) c plan.beacon (s.seqAt c).upNext _
  have seq : (s.sendItem c plan i).seqAt c = sends (t.seqAt c) := (seqOf c).trans (t.modSeq_seqAt c sends)
  rw [itemOf] at seq
  have due (d : CellId) : (s.sendItem c plan i).dueAt d = (s.modRecord c i.index waits).dueAt d := by rw [sent]; rfl
  refine ⟨⟨rfl, rfl, rfl, fun d other => ?_⟩, ?_, fun d other => ⟨?_, ?_⟩, ?_, ?_, _, _, seq⟩
  · rw [sent]
    exact (t.modSeq c sends).modPort_portAt_other c d _ other
  · refine State.drainDue_of_window (c := c) ?_
    rw [seq]
    exact (Option.isSome_map ..).trans (Option.isSome_iff_exists.2 ⟨plan, standing⟩)
  · have item := (State.modItem_items (s.modRecord c i.index waits) c plan.beacon (s.seqAt c).upNext
      fun j => { j with status := .inAir }).others d other
    exact (seqOf d).trans ((t.modSeq_seqAt_other c d sends other).trans item)
  · exact (due d).trans (State.modDue_dueAt_other s c d _ other)
  · rw [sent]
    exact (t.modSeq c sends).modPort_portAt c _
  · refine (due c).trans ((s.modDue_dueAt c _).trans (List.map_congr_left fun r _ => ?_))
    by_cases same : r.index = i.index <;> by_cases planned : r.state = .planned <;> simp [waits, same, planned]

end

/-- Settles O31: a ready item's frames go to the port, an unready one ends as NOT_SENT, any other passes idle. -/
theorem itemSlotStart : Obligations.ItemSlotStart := by
  unfold Obligations.ItemSlotStart
  refine ⟨fun s c plan i settled next => ?_, fun t store i => ?_⟩
  · have event : exec (.itemSlotStart c) s = .next (s.slotStart c).conclude := rfl
    have standing := Sequencer.standing_of_nextItem next
    obtain ⟨_, _, ports, bus⟩ := s.settled_iff.1 settled
    refine ⟨fun ready => ?ready, fun unready => ?unready, fun gone => ?gone⟩
    case ready =>
      obtain ⟨step, drain, others, port, due, coming, stands, seq⟩ := State.sendItem_step (i := i) standing
      have ends : (s.slotStart c).conclude = (s.sendItem c plan i).kick c := by
        rw [State.slotStart_of_ready next ready, step.conclude_kick settled drain]
      have link : ((s.sendItem c plan i).kick c).portAt c =
          ((s.portAt c).handFrames plan.beacon (itemFrames s.settings (s.storeAt c) i)).goOn := by
        rw [step.kick_portAt.1, port]
      have seq : ((s.sendItem c plan i).kick c).seqAt c = _ := seq
      rw [ends] at event
      refine ⟨_, event, rfl, fun d other => ⟨step.kick_portAt.2 d other, others d other⟩, due, by rw [seq], by rw [seq], by rw [seq],
        by rw [seq], fun first rest queue => ⟨fun free => ?_, fun busy => ?_⟩⟩
      · rw [RadioPort.handFrames_eq _ _ _ queue] at link
        have noDue : (s.portAt c).due = [] := (((s.portAt c).settled_free free).1 (ports c)).1
        obtain ⟨exchange, holding, behind⟩ := RadioPort.goOn_held_free (p := { s.portAt c with
          due := (s.portAt c).due ++ [.held], holding := some first, behind := rest }) free (by simp [noDue]) rfl
        rw [link]
        refine ⟨exchange, holding, behind, ?_⟩
        unfold RadioPort.shiftedOut
        rw [exchange]
      · rw [RadioPort.handFrames_eq _ _ _ queue] at link
        rw [link]
        exact RadioPort.goOn_due (p := { s.portAt c with holding := some first, behind := rest }) (ports c) busy _
    case unready =>
      have ended := s.notSent_items c plan.beacon (s.seqAt c).upNext
      have late : s.slotStart c = { s.notSent c plan.beacon (s.seqAt c).upNext with
          seq := cellPut (s.notSent c plan.beacon (s.seqAt c).upNext).seq c
            { (s.notSent c plan.beacon (s.seqAt c).upNext).seqAt c with
              position := .between, upNext := (s.seqAt c).upNext + 1, fetchLate := countUp (s.seqAt c).fetchLate } } := by
        rw [State.slotStart_of_unready next unready, State.fetchLate, State.modSeq, Sequencer.idleItem, ended.plans]
        rfl
      obtain ⟨e, m, l, q, d, w, n, x, f, frame⟩ := s.notSent_frame c plan.beacon (s.seqAt c).upNext
      refine ⟨_, s.notSent_ends c plan.beacon (s.seqAt c).upNext, ?_⟩
      rw [event, late, State.conclude_settled]
      obtain ⟨commands, _, _, _⟩ := s.settled_iff.1 settled
      refine (State.settled_iff _).2 ⟨?_, State.drainDue_of_window (c := c) ?_, fun d => ?_, ended.bus bus⟩
      · rw [frame]
        exact commands
      · have stands := ended.standing
        rw [standing] at stands
        exact (congrArg (fun q : Sequencer => q.standing.isSome) (cellAt_cellPut_same ..)).trans stands
      · rw [frame]
        exact ports d
    case gone =>
      have stays : s.Stays (s.modSeq c Sequencer.idleItem) := ⟨rfl, rfl, rfl, rfl⟩
      have drain : (s.modSeq c Sequencer.idleItem).drainDue = false :=
        State.drainDue_of_standing (c := c) (by rw [State.modSeq_seqAt]; exact standing)
      rw [event, State.slotStart_of_gone next gone, stays.conclude_eq settled drain]
      rfl
  · intro label low
    refine ⟨fun kind claimed => ?_, fun kind => ?_⟩
    · obtain ⟨count, frames⟩ := itemFrames_of_deliver (t := t) (store := store) kind claimed
      refine ⟨count, fun k segment number needed buffer => ?_⟩
      rw [frames k segment number needed buffer, segmentFrame_eq, bufferData_eq]
    · rw [itemFrames_of_other kind, controlFrame_eq]

end Sys2Proof.Machine
end

section
/-! PROOFS. The end of a reply slot: the frames it takes, the item's result, and what the result makes of the record (R52 to R65,
R113, R119). -/

namespace Sys2Proof.Machine

/-! ### A result and the cells' own blocks -/

section
variable (s : State) (q : PerCell Sequencer) (p : PerCell RadioPort) (n : NightWriter) (r : Option Action) (a : BitVec 9)

/-- The same state with other sequencers and ports, another night record write, and more causes. -/
def State.beside : State :=
  { s with seq := q, port := p, night := n, bus := { s.bus with nightReq := r }, cmd := { s.cmd with attn := s.cmd.attn ||| a } }

theorem State.rescanRetirement_beside : (s.beside q p n r a).rescanRetirement = s.rescanRetirement.beside q p n r a := by
  simp only [State.rescanRetirement, State.retireWhere, forCells_eq, State.retireIn_eq]
  rfl

theorem State.rescanRequest_beside : (s.beside q p n r a).rescanRequest = s.rescanRequest.beside q p n r a := by
  have retires (x : Sweep) : ((s.beside q p n r a).setSweep x).rescanRetirement = (s.setSweep x).rescanRetirement.beside q p n r a :=
    (s.setSweep x).rescanRetirement_beside q p n r a
  have night : (s.beside q p n r a).nightOn = s.nightOn := rfl
  have sweep : (s.beside q p n r a).sweep = s.sweep := rfl
  unfold State.rescanRequest
  simp only [night, sweep]
  split_ifs
  · rfl
  · rfl
  · exact retires _
  · cases s.sweep.running with
    | none => exact retires _
    | some running =>
      dsimp only
      split_ifs <;> exact retires _

theorem State.joinReread_beside (index : Nat) : (s.beside q p n r a).joinReread index = (s.joinReread index).beside q p n r a := by
  have sweep : (s.beside q p n r a).sweep = s.sweep := rfl
  unfold State.joinReread
  rw [sweep]
  split_ifs
  · exact s.rescanRequest_beside q p n r a
  · rfl
  · rfl

theorem State.settleResult_beside (c : CellId) (after : DueRecord) :
    (s.beside q p n r a).settleResult c after = (s.settleResult c after).beside q p n r a := by
  have stopping : (s.beside q p n r a).stopping = s.stopping := rfl
  unfold State.settleResult
  simp only [stopping, State.retireRecord_eq]
  by_cases draining : s.stopping = true
  · simp only [if_pos draining]
    rfl
  · simp only [if_neg draining]
    cases after.outcome with
    | some o => rfl
    | none =>
      dsimp only
      split_ifs
      · exact (s.modRecord c after.index fun _ => _).joinReread_beside q p n r a _
      · rfl

/-- The same state with other sequencers and ports. -/
def State.withCells : State := { s with seq := q, port := p }

theorem State.settleResult_withCells (c : CellId) (after : DueRecord) :
    (s.withCells q p).settleResult c after = (s.settleResult c after).withCells q p := by
  have same (u : State) : u.withCells q p = u.beside q p u.night u.bus.nightReq 0 := by simp [State.withCells, State.beside]
  obtain ⟨d, w, m, x, f, frame⟩ := s.settleResult_frame c after
  rw [same, State.settleResult_beside, same, frame]

end

/-! ### The frames a slot's end takes (R113) -/

theorem Sequencer.takeFrames_frame (network : BitVec 16) (frames : List RxFrame) (q : Sequencer) :
    ∃ o n, frames.foldl (Sequencer.takeFrame network) q = { q with obs := o, stray := n } := by
  induction frames generalizing q with
  | nil => exact ⟨q.obs, q.stray, rfl⟩
  | cons f rest ih =>
    obtain ⟨o, n, first⟩ := Sequencer.takeFrame_frame network q f
    obtain ⟨o', n', others⟩ := ih (q.takeFrame network f)
    exact ⟨o', n', by rw [List.foldl_cons, others, first]⟩

/-- A settled port that has lost frames of its FIFO may begin a pull, and nothing else. -/
theorem RadioPort.goOn_fewerFrames {p : RadioPort} (settled : p.settled = true) (l : List RxFrame) :
    let q := ({ p with fifo := l } : RadioPort).unblock
    q.goOn = { p with fifo := l, blocked := p.blocked && !l.isEmpty, exchange := q.goOn.exchange, due := q.goOn.due } ∧
      (p.exchange ≠ none → q.goOn.exchange = p.exchange) := by
  intro q
  have made : q = { p with fifo := l, blocked := p.blocked && !l.isEmpty } := RadioPort.unblock_eq _
  have same : q.exchange = p.exchange := by rw [made]
  by_cases free : p.exchange = none
  · obtain ⟨due, _, clock⟩ := (p.settled_free free).1 settled
    refine ⟨?_, fun busy => absurd free busy⟩
    by_cases can : q.canPull = true
    · rw [RadioPort.goOn_pulls (same.trans free) (by rw [made, due]) can (by rw [made]; exact clock), made]
    · have idle : q.settled = true :=
        (q.settled_free (same.trans free)).2 ⟨by rw [made, due], by simpa using can, by rw [made]; exact clock⟩
      rw [q.goOn_settled idle, made]
  · have busy : q.exchange ≠ none := by rwa [same]
    obtain ⟨d, noted⟩ := q.notePull_due
    rw [q.goOn_busy busy, noted, made]
    exact ⟨rfl, fun _ => rfl⟩

/-! ### Steps 1 to 6 of a result (R52 to R56, R60) -/

section
variable (t : Settings) (done : Bool) (b : BeaconNo) (r : DueRecord) (res : ItemResult)

theorem DueRecord.hear_eq : ∃ y, r.hear t b res = { r with reply := y } := by
  cases res <;> exact ⟨_, rfl⟩

/-- The effect of a result does not depend on the last reply. -/
theorem resultEffect_reply (y : Option LastReply) :
    resultEffect t done { r with reply := y } res = { record := { (resultEffect t done r res).record with reply := y },
                                                      attempt := (resultEffect t done r res).attempt } := by
  cases res with
  | good z =>
    have kinds : r.kind = .deliver ∨ r.kind = .display ∨ r.kind = .poll := by cases r.kind <;> simp
    rcases kinds with kind | kind | kind
    · rw [resultEffect_good_of_deliver t done kind, resultEffect_good_of_deliver t done (by exact kind)]
      unfold deliverEffect
      dsimp only
      split_ifs <;> rfl
    · rw [resultEffect_good_of_display t done kind, resultEffect_good_of_display t done (by exact kind)]
      unfold displayEffect
      dsimp only
      split_ifs <;> rfl
    · rw [resultEffect_good_of_poll t done kind, resultEffect_good_of_poll t done (by exact kind)]
      unfold pollEffect
      dsimp only
      split_ifs <;> rfl
  | damaged | noReply | lostAtPort | notSent => rfl

end

theorem ItemResult.charged_iff (res : ItemResult) : res.charged = true ↔ res ≠ .lostAtPort ∧ res ≠ .notSent := by
  cases res <;> simp [ItemResult.charged]

section
variable {t : Settings} {res : ItemResult} {r : DueRecord}

theorem DueRecord.threshold_of_not (not : ¬(res.charged = true ∧ r.outcome = none)) : r.threshold t res = r :=
  if_neg (by simpa using not)

theorem DueRecord.threshold_of (charged : res.charged = true) (works : r.outcome = none) :
    r.threshold t res = if t.threshold < r.health then { r with outcome := some .unreachable }
      else if t.cap ≤ r.attempts then { r with outcome := some .gaveUp } else r :=
  if_pos (by simp [charged, works])

theorem DueRecord.threshold_keeps (t : Settings) (res : ItemResult) (r : DueRecord) :
    r.threshold t res = { r with outcome := (r.threshold t res).outcome } := by
  unfold DueRecord.threshold
  split_ifs <;> rfl

end

/-! ### The reply slot's end -/

section
variable {s : State} {c : CellId} {plan : Plan} {i : PlanItem} {r : DueRecord}

theorem State.itemResult_of_inAir (b : BeaconNo) (res : ItemResult) {index : Nat} (inList : s.recordIn c index = some r)
    (inAir : r.state = .inAir) :
    s.itemResult c index b res = s.settleResult c (r.afterResult s.settings (s.groupDone r.group) b res) := by
  simp only [State.itemResult, inList, inAir, or_true, if_true]

/-- The state in which the frames of the slot have been taken. -/
theorem State.takeSlotFrames_eq (s : State) (c : CellId) :
    s.takeSlotFrames c = s.withCells (s.takeSlotFrames c).seq (s.takeSlotFrames c).port := rfl

theorem State.takeSlotFrames_seqAt (s : State) (c d : CellId) : (s.takeSlotFrames c).seqAt d = if d = c then
    (slotFrames (s.portAt c).fifo).foldl (Sequencer.takeFrame s.settings.network) (s.seqAt c) else s.seqAt d :=
  s.modSeq_seqAt_eq c d fun q => (slotFrames (s.portAt c).fifo).foldl (Sequencer.takeFrame s.settings.network) q

theorem State.takeSlotFrames_portAt (s : State) (c d : CellId) : (s.takeSlotFrames c).portAt d = if d = c then
    ({ s.portAt c with fifo := (s.portAt c).fifo.drop (slotFrames (s.portAt c).fifo).length } : RadioPort).unblock
    else s.portAt d :=
  s.modPort_portAt_eq c d fun p => ({ p with fifo := p.fifo.drop (slotFrames (s.portAt c).fifo).length } : RadioPort).unblock

theorem State.replyEnd_of (inReply : (s.seqAt c).position = .inReply) (standing : (s.seqAt c).standing = some plan)
    (current : (s.seqAt c).currentItem = some i) :
    s.replyEnd c = (s.takeSlotFrames c).endItem c plan i ((s.takeSlotFrames c).seqAt c).obs.classify := by
  unfold State.replyEnd
  simp only [standing, current, inReply, if_true]

/-- The state in which the item has had its result, before the cell's link goes on. -/
theorem State.replyEnd_step (inReply : (s.seqAt c).position = .inReply) (standing : (s.seqAt c).standing = some plan)
    (current : (s.seqAt c).currentItem = some i) (inList : s.recordIn c i.index = some r) (inAir : r.state = .inAir) :
    let seen := (slotFrames (s.portAt c).fifo).foldl (Sequencer.takeFrame s.settings.network) (s.seqAt c)
    let u := s.settleResult c (r.afterResult s.settings (s.groupDone r.group) plan.beacon seen.obs.classify)
    let v := s.replyEnd c
    v = { u with seq := v.seq, store := cellPut s.store c ((s.storeAt c).filter fun x => !i.buffers.contains x.number),
                 port := (s.takeSlotFrames c).port } ∧
      (∀ d, d ≠ c → v.seqAt d = s.seqAt d) ∧
      v.seqAt c = { s.seqAt c with
        stray := seen.stray, position := .between, obs := noObservations,
        coming := (s.seqAt c).coming.map fun p => if p.beacon = plan.beacon then
          p.modItem ((s.seqAt c).upNext - 1) fun j => { j with status := .ended } else p,
        standing := some { plan with
          items := plan.items.modify ((s.seqAt c).upNext - 1) fun j => { j with status := .ended } } } := by
  intro seen u v
  obtain ⟨o, n, frames⟩ : ∃ o n, seen = { s.seqAt c with obs := o, stray := n } :=
    Sequencer.takeFrames_frame s.settings.network (slotFrames (s.portAt c).fifo) (s.seqAt c)
  have taken : (s.takeSlotFrames c).seqAt c = seen := (s.takeSlotFrames_seqAt c c).trans (if_pos rfl)
  have place : seen.upNext = (s.seqAt c).upNext := by rw [frames]
  have result : (s.takeSlotFrames c).itemResult c i.index plan.beacon seen.obs.classify =
      u.withCells (s.takeSlotFrames c).seq (s.takeSlotFrames c).port :=
    (State.itemResult_of_inAir (s := s.takeSlotFrames c) plan.beacon _ inList inAir).trans
      (s.settleResult_withCells (s.takeSlotFrames c).seq (s.takeSlotFrames c).port c _)
  obtain ⟨d, w, m, x, f, frame⟩ : ∃ d w m x f, u =
      { s with due := d, wb := w, drained := m, sweep := x, deferred := f } := s.settleResult_frame c _
  clear_value u
  let ends (j : PlanItem) : PlanItem := { j with status := .ended }
  let t := u.withCells (s.takeSlotFrames c).seq (s.takeSlotFrames c).port
  let closes (q : Sequencer) : Sequencer := { q with position := .between, obs := noObservations }
  have made : v = ((t.modItem c plan.beacon ((s.seqAt c).upNext - 1) ends).releaseBuffers c i.buffers).modSeq c closes := by
    refine (State.replyEnd_of inReply standing current).trans ?_
    unfold State.endItem
    rw [taken, place, result]
  have item : (t.modItem c plan.beacon ((s.seqAt c).upNext - 1) ends).seqAt c = _ :=
    t.modItem_seqAt c plan.beacon ((s.seqAt c).upNext - 1) ends
  have ofTaken : t.seqAt c = seen := taken
  have stands : (s.seqAt c).standing.map (fun p => if p.beacon = plan.beacon then p.modItem ((s.seqAt c).upNext - 1) ends else p) =
      some { plan with items := plan.items.modify ((s.seqAt c).upNext - 1) ends } := by
    rw [standing, Option.map_some, if_pos rfl]
    rfl
  refine ⟨?_, fun e other => ?_, ?_⟩
  · have store : (t.storeAt c).filter (fun x => !i.buffers.contains x.number) = (s.storeAt c).filter fun x =>
        !i.buffers.contains x.number := by
      change (u.storeAt c).filter _ = _
      rw [frame]
      rfl
    have storeOf : t.store = s.store := by
      change u.store = _
      rw [frame]
    rw [← storeOf, ← store, made]
    rfl
  · rw [made]
    refine (State.modSeq_seqAt_other _ c e closes other).trans ?_
    refine ((State.modItem_items t c plan.beacon ((s.seqAt c).upNext - 1) ends).others e other).trans ?_
    exact (s.takeSlotFrames_seqAt c e).trans (if_neg other)
  · rw [made]
    refine (State.modSeq_seqAt _ c closes).trans ?_
    change closes ((t.modItem c plan.beacon ((s.seqAt c).upNext - 1) ends).seqAt c) = _
    rw [item, ofTaken, frames, ← stands]

end

/-! ### The whole result, case by case -/

section
variable (t : Settings) (done : Bool) (b : BeaconNo) (r : DueRecord) (res : ItemResult)

/-- The next eligible beacon: after silence or damage one wake for each attempt, four at most; the very next wake otherwise. -/
theorem eligibleAfter_eq (k : BitVec 3) (attempts : Nat) : eligibleAfter b k attempts res =
    b + BitVec.ofNat 32 (2 ^ k.toNat * if res = .noReply ∨ res = .damaged then min attempts 4 else 1) := by
  cases res <;> simp [eligibleAfter]

theorem DueRecord.threshold_eq : r.threshold t res =
    if (res ≠ .lostAtPort ∧ res ≠ .notSent ∧ r.outcome = none) ∧ t.threshold < r.health then
      { r with outcome := some .unreachable }
    else if (res ≠ .lostAtPort ∧ res ≠ .notSent ∧ r.outcome = none) ∧ t.cap ≤ r.attempts then
      { r with outcome := some .gaveUp }
    else r := by
  by_cases checks : res ≠ .lostAtPort ∧ res ≠ .notSent ∧ r.outcome = none
  · obtain ⟨lost, sent, works⟩ := checks
    rw [DueRecord.threshold_of ((res.charged_iff).2 ⟨lost, sent⟩) works]
    simp only [lost, sent, works, ne_eq, not_false_eq_true, true_and, and_self]
  · rw [DueRecord.threshold_of_not, if_neg fun h => checks h.1, if_neg fun h => checks h.1]
    rintro ⟨charged, works⟩
    obtain ⟨lost, sent⟩ := (res.charged_iff).1 charged
    exact checks ⟨lost, sent, works⟩

/-- The record that steps 1 to 4 of R52 leave, of a record with neither outcome nor late-at-flip flag. -/
theorem DueRecord.judged_of_clear (noFlag : r.lateAtFlip = false) :
    r.judged t done b res = ((resultEffect t done (r.hear t b res) res).charge t res).threshold t res := by
  refine DueRecord.applyLate_of_clear _ ?_
  obtain ⟨y, heard⟩ := r.hear_eq t b res
  rw [DueRecord.threshold_keeps]
  obtain ⟨kept, -⟩ := resultEffect_actsOn t done (r.hear t b res) res
  change (resultEffect t done (r.hear t b res) res).record.lateAtFlip = false
  rw [kept, heard]
  exact noFlag

end

theorem DueRecord.threshold_reply (t : Settings) (res : ItemResult) (r : DueRecord) (y : Option LastReply) :
    ({ r with reply := y } : DueRecord).threshold t res = { r.threshold t res with reply := y } := by
  unfold DueRecord.threshold
  dsimp only
  split_ifs <;> rfl

/-- What a result leaves of such a record: the effect with its charges, the outcome of the threshold checks, and the last reply. -/
theorem DueRecord.afterResult_of_clear {r : DueRecord} (t : Settings) (done : Bool) (b : BeaconNo) (res : ItemResult)
    (noFlag : r.lateAtFlip = false) :
    let e := resultEffect t done r res
    ∃ x, r.afterResult t done b res = { (e.charge t res) with
      outcome := ((e.charge t res).threshold t res).outcome, reply := (r.hear t b res).reply, eligible := x } := by
  intro e
  have judged := r.judged_of_clear t done b res noFlag
  obtain ⟨y, heard⟩ := r.hear_eq t b res
  rw [heard, resultEffect_reply] at judged
  have same : r.judged t done b res = { (e.charge t res) with
      outcome := ((e.charge t res).threshold t res).outcome, reply := y } := by
    refine judged.trans (((e.charge t res).threshold_reply t res y).trans ?_)
    rw [DueRecord.threshold_keeps t res (e.charge t res)]
  rw [DueRecord.afterResult_eq_judged, same, heard]
  split_ifs
  · exact ⟨_, rfl⟩
  · exact ⟨(e.charge t res).eligible, rfl⟩

/-- Settles O33: the slot's end, the result's steps in their order, their outcome, and the classification. -/
theorem replySlotEnd : Obligations.ReplySlotEnd := by
  unfold Obligations.ReplySlotEnd
  refine ⟨fun s c plan i r settled inReply standing current inList inAir => ?slot, fun t done b r res => ?steps,
    fun t done b r res working clear => ?outcome, fun o => ?classified⟩
  case slot =>
    intro seen after fifo
    have event : exec (.replySlotEnd c) s = .next (s.replyEnd c).conclude := rfl
    obtain ⟨_, _, ports, _⟩ := s.settled_iff.1 settled
    obtain ⟨made, others, seq⟩ := State.replyEnd_step inReply standing current inList inAir
    have settles : s.settlesResult (s.settleResult c after) c after := s.settleResult_settles c after
    obtain ⟨u, isResult⟩ : ∃ u, u = s.settleResult c after := ⟨_, rfl⟩
    obtain ⟨d, w, m, x, f, frame⟩ : ∃ d w m x f, u = { s with due := d, wb := w, drained := m, sweep := x, deferred := f } := by
      rw [isResult]
      exact s.settleResult_frame c after
    have made : s.replyEnd c = { u with
        seq := (s.replyEnd c).seq, store := cellPut s.store c ((s.storeAt c).filter fun x => !i.buffers.contains x.number),
        port := (s.takeSlotFrames c).port } := by
      rw [isResult]
      exact made
    obtain ⟨v, isV⟩ : ∃ v, v = s.replyEnd c := ⟨_, rfl⟩
    rw [← isV] at made others seq event
    have port (e : CellId) : v.portAt e = (s.takeSlotFrames c).portAt e := by
      rw [made]
      rfl
    have step : s.CellStep v c := by
      refine ⟨?_, ?_, ?_, fun e other => (port e).trans ((s.takeSlotFrames_portAt c e).trans (if_neg other))⟩
      all_goals rw [made, frame]
    have ends : v.conclude = v.kick c :=
      step.conclude_kick settled (State.drainDue_of_window (c := c) (by rw [seq]; rfl))
    have link : (v.kick c).portAt c = _ :=
      step.kick_portAt.1.trans (congrArg RadioPort.goOn ((port c).trans ((s.takeSlotFrames_portAt c c).trans (if_pos rfl))))
    obtain ⟨begins, busy⟩ := RadioPort.goOn_fewerFrames (ports c) ((s.portAt c).fifo.drop (slotFrames (s.portAt c).fifo).length)
    have seqC : (v.kick c).seqAt c = _ := seq
    rw [ends] at event
    refine ⟨_, u, event, by rw [isResult]; exact settles, congrArg (fun w : State => { w with port := (v.kick c).port }) made,
      fun e other => ⟨others e other, step.kick_portAt.2 e other⟩, ?_, by rw [seqC], fun other => ?_, ?_, fun out => ?_⟩
    · rw [seqC]
      rfl
    · rw [seqC]
      cases coming : (s.seqAt c).coming with
      | none => rfl
      | some p => exact congrArg some (if_neg (other p coming))
    · rw [link]
      exact begins
    · rw [link]
      exact busy out
  case steps =>
    intro heard e charged checks checked judged wakes
    have isHeard : r.hear t b res = heard := by cases res <;> rfl
    have isCharged : e.charge t res = charged := by
      cases res <;> rfl
    have isJudged : r.judged t done b res = judged := by
      rw [DueRecord.judged, isHeard, DueRecord.threshold_eq, isCharged]
    rw [DueRecord.afterResult_eq_judged, isJudged, eligibleAfter_eq]
    simp only [Option.isNone_iff_eq_none]
    rfl
  case outcome =>
    intro e after charged
    obtain ⟨x, isAfter⟩ := DueRecord.afterResult_of_clear t done b res clear
    have isAfter : after = _ := isAfter
    obtain ⟨kept, _⟩ := resultEffect_actsOn t done r res
    have isAttempts : e.record.attempts = r.attempts := by rw [show e.record = _ from kept]
    have outcome : after.outcome = ((e.charge t res).threshold t res).outcome := by rw [isAfter]
    have health : after.health = (e.charge t res).health := by rw [isAfter]
    have attempts : after.attempts = (e.charge t res).attempts := by rw [isAfter]
    have reply : after.reply = (r.hear t b res).reply := by rw [isAfter]
    rw [outcome, health, attempts, reply]
    refine ⟨fun o given => ?_, fun works => ⟨fun ⟨lost, sent⟩ above => ?_, fun ⟨lost, sent⟩ below spent => ?_,
      fun ⟨lost, sent⟩ below left => ?_, fun free => ?_⟩, ?_, fun silent => ?_, fun free => ?_, fun y is => ?_, fun noReply => ?_⟩
    · rw [DueRecord.threshold_of_not (r := e.charge t res) fun h => ?_]
      · exact given
      · have none : e.record.outcome = none := h.2
        simp [given] at none
    · rw [DueRecord.threshold_of (r := e.charge t res) ((res.charged_iff).2 ⟨lost, sent⟩) works, if_pos above]
    · rw [DueRecord.threshold_of (r := e.charge t res) ((res.charged_iff).2 ⟨lost, sent⟩) works, if_neg (by omega), if_pos spent]
    · rw [DueRecord.threshold_of (r := e.charge t res) ((res.charged_iff).2 ⟨lost, sent⟩) works, if_neg (by omega), if_neg (by omega)]
      exact works
    · rw [DueRecord.threshold_of_not (r := e.charge t res) fun h => free ((res.charged_iff).1 h.1)]
      exact works
    · rw [Effect.charge_attempts, isAttempts]
    · rcases silent with is | is <;> simp only [e, is] <;> exact ⟨rfl, rfl⟩
    · have uncharged : res = .lostAtPort ∨ res = .notSent := by
        by_contra not
        push Not at not
        exact free not
      rcases uncharged with is | is <;> simp only [e, is] <;> exact ⟨rfl, rfl⟩
    · rw [is]
      rfl
    · cases res with
      | good y => exact absurd rfl (noReply y)
      | damaged | noReply | lostAtPort | notSent => rfl
  case classified =>
    unfold Observations.classify
    refine ⟨fun y good => by rw [good], fun none damaged => ?_, fun none sound overrun => ?_, fun none sound quiet => ?_⟩
    all_goals rw [none]
    · simp [damaged]
    · simp [sound, overrun]
    · simp [sound, quiet]

end Sys2Proof.Machine
end

section
/-! PROOFS. A plan point: the plans of the four cells, and the order of the fetch list (R70 to R72, R85, R91). -/

namespace Sys2Proof.Machine

/-! ### The fetch list's order (R91) -/

section
variable {b : BeaconNo} {e f : FetchElem} {l : List FetchElem}

/-- An element by cell, and within a cell by place in plan order. -/
def FetchElem.inOrder (x y : FetchElem) : Prop := x.cell < y.cell ∨ x.cell = y.cell ∧ x.place ≤ y.place

theorem FetchElem.ranksAhead_of_same (same : e.beacon = f.beacon) :
    e.ranksAhead f = true ↔ e.cell < f.cell ∨ e.cell = f.cell ∧ e.place < f.place := by
  unfold FetchElem.ranksAhead
  rw [if_pos same]
  by_cases cell : e.cell = f.cell
  · simp [cell]
  · simp [cell]

theorem FetchElem.inOrder_of_ranksAhead (same : e.beacon = f.beacon) (ahead : e.ranksAhead f = true) : e.inOrder f := by
  rcases (FetchElem.ranksAhead_of_same same).1 ahead with less | ⟨cell, place⟩
  · exact .inl less
  · exact .inr ⟨cell, place.le⟩

theorem FetchElem.inOrder_of_not (same : e.beacon = f.beacon) (not : e.ranksAhead f = false) : f.inOrder e := by
  rw [← Bool.not_eq_true, FetchElem.ranksAhead_of_same same] at not
  push Not at not
  obtain ⟨cells, places⟩ := not
  rcases cells.lt_or_eq with less | equal
  · exact .inl less
  · exact .inr ⟨equal, places equal.symm⟩

theorem FetchElem.not_ranksAhead_of_inOrder (same : e.beacon = f.beacon) (order : f.inOrder e) : e.ranksAhead f = false := by
  rw [← Bool.not_eq_true, FetchElem.ranksAhead_of_same same]
  rcases order with less | ⟨equal, places⟩
  · rintro (more | ⟨cell, _⟩)
    · exact absurd less (not_lt_of_gt more)
    · exact absurd cell.symm less.ne
  · rintro (more | ⟨_, place⟩)
    · exact absurd equal.symm more.ne
    · omega

theorem FetchElem.inOrder_trans {x y z : FetchElem} (h : x.inOrder y) (k : y.inOrder z) : x.inOrder z := by
  rcases h with less | ⟨cell, place⟩
  · rcases k with less' | ⟨cell', _⟩
    · exact .inl (less.trans less')
    · exact .inl (cell' ▸ less)
  · rcases k with less' | ⟨cell', place'⟩
    · exact .inl (cell ▸ less')
    · exact .inr ⟨cell.trans cell', place.trans place'⟩

/-- An element behind every beacon of the list. -/
theorem FetchElem.not_ranksAhead_of_later (later : (e.beacon - f.beacon).toNat < 2 ^ 31) (other : e.beacon ≠ f.beacon) :
    e.ranksAhead f = false := by
  unfold FetchElem.ranksAhead
  rw [if_neg other, ← Bool.not_eq_true, beforeBeacon_iff]
  omega

theorem mem_insertElem (x : FetchElem) : x ∈ insertElem e l ↔ x = e ∨ x ∈ l := by
  induction l with
  | nil => simp [insertElem]
  | cons f rest ih =>
    unfold insertElem
    split
    · simp
    · rw [List.mem_cons, ih, List.mem_cons]
      tauto

/-- An element that ranks ahead of none joins the tail. -/
theorem insertElem_of_last (last : ∀ f ∈ l, e.ranksAhead f = false) : insertElem e l = l ++ [e] := by
  induction l with
  | nil => rfl
  | cons f rest ih =>
    unfold insertElem
    rw [if_neg (by simp [last f (List.mem_cons_self ..)]), ih fun g mem => last g (List.mem_cons_of_mem _ mem)]
    rfl

/-- Among elements of one beacon an insertion keeps the order. -/
theorem insertElem_inOrder (beacons : ∀ x ∈ l, x.beacon = e.beacon) (order : l.Pairwise FetchElem.inOrder) :
    (insertElem e l).Pairwise FetchElem.inOrder := by
  induction l with
  | nil => simp [insertElem]
  | cons f rest ih =>
    obtain ⟨first, others⟩ := List.pairwise_cons.1 order
    have same : e.beacon = f.beacon := (beacons f (List.mem_cons_self ..)).symm
    unfold insertElem
    split
    · next ahead =>
      have before := FetchElem.inOrder_of_ranksAhead same ahead
      refine List.pairwise_cons.2 ⟨fun x mem => ?_, order⟩
      rcases List.mem_cons.1 mem with rfl | later
      · exact before
      · exact FetchElem.inOrder_trans before (first x later)
    · next not =>
      refine List.pairwise_cons.2 ⟨fun x mem => ?_, ih (fun x mem => beacons x (List.mem_cons_of_mem _ mem)) others⟩
      rcases (mem_insertElem x).1 mem with rfl | later
      · exact FetchElem.inOrder_of_not same (by simpa using not)
      · exact first x later

end

/-- Elements that join the fetch list one after the other. -/
def insertElems (l : List FetchElem) (es : List FetchElem) : List FetchElem := es.foldl (fun l e => insertElem e l) l

section
variable {b : BeaconNo} {l es : List FetchElem}

theorem mem_insertElems (x : FetchElem) : x ∈ insertElems l es ↔ x ∈ l ∨ x ∈ es := by
  induction es generalizing l with
  | nil => simp [insertElems]
  | cons e rest ih =>
    have first : insertElems l (e :: rest) = insertElems (insertElem e l) rest := rfl
    rw [first, ih, mem_insertElem, List.mem_cons]
    tauto

/-- Elements of beacon b, in their order, join behind earlier beacons and behind one another. -/
theorem insertElems_append (beacons : ∀ x ∈ es, x.beacon = b)
    (behind : ∀ f ∈ l, ∀ e ∈ es, e.ranksAhead f = false) (order : es.Pairwise FetchElem.inOrder) :
    insertElems l es = l ++ es := by
  induction es generalizing l with
  | nil => simp [insertElems]
  | cons e rest ih =>
    obtain ⟨first, others⟩ := List.pairwise_cons.1 order
    have joined : insertElem e l = l ++ [e] := insertElem_of_last fun f mem => behind f mem e (List.mem_cons_self ..)
    have tail : insertElems l (e :: rest) = insertElems (insertElem e l) rest := rfl
    rw [tail, joined, ih (fun x mem => beacons x (List.mem_cons_of_mem _ mem)) (fun f mem x later => ?_) others]
    · simp
    · rcases List.mem_append.1 mem with old | new
      · exact behind f old x (List.mem_cons_of_mem _ later)
      · obtain rfl := List.mem_singleton.1 new
        refine FetchElem.not_ranksAhead_of_inOrder ?_ (first x later)
        rw [beacons x (List.mem_cons_of_mem _ later), beacons f (List.mem_cons_self ..)]

theorem insertElems_inOrder (beacons : ∀ x ∈ l, x.beacon = b) (fresh : ∀ x ∈ es, x.beacon = b)
    (order : l.Pairwise FetchElem.inOrder) : (insertElems l es).Pairwise FetchElem.inOrder := by
  induction es generalizing l with
  | nil => exact order
  | cons e rest ih =>
    have isB := fresh e (List.mem_cons_self ..)
    refine ih (l := insertElem e l) (fun x mem => ?_) (fun x mem => fresh x (List.mem_cons_of_mem _ mem)) ?_
    · rcases (mem_insertElem x).1 mem with rfl | old
      · exact isB
      · exact beacons x old
    · exact insertElem_inOrder (fun x mem => (beacons x mem).trans isB.symm) order

end

/-! ### The elements of a plan -/

theorem mem_planElems (plan : Plan) (l : List DueRecord) (x : FetchElem) : x ∈ planElems plan l ↔
    ∃ place i r, plan.items[place]? = some i ∧ i.kind = .deliver ∧ l.find? (fun q => q.index == i.index) = some r ∧
      x = fetchElemOf plan.cell plan.beacon place i r := by
  unfold planElems
  rw [List.mem_filterMap]
  constructor
  · rintro ⟨⟨i, place⟩, mem, made⟩
    obtain ⟨k, at_k⟩ := List.mem_iff_getElem?.1 mem
    obtain ⟨item, number⟩ := List.getElem?_zip_eq_some.1 at_k
    obtain ⟨inRange, rfl⟩ : k < plan.items.length ∧ k = place := by
      obtain ⟨h, is⟩ := List.getElem?_eq_some_iff.1 number
      exact ⟨by simpa using h, by simpa using is⟩
    dsimp only at made
    split at made
    · next kind =>
      obtain ⟨r, found, rfl⟩ := Option.map_eq_some_iff.1 made
      exact ⟨k, i, r, item, kind, found, rfl⟩
    · cases made
  · rintro ⟨place, i, r, item, kind, found, rfl⟩
    obtain ⟨inRange, _⟩ := List.getElem?_eq_some_iff.1 item
    refine ⟨(i, place), List.mem_iff_getElem?.2 ⟨place, List.getElem?_zip_eq_some.2 ⟨item, by simp [inRange]⟩⟩, ?_⟩
    simp [kind, found]

theorem planElems_beacon {plan : Plan} {l : List DueRecord} {x : FetchElem} (mem : x ∈ planElems plan l) :
    x.beacon = plan.beacon ∧ x.cell = plan.cell := by
  obtain ⟨place, i, r, _, _, _, rfl⟩ := (mem_planElems plan l x).1 mem
  exact ⟨rfl, rfl⟩

theorem planElems_inOrder (plan : Plan) (l : List DueRecord) : (planElems plan l).Pairwise FetchElem.inOrder := by
  unfold planElems
  rw [List.pairwise_filterMap]
  have places : (plan.items.zip (List.range plan.items.length)).Pairwise fun p q => p.2 < q.2 := by
    rw [← List.pairwise_map (f := Prod.snd) (R := (· < ·)), List.map_snd_zip (by simp)]
    exact List.pairwise_lt_range
  refine places.imp fun {p q} less x made y made' => ?_
  split at made
  · obtain ⟨r, _, rfl⟩ := Option.map_eq_some_iff.1 made
    split at made'
    · obtain ⟨r', _, rfl⟩ := Option.map_eq_some_iff.1 made'
      exact .inr ⟨rfl, less.le⟩
    · cases made'
  · cases made

/-! ### The plans of the four cells (R70 to R72, R97) -/

section
variable (s : State) (b : BeaconNo) (c : CellId)

/-- The plan a cell gets: by selection for an ACTIVE cell while the controller is RUNNING, and otherwise the empty plan. -/
def State.pointPlan : Plan :=
  if s.cmd.controller = .running ∧ (s.portAt c).state = .active then makePlan s.settings c b (s.dueAt c) (s.storeAt c)
  else emptyPlan c b

theorem State.pointPlan_beacon : (s.pointPlan b c).beacon = b ∧ (s.pointPlan b c).cell = c := by
  unfold State.pointPlan
  split <;> exact ⟨rfl, rfl⟩

/-- The empty plan changes neither records nor buffers, and has nothing to fetch. -/
theorem emptyPlan_hands (l : List DueRecord) : planRecords (emptyPlan c b) l = l ∧
    (emptyPlan c b).items.flatMap PlanItem.claimed = [] ∧ planElems (emptyPlan c b) l = [] := by
  refine ⟨(List.map_congr_left fun r _ => ?_).trans (List.map_id l), rfl, rfl⟩
  exact if_neg (by simp [emptyPlan])

theorem State.planCell_eq : State.planCell b s c = s.handPlan c (s.pointPlan b c) := by
  unfold State.planCell State.pointPlan
  split
  · rfl
  · obtain ⟨records, claimed, elems⟩ := emptyPlan_hands b c (s.dueAt c)
    unfold State.handPlan State.modDue State.modStore
    rw [records, claimed, elems]
    simp only [List.append_nil, State.dueAt, State.storeAt, cellPut_cellAt]
    rfl

/-- The cell's part of a plan point. -/
theorem State.handPlan_hands (plan : Plan) :
    let t := s.handPlan c plan
    t = { s with due := t.due, seq := t.seq, store := t.store,
                 fetch := { s.fetch with list := insertElems s.fetch.list (planElems plan (s.dueAt c)) } } ∧
      t.seqAt c = { s.seqAt c with coming := some plan } ∧ t.dueAt c = planRecords plan (s.dueAt c) ∧
      t.storeAt c = s.storeAt c ++ plan.items.flatMap PlanItem.claimed ∧
      ∀ d, d ≠ c → t.seqAt d = s.seqAt d ∧ t.dueAt d = s.dueAt d ∧ t.storeAt d = s.storeAt d :=
  ⟨rfl, cellAt_cellPut_same .., cellAt_cellPut_same .., cellAt_cellPut_same .., fun _ other =>
    ⟨cellAt_cellPut_other _ _ _ _ other, cellAt_cellPut_other _ _ _ _ other, cellAt_cellPut_other _ _ _ _ other⟩⟩

end

/-- The plans of several cells, each by what it finds in the state before. -/
theorem State.planCells_hand (b : BeaconNo) (cs : List CellId) (distinct : cs.Nodup) (s : State) :
    let t := cs.foldl (State.planCell b) s
    t = { s with due := t.due, seq := t.seq, store := t.store, fetch := { s.fetch with
        list := insertElems s.fetch.list (cs.flatMap fun c => planElems (s.pointPlan b c) (s.dueAt c)) } } ∧
      (∀ c ∈ cs, t.seqAt c = { s.seqAt c with coming := some (s.pointPlan b c) } ∧
        t.dueAt c = planRecords (s.pointPlan b c) (s.dueAt c) ∧
        t.storeAt c = s.storeAt c ++ (s.pointPlan b c).items.flatMap PlanItem.claimed) ∧
      ∀ c, c ∉ cs → t.seqAt c = s.seqAt c ∧ t.dueAt c = s.dueAt c ∧ t.storeAt c = s.storeAt c := by
  induction cs generalizing s with
  | nil => exact ⟨rfl, nofun, fun _ _ => ⟨rfl, rfl, rfl⟩⟩
  | cons c rest ih =>
    obtain ⟨notLater, distinct⟩ := List.nodup_cons.1 distinct
    obtain ⟨frame, seq, due, store, others⟩ := s.handPlan_hands c (s.pointPlan b c)
    rw [← State.planCell_eq] at frame seq due store others
    obtain ⟨frame', cells, same⟩ := ih distinct (State.planCell b s c)
    have unread (d : CellId) (mem : d ∈ rest) : (State.planCell b s c).pointPlan b d = s.pointPlan b d ∧
        (State.planCell b s c).dueAt d = s.dueAt d := by
      have other : d ≠ c := fun h => notLater (h ▸ mem)
      obtain ⟨_, dueOther, storeOther⟩ := others d other
      refine ⟨?_, dueOther⟩
      unfold State.pointPlan
      rw [dueOther, storeOther, frame]
      rfl
    have elems : (rest.flatMap fun d => planElems ((State.planCell b s c).pointPlan b d) ((State.planCell b s c).dueAt d)) =
        rest.flatMap fun d => planElems (s.pointPlan b d) (s.dueAt d) :=
      List.flatMap_congr fun d mem => by rw [(unread d mem).1, (unread d mem).2]
    intro t
    have made : t = rest.foldl (State.planCell b) (State.planCell b s c) := rfl
    rw [← made] at frame' cells same
    refine ⟨?_, fun d mem => ?_, fun d not => ?_⟩
    · rw [frame', elems, frame]
      simp only [List.flatMap_cons, insertElems, List.foldl_append]
    · rcases List.mem_cons.1 mem with rfl | later
      · obtain ⟨seqSame, dueSame, storeSame⟩ := same d notLater
        exact ⟨seqSame.trans seq, dueSame.trans due, storeSame.trans store⟩
      · obtain ⟨seqD, dueD, storeD⟩ := cells d later
        obtain ⟨seqOther, dueOther, storeOther⟩ := others d fun h => notLater (h ▸ later)
        rw [seqD, dueD, storeD, (unread d later).1, seqOther, dueOther, storeOther]
        exact ⟨rfl, rfl, rfl⟩
    · obtain ⟨notHead, notRest⟩ := not_or.1 fun h => not (List.mem_cons.2 h)
      obtain ⟨seqSame, dueSame, storeSame⟩ := same d notRest
      obtain ⟨seqOther, dueOther, storeOther⟩ := others d notHead
      exact ⟨seqSame.trans seqOther, dueSame.trans dueOther, storeSame.trans storeOther⟩

/-- Settles O28: the four plans, the elements that join the fetch list, and the elements of a plan. -/
theorem planPoint : Obligations.PlanPoint := by
  unfold Obligations.PlanPoint
  refine ⟨fun s e point scheduled awaited => ?_, fun plan l x => mem_planElems plan l x⟩
  intro b
  have event : exec .planPoint s = .next s.takePlanPoint := by
    have due : s.planDue = true := by
      unfold State.planDue
      rw [scheduled]
      exact Option.isSome_iff_exists.2 ⟨point, awaited⟩
    exact congrArg Host.Outcome.next (if_pos due)
  obtain ⟨frame, cells, -⟩ := State.planCells_hand b allCells (by decide) s
  obtain ⟨v, isV⟩ : ∃ v, v = allCells.foldl (State.planCell b) s := ⟨_, rfl⟩
  rw [← isV] at frame cells
  have made : s.takePlanPoint = { v with timer := { s.timer with schedule := some { e with nextPlan := none } } } := by
    have last : s.takePlanPoint = v.setTimer { v.timer with
        schedule := v.timer.schedule.map fun e => { e with nextPlan := none } } := by
      rw [isV]
      rfl
    have timer : v.timer = s.timer := by rw [frame]
    rw [last, timer, scheduled]
    rfl
  have list : v.fetch.list = insertElems s.fetch.list (allCells.flatMap fun c => planElems (s.pointPlan b c) (s.dueAt c)) := by
    rw [frame]
  have fresh : (∀ x ∈ allCells.flatMap fun c => planElems (s.pointPlan b c) (s.dueAt c), x.beacon = b) := fun x mem => by
    obtain ⟨c, _, inPlan⟩ := List.mem_flatMap.1 mem
    exact (planElems_beacon inPlan).1.trans (s.pointPlan_beacon b c).1
  have joined : (allCells.flatMap fun c => planElems (s.pointPlan b c) (s.dueAt c)) =
      [0, 1, 2, 3].flatMap fun c : CellId => if s.cmd.controller = .running ∧ (s.portAt c).state = .active then
        planElems (makePlan s.settings c b (s.dueAt c) (s.storeAt c)) (s.dueAt c) else [] := by
    refine List.flatMap_congr (l := allCells) fun c _ => ?_
    unfold State.pointPlan
    split
    · rfl
    · exact (emptyPlan_hands b c _).2.2
  rw [made] at event
  refine ⟨_, event, ?_, fun x mem => ?_, fun earlier => ?_, fun beacons order => ?_, fun c => ⟨fun running active => ?_, fun not => ?_⟩⟩
  · rw [frame]
  · change x ∈ v.fetch.list
    rw [list]
    exact (mem_insertElems x).2 (.inl mem)
  · change v.fetch.list = _
    rw [list, ← joined]
    refine insertElems_append fresh (fun f mem x new => ?_) (List.pairwise_flatMap.2 ⟨fun c _ => planElems_inOrder _ _, ?_⟩)
    · obtain ⟨later, other⟩ := earlier f mem
      have isB := fresh x new
      exact FetchElem.not_ranksAhead_of_later (by rw [isB]; exact later) (by rw [isB]; exact other.symm)
    · have ascending : allCells.Pairwise (· < ·) := by decide
      refine ascending.imp fun {c d} less x mem y mem' => .inl ?_
      rw [(planElems_beacon mem).2, (planElems_beacon mem').2, (s.pointPlan_beacon b c).2, (s.pointPlan_beacon b d).2]
      exact less
  · change v.fetch.list.Pairwise FetchElem.inOrder
    rw [list]
    exact insertElems_inOrder beacons fresh order
  · obtain ⟨seq, due, store⟩ := cells c (mem_allCells c)
    have plan : s.pointPlan b c = makePlan s.settings c b (s.dueAt c) (s.storeAt c) := if_pos ⟨running, active⟩
    rw [plan] at seq due store
    refine ⟨seq, due, store, fun x mem => ?_⟩
    change x ∈ v.fetch.list
    rw [list]
    exact (mem_insertElems x).2 (.inr (List.mem_flatMap.2 ⟨c, mem_allCells c, by rw [plan]; exact mem⟩))
  · obtain ⟨seq, due, store⟩ := cells c (mem_allCells c)
    have plan : s.pointPlan b c = emptyPlan c b := if_neg fun h => not.elim (fun r => r h.1) fun a => a h.2
    obtain ⟨records, claimed, _⟩ := emptyPlan_hands b c (s.dueAt c)
    rw [plan] at seq due store
    exact ⟨seq, due.trans records, store.trans (by rw [claimed, List.append_nil])⟩

end Sys2Proof.Machine
end

section
/-! PROOFS. Write-backs step by step, and what the removal of a record brings (R8, R64, R168). -/

namespace Sys2Proof.Machine

/-! ### The entry in hand stays -/

section
variable (s : State)

theorem State.rescanRetirement_sweep : s.rescanRetirement.sweep = s.sweep := s.rescanRetirement_retires.2.2.1

/-- A rescan request leaves the entry in hand. -/
theorem State.rescanRequest_hand : s.rescanRequest.sweep.hand = s.sweep.hand := by
  unfold State.rescanRequest
  split
  · rfl
  · split
    · rfl
    · split
      · rw [State.rescanRetirement_sweep]; rfl
      · split
        · rw [State.rescanRetirement_sweep]; rfl
        · split <;> (rw [State.rescanRetirement_sweep]; rfl)

theorem State.rescanRequest_stays : s.Stays s.rescanRequest := by
  obtain ⟨x, d, w, n, f, frame⟩ := s.rescanRequest_frame
  rw [frame]
  exact ⟨rfl, rfl, rfl, rfl⟩

theorem State.joinReread_hand (index : Nat) : (s.joinReread index).sweep.hand = s.sweep.hand := by
  unfold State.joinReread
  split
  · exact s.rescanRequest_hand
  · split <;> rfl

theorem State.joinReread_stays (index : Nat) : s.Stays (s.joinReread index) := by
  obtain ⟨x, d, w, n, f, frame⟩ := s.joinReread_frame index
  rw [frame]
  exact ⟨rfl, rfl, rfl, rfl⟩

end

/-! ### The removal of a record (R37, R64, R137) -/

/-- The record has left its due list and the head of the write-back list. -/
def State.withoutRecord (s : State) (c : CellId) (r : DueRecord) : State :=
  { s with due := cellPut s.due c ((s.dueAt c).filter fun q => q.index != r.index),
           wb := { list := s.wb.list.tail, phase := .idle } }

section
variable {s : State} {c : CellId} {r : DueRecord}

theorem State.removeRecord_eq (s : State) (c : CellId) (r : DueRecord) : s.removeRecord c r =
    (((s.withoutRecord c r).refillAfterRemoval c).rereadAfterRemoval r).resumeVisit r.index := rfl

theorem State.refillAfterRemoval_refills (u : State) (c : CellId) :
    (u.nightOn = true ∧ u.sweep.anyLive = false ∧ cellAt u.deferred c = true ∧ (u.dueAt c).length ≤ 768 →
      u.refillAfterRemoval c = u.refilling) ∧
    (¬(u.nightOn = true ∧ u.sweep.anyLive = false ∧ cellAt u.deferred c = true ∧ (u.dueAt c).length ≤ 768) →
      u.refillAfterRemoval c = u) := by
  have wants : u.wantsRefill c = true ↔ cellAt u.deferred c = true ∧ (u.dueAt c).length ≤ 768 := by
    rw [State.wantsRefill, Bool.and_eq_true, decide_eq_true_eq]
    rfl
  have begins : (u.nightOn && !u.sweep.anyLive) = true ↔ u.nightOn = true ∧ u.sweep.anyLive = false := by simp
  unfold State.refillAfterRemoval State.refillRequest
  refine ⟨fun ⟨on, idle, flag, room⟩ => ?_, fun not => ?_⟩
  · rw [if_pos (wants.2 ⟨flag, room⟩), if_pos (begins.2 ⟨on, idle⟩)]
    rfl
  · by_cases cause : u.wantsRefill c = true
    · obtain ⟨flag, room⟩ := wants.1 cause
      rw [if_pos cause, if_neg fun h => not ⟨(begins.1 h).1, (begins.1 h).2, flag, room⟩]
    · rw [if_neg cause]

theorem State.refillAfterRemoval_keeps (u : State) (c : CellId) : u.Stays (u.refillAfterRemoval c) ∧
    (u.refillAfterRemoval c).sweep.hand = u.sweep.hand ∧ (u.refillAfterRemoval c).settings = u.settings ∧
    (u.refillAfterRemoval c).nightOn = u.nightOn := by
  obtain ⟨begins, idle⟩ := u.refillAfterRemoval_refills c
  by_cases asks : u.nightOn = true ∧ u.sweep.anyLive = false ∧ cellAt u.deferred c = true ∧ (u.dueAt c).length ≤ 768
  · rw [begins asks]
    exact ⟨⟨rfl, rfl, rfl, rfl⟩, rfl, rfl, rfl⟩
  · rw [idle asks]
    exact ⟨.refl u, rfl, rfl, rfl⟩

theorem State.rereadAfterRemoval_of (u : State) (rereads : r.reEvaluate = true ∧ u.nightOn = true) :
    u.rereadAfterRemoval r = u.joinReread r.index :=
  if_pos (by simp [rereads.1, rereads.2])

theorem State.rereadAfterRemoval_of_not (u : State) (not : ¬(r.reEvaluate = true ∧ u.nightOn = true)) :
    u.rereadAfterRemoval r = u :=
  if_neg (by simpa using not)

theorem State.rereadAfterRemoval_keeps (u : State) (r : DueRecord) : u.Stays (u.rereadAfterRemoval r) ∧
    (u.rereadAfterRemoval r).sweep.hand = u.sweep.hand ∧ (u.rereadAfterRemoval r).settings = u.settings := by
  by_cases rereads : r.reEvaluate = true ∧ u.nightOn = true
  · rw [u.rereadAfterRemoval_of rereads]
    obtain ⟨x, d, w, n, f, frame⟩ := u.joinReread_frame r.index
    exact ⟨u.joinReread_stays _, u.joinReread_hand _, by rw [frame]⟩
  · rw [u.rereadAfterRemoval_of_not rereads]
    exact ⟨.refl u, rfl, rfl⟩

theorem State.resumeVisit_of {v : State} {h : InHand} (hand : v.sweep.hand = some h) (index : h.index = r.index)
    (waits : h.phase = .awaitingRemoval) :
    v.resumeVisit r.index = (v.setPhase .reading).offer .entry (.read (entryAddress v.settings r.index) 8) := by
  simp only [State.resumeVisit, hand, index, waits, and_self, if_true]

theorem State.resumeVisit_of_not {v : State}
    (not : ∀ h, v.sweep.hand = some h → h.index = r.index → h.phase ≠ .awaitingRemoval) : v.resumeVisit r.index = v := by
  unfold State.resumeVisit
  split
  · rfl
  · next h hand => exact if_neg fun both => not h hand both.1 both.2

end

/-! ### The steps of a write-back (R168) -/

section
variable {s : State} {c : CellId} {r : DueRecord} {o : EntryState}

theorem State.list_of_headRecord (head : s.headRecord = some (c, r, o)) : s.wb.list ≠ [] := by
  intro empty
  simp [State.headRecord, empty] at head

theorem State.drainDue_of_list {u : State} (list : u.wb.list ≠ []) : u.drainDue = false := by
  rw [← Bool.not_eq_true, State.drainDue_iff]
  rintro ⟨_, _, _, empty, _⟩
  exact list empty

/-- A step of the head item that asks for a transfer. -/
theorem State.conclude_writeBack (settled : s.settled = true) (head : s.headRecord = some (c, r, o)) (phase : WriteBackPhase)
    (a : Action) :
    let t := ((s.setWbPhase phase).offer .writeBack a).conclude
    t = { s with wb := { s.wb with phase := phase }, bus := t.bus } ∧ t.bus.asked .writeBack a := by
  have stays : s.Stays (s.setWbPhase phase) := ⟨rfl, rfl, rfl, rfl⟩
  exact stays.conclude_offer settled (State.drainDue_of_list (State.list_of_headRecord head)) .writeBack a

theorem EntryState.final_iff (o : EntryState) : o.final = true ↔ o ≠ .queued ∧ o ≠ .deferred := by
  rw [EntryState.final, Bool.and_eq_true, decide_eq_true_eq, decide_eq_true_eq]

theorem exec_writeBackStart_of (idle : s.wb.phase = .idle) (head : s.headRecord = some (c, r, o))
    (free : s.sweepWrites r.index = false) :
    exec .writeBackStart s = .next ((s.setWbPhase .partHalf).offer .writeBack
      (.write (partHalfAddress s.settings r.index) (partHalfWords (r.writeBack s.settings o)))).conclude := by
  have event : exec .writeBackStart s = .next s.beginWriteBack.conclude := rfl
  rw [event]
  simp only [State.beginWriteBack, idle, head, free, Bool.false_eq_true, if_false]

theorem State.beginWriteBack_of_writes (head : s.headRecord = some (c, r, o)) (writes : s.sweepWrites r.index = true) :
    s.beginWriteBack = s := by
  unfold State.beginWriteBack
  split
  · next d q x phase head' =>
    obtain ⟨rfl, rfl, rfl⟩ : d = c ∧ q = r ∧ x = o := by simpa [head, eq_comm] using head'
    exact if_pos writes
  · rfl

theorem exec_writeBackPartHalfWritten_of (phase : s.wb.phase = .partHalfWritten) (head : s.headRecord = some (c, r, o)) :
    exec .writeBackPartHalfWritten s = .next (if o.final = true then
      (s.setWbPhase .entryMark).offer .writeBack (entryMarkPair s.settings r.index) else s.removeRecord c r).conclude := by
  have event : exec .writeBackPartHalfWritten s = .next s.partHalfDone.conclude := rfl
  rw [event]
  simp only [State.partHalfDone, phase, head]

theorem exec_writeBackMarkSet_of_entry (phase : s.wb.phase = .entryMarked) (head : s.headRecord = some (c, r, o)) :
    exec .writeBackMarkSet s =
      .next ((s.setWbPhase .groupMark).offer .writeBack (groupMarkPair s.settings r.index)).conclude := by
  have event : exec .writeBackMarkSet s = .next s.markDone.conclude := rfl
  rw [event]
  simp only [State.markDone, phase, head]

theorem exec_writeBackMarkSet_of_group (phase : s.wb.phase = .groupMarked) (head : s.headRecord = some (c, r, o)) :
    exec .writeBackMarkSet s = .next ((s.report o).removeRecord c r).conclude := by
  have event : exec .writeBackMarkSet s = .next s.markDone.conclude := rfl
  rw [event]
  simp only [State.markDone, phase, head]

/-- What the removal of the head record brings (R37, R64, R137), `left` being the state without it. -/
theorem State.removal_brings {s' left : State} (step : s.Stays s') (settled : s.settled = true)
    (isLeft : s'.withoutRecord c r = left) (sweep : s'.sweep = s.sweep) (night : s'.nightOn = s.nightOn)
    (deferred : s'.deferred = s.deferred) (settings : s'.settings = s.settings) :
    let t := (s'.removeRecord c r).conclude
    let u := left.refillAfterRemoval c
    let v := u.rereadAfterRemoval r
    let asks := s.nightOn = true ∧ s.sweep.anyLive = false ∧ cellAt s.deferred c = true ∧ (left.dueAt c).length ≤ 768
    let rereads := r.reEvaluate = true ∧ s.nightOn = true
    (asks → u = left.refilling) ∧ (¬asks → u = left) ∧ (¬rereads → v = u) ∧ (rereads → u.handsOn v r.index ∧ u.nightOn = true) ∧
    (∀ h, s.sweep.hand = some h → h.index = r.index → h.phase = .awaitingRemoval →
      t = { v with sweep := { v.sweep with hand := some { h with phase := .reading } }, bus := t.bus } ∧
      t.bus.asked .entry (.read (s.settings.directoryBase.toNat + 32 * r.index) 8)) ∧
    ((∀ h, s.sweep.hand = some h → h.index = r.index → h.phase ≠ .awaitingRemoval) → v.drainedInto t) := by
  intro t u v asks rereads
  have made : t = (v.resumeVisit r.index).conclude := by
    subst isLeft
    rfl
  have leftNight : left.nightOn = s.nightOn := by
    subst isLeft
    exact night
  have leftSweep : left.sweep = s.sweep := by
    subst isLeft
    exact sweep
  have leftDeferred : left.deferred = s.deferred := by
    subst isLeft
    exact deferred
  have leftSettings : left.settings = s.settings := by
    subst isLeft
    exact settings
  have leftStays : s.Stays left := by
    subst isLeft
    exact ⟨step.inProgress, step.waiting, step.port, step.bus⟩
  obtain ⟨uStays, uHand, uSettings, uNight⟩ := left.refillAfterRemoval_keeps c
  obtain ⟨vStays, vHand, vSettings⟩ := u.rereadAfterRemoval_keeps r
  obtain ⟨refills, idles⟩ := left.refillAfterRemoval_refills c
  rw [leftNight, leftSweep, leftDeferred] at refills idles
  have kept : s.Stays v := (leftStays.trans uStays).trans vStays
  have hand : v.sweep.hand = s.sweep.hand := (vHand.trans uHand).trans (congrArg Sweep.hand leftSweep)
  refine ⟨refills, idles, fun not => ?_, fun reads => ?_, fun h held index waits => ?_, fun not => ?_⟩
  · exact u.rereadAfterRemoval_of_not fun both => not ⟨both.1, (uNight.trans leftNight) ▸ both.2⟩
  · have on : u.nightOn = true := (uNight.trans leftNight).trans reads.2
    have joined : v = u.joinReread r.index := u.rereadAfterRemoval_of ⟨reads.1, on⟩
    exact ⟨joined ▸ u.joinReread_handsOn r.index, on⟩
  · have inHand := hand.trans held
    have address : entryAddress v.settings r.index = s.settings.directoryBase.toNat + 32 * r.index := by
      rw [vSettings.trans (uSettings.trans leftSettings)]
      rfl
    rw [made, State.resumeVisit_of inHand index waits, ← address]
    exact kept.conclude_step settled inHand _ _
  · rw [made, State.resumeVisit_of_not fun h inHand => not h (hand.symm.trans inHand)]
    exact kept.conclude_drains settled

end

theorem groupMarkPair_eq (t : Settings) (index : Nat) :
    groupMarkPair t index = .pair (t.groupMarkBase.toNat + 4 * (index / 1024)) (index / 32 % 32) := by
  rw [groupMarkPair, Nat.div_div_eq_div_mul]

/-- Settles O51: each step asks for its transfer, and the last removes the record. -/
theorem writeBackSteps : Obligations.WriteBackSteps := by
  unfold Obligations.WriteBackSteps
  intro s c r o settled head removed base
  have stays : s.Stays s := .refl s
  obtain ⟨_, _, ports, bus⟩ := s.settled_iff.1 settled
  have removes (s' : State) (step : s.Stays s') (sweep : s'.sweep = s.sweep) (due : s'.due = s.due) (wb : s'.wb = s.wb)
      (night : s'.nightOn = s.nightOn) (deferred : s'.deferred = s.deferred) (settings : s'.settings = s.settings) :
      removed s' (s'.removeRecord c r).conclude := by
    have isLeft : s'.withoutRecord c r = { s' with
        due := cellPut s.due c ((s.dueAt c).filter fun q => q.index != r.index),
        wb := { list := s.wb.list.tail, phase := .idle } } := by
      rw [State.withoutRecord, State.dueAt, due, wb]
      rfl
    obtain ⟨refills, idles, passes, rereads, visits, drains⟩ := State.removal_brings step settled isLeft sweep night deferred settings
    refine ⟨_, _, refills, idles, passes, fun reads room => ?_, fun reads full => ?_, visits, drains⟩
    · obtain ⟨⟨joins, _, _⟩, _⟩ := rereads reads
      exact joins room
    · obtain ⟨⟨_, _, rescans⟩, on⟩ := rereads reads
      exact rescans full on
  refine ⟨fun idle free => ?_, fun writes => ?_, fun phase notQueued notDeferred => ?_, fun phase silent => ?_, fun phase => ?_,
    fun phase => ?_, fun silent => ?_, fun y heard => ?_⟩
  · exact ⟨_, exec_writeBackStart_of idle head free, State.conclude_writeBack settled head _ _⟩
  · have event : exec .writeBackStart s = .next s.beginWriteBack.conclude := rfl
    rw [event, State.beginWriteBack_of_writes head writes, State.conclude_settled s settled]
  · rw [exec_writeBackPartHalfWritten_of phase head, if_pos ((o.final_iff).2 ⟨notQueued, notDeferred⟩)]
    exact ⟨_, rfl, State.conclude_writeBack settled head _ _⟩
  · rw [exec_writeBackPartHalfWritten_of phase head, if_neg fun final => by
      obtain ⟨notQueued, notDeferred⟩ := (o.final_iff).1 final
      exact silent.elim notQueued notDeferred]
    exact ⟨_, rfl, removes s stays rfl rfl rfl rfl rfl rfl⟩
  · rw [exec_writeBackMarkSet_of_entry phase head, groupMarkPair_eq]
    exact ⟨_, rfl, State.conclude_writeBack settled head _ _⟩
  · rw [exec_writeBackMarkSet_of_group phase head]
    exact ⟨_, rfl, removes (s.report o) ⟨rfl, rfl, rfl, rfl⟩ rfl rfl rfl rfl rfl rfl⟩
  · unfold DueRecord.writeBack
    rw [silent]
  · unfold DueRecord.writeBack
    rw [heard]
    rfl

end Sys2Proof.Machine
end

section
/-! PROOFS. Fetches step by step: the runs and bursts of a fetch, its bytes, its header and its ends (R89 to R101). -/

namespace Sys2Proof.Machine

/-! ### Runs and bursts (R94) -/

/-- The first run of a list begins with its first segment. -/
theorem segmentRuns_cons (a : Nat) (l : List Nat) : ∃ n more, segmentRuns (a :: l) = (a, n) :: more := by
  unfold segmentRuns
  split
  · split
    · exact ⟨_, _, rfl⟩
    · exact ⟨_, _, rfl⟩
  · exact ⟨_, _, rfl⟩

/-- Consecutive segments that nothing continues are one run. -/
theorem segmentRuns_range' (first count : Nat) (rest : List Nat) (ends : ∀ next more, rest = next :: more → next ≠ first + (count + 1)) :
    segmentRuns (List.range' first (count + 1) ++ rest) = (first, count + 1) :: segmentRuns rest := by
  induction count generalizing first with
  | zero =>
    cases rest with
    | nil => rfl
    | cons next more =>
      obtain ⟨n, runs, begins⟩ := segmentRuns_cons next more
      have apart : first + 1 ≠ next := fun h => ends next more rfl h.symm
      show segmentRuns (first :: next :: more) = _
      rw [segmentRuns, begins]
      simp only [apart, if_false]
  | succ count ih =>
    have tail := ih (first + 1) fun next more h => by
      have := ends next more h
      omega
    rw [List.range'_succ, List.cons_append, segmentRuns, tail]
    simp

/-- A run's words are read in bursts of 8 words, and a last one of the words left over. -/
theorem runBursts_eq (fuel start words : Nat) (enough : words ≤ fuel) : runBursts fuel start words =
    (List.range ((words + 7) / 8)).map fun k => ({ offset := start + 32 * k, words := min 8 (words - 8 * k) } : Burst) := by
  induction fuel generalizing start words with
  | zero =>
    obtain rfl : words = 0 := by omega
    rfl
  | succ fuel ih =>
    rw [runBursts]
    by_cases nothing : words = 0
    · rw [if_pos nothing, nothing]
      rfl
    · have oneMore : (words + 7) / 8 = (words - 8 + 7) / 8 + 1 := by omega
      rw [if_neg nothing, Config.burstWords, ih (start + 4 * 8) (words - 8) (by omega), oneMore, List.range_succ_eq_map,
        List.map_cons, List.map_map]
      congr 1
      refine List.map_congr_left fun k _ => ?_
      simp only [Function.comp_apply, Burst.mk.injEq]
      omega

theorem payloadBursts_run (length first count : Nat) (rest : List Nat) (some : 1 ≤ count)
    (ends : ∀ next more, rest = next :: more → next ≠ first + count) :
    let words := (min (48 * (first + count)) length - 48 * first + 3) / 4
    payloadBursts length (List.range' first count ++ rest) =
      ((List.range ((words + 7) / 8)).map fun k => ({ offset := 48 * first + 32 * k, words := min 8 (words - 8 * k) } : Burst)) ++
      payloadBursts length rest := by
  intro words
  obtain ⟨n, rfl⟩ : ∃ n, count = n + 1 := ⟨count - 1, by omega⟩
  have stop : 48 * first + 48 * (n + 1) = 48 * (first + (n + 1)) := by ring
  rw [payloadBursts, segmentRuns_range' first n rest ends, List.flatMap_cons, payloadBursts]
  simp only [Config.segmentBytes]
  rw [runBursts_eq _ _ _ le_rfl, stop]

/-! ### The bytes of a burst in the buffers (R89, R98) -/

/-- Of a list whose places begin at `start`, the bytes at places from `first` up to `last`. -/
theorem filterMap_places (bytes : List Byte) (start first last : Nat) :
    ((bytes.zip (List.range' start bytes.length)).filterMap fun p => if first ≤ p.2 ∧ p.2 < last then some p.1 else none) =
      (bytes.take (last - start)).drop (first - start) := by
  induction bytes generalizing start with
  | nil => simp
  | cons byte rest ih =>
    rw [List.length_cons, List.range'_succ, List.zip_cons_cons, List.filterMap_cons, ih (start + 1)]
    rcases Nat.lt_or_ge start last with below | beyond
    · have taken : last - start = last - (start + 1) + 1 := by omega
      rw [taken, List.take_succ_cons]
      rcases Nat.lt_or_ge start first with before | inside
      · have dropped : first - start = first - (start + 1) + 1 := by omega
        simp [dropped, Nat.not_le.2 before]
      · have kept : first - start = 0 := by omega
        have later : first - (start + 1) = 0 := by omega
        simp [kept, later, inside, below]
    · have noneLeft : last - start = 0 := by omega
      have noneLater : last - (start + 1) = 0 := by omega
      simp [noneLeft, noneLater, Nat.not_lt.2 beyond]

theorem segmentBytesOf_eq (length offset segment : Nat) (bytes : List Byte) : segmentBytesOf length offset segment bytes =
    (bytes.take (min (48 * segment + 48) length - offset)).drop (48 * segment - offset) := by
  have shifted : List.range' offset bytes.length = (List.range bytes.length).map (offset + ·) := by
    rw [List.range_eq_range', List.map_add_range']
    rfl
  have places := filterMap_places bytes offset (48 * segment) (min (48 * segment + 48) length)
  rw [shifted, List.zip_map_right, List.filterMap_map] at places
  exact places

theorem SegBuffer.write_eq (length : Nat) (bytes : List Byte) (q : SegBuffer) : q.write length bytes =
    if min (48 * q.segment + 48) length - 48 * q.segment ≤ (q.data ++ bytes).length then
      { q with filled := true, data := q.data ++ bytes ++ List.replicate (48 - (q.data ++ bytes).length) 0 }
    else { q with data := q.data ++ bytes } := rfl

theorem fillStore_eq (x : FetchElem) (offset : Nat) (bytes : List Byte) (store : List SegBuffer) :
    fillStore x offset bytes store = store.map fun q =>
      let first := 48 * q.segment
      let stop := min (first + 48) x.length.toNat
      let data := q.data ++ (bytes.take (stop - offset)).drop (first - offset)
      if q.number ∈ x.buffers ∧ q.filled = false then
        if stop - first ≤ data.length then
          { q with filled := true, data := data ++ List.replicate (48 - data.length) 0 }
        else { q with data := data }
      else q := by
  refine List.map_congr_left fun q _ => ?_
  have takes : (x.buffers.contains q.number && !q.filled) = true ↔ q.number ∈ x.buffers ∧ q.filled = false := by simp
  simp only [takes, SegBuffer.write_eq, segmentBytesOf_eq]

/-! ### Items and records under the fetch engine -/

section
variable {s : State} {c : CellId}

/-- The record of an index after a change that leaves its index. -/
theorem State.modRecord_recordIn (s : State) (c : CellId) (index : Nat) {f : DueRecord → DueRecord}
    (keeps : ∀ r, r.index = index → (f r).index = index) : (s.modRecord c index f).recordIn c index = (s.recordIn c index).map f := by
  have list : (s.modRecord c index f).dueAt c = (s.dueAt c).map fun r => if r.index = index then f r else r := by
    rw [State.modRecord, State.modDue_dueAt]
  rw [State.recordIn, State.recordIn, list, List.find?_map]
  have same : ((fun r : DueRecord => r.index == index) ∘ fun r => if r.index = index then f r else r) =
      fun r => r.index == index := by
    funext r
    by_cases h : r.index = index
    · simp [h, keeps r h]
    · simp [h]
  rw [same]
  cases found : (s.dueAt c).find? fun r => r.index == index with
  | none => rfl
  | some r =>
    have isIt : r.index = index := by simpa using List.find?_some found
    simp [isIt]

/-- The plan of a beacon after a change of one item of it. -/
theorem State.modItem_planOf (s : State) (c : CellId) (b : BeaconNo) (place : Nat) (f : PlanItem → PlanItem) :
    ((s.modItem c b place f).seqAt c).planOf b = ((s.seqAt c).planOf b).map fun p => p.modItem place f := by
  have marked (p : Option Plan) :
      (p.map fun p => if p.beacon = b then p.modItem place f else p).filter (fun p => decide (p.beacon = b)) =
        (p.filter fun p => decide (p.beacon = b)).map fun p => p.modItem place f := by
    cases p with
    | none => rfl
    | some p => by_cases h : p.beacon = b <;> simp [Option.filter, h, Plan.modItem]
  rw [State.modItem_seqAt]
  unfold Sequencer.planOf
  cases standing : (s.seqAt c).standing with
  | none => simpa [standing] using marked _
  | some p =>
    by_cases h : p.beacon = b
    · simp [h, Plan.modItem]
    · simpa [h] using marked _

/-- The items of the plan after a change of one of them. -/
theorem State.modItem_itemAt (s : State) (c : CellId) (b : BeaconNo) (place : Nat) (f : PlanItem → PlanItem) :
    (s.modItem c b place f).itemAt c b place = (s.itemAt c b place).map f := by
  rw [State.itemAt, State.itemAt, State.modItem_planOf]
  cases (s.seqAt c).planOf b with
  | none => rfl
  | some p => simp [Plan.modItem]

theorem State.modItem_itemAt_other (s : State) (c : CellId) (b : BeaconNo) {place other : Nat} (f : PlanItem → PlanItem)
    (apart : other ≠ place) : (s.modItem c b place f).itemAt c b other = s.itemAt c b other := by
  rw [State.itemAt, State.itemAt, State.modItem_planOf]
  cases (s.seqAt c).planOf b with
  | none => rfl
  | some p => simp [Plan.modItem, Ne.symm apart]

/-! ### No drain ends with an item that ends -/

theorem State.modRecord_drainDue (s : State) (c : CellId) (index : Nat) (f : DueRecord → DueRecord) :
    (s.modRecord c index f).drainDue = s.drainDue := by
  have lists (d : CellId) : (s.modRecord c index f).dueAt d = [] ↔ s.dueAt d = [] := by
    by_cases own : d = c
    · rw [own, State.modRecord, State.modDue_dueAt, List.map_eq_nil_iff]
    · rw [State.modRecord, State.modDue_dueAt_other s c d _ own]
  rw [Bool.eq_iff_iff, State.drainDue_iff, State.drainDue_iff]
  simp only [lists]
  rfl

/-- A drain that waits for an item's window or record goes on waiting when the item ends. -/
theorem State.ItemsEnded.drainDue {u : State} (items : s.ItemsEnded u c) (cmd : u.cmd = s.cmd) (due : u.due = s.due) (wb : u.wb = s.wb)
    (hand : u.sweep.hand = s.sweep.hand) : u.drainDue = s.drainDue := by
  have standing (d : CellId) : (u.seqAt d).standing = none ↔ (s.seqAt d).standing = none := by
    by_cases own : d = c
    · rw [own, ← Option.isNone_iff_eq_none, ← Option.isNone_iff_eq_none, ← Option.not_isSome, ← Option.not_isSome, items.standing]
    · rw [items.others d own]
  rw [Bool.eq_iff_iff, State.drainDue_iff, State.drainDue_iff, cmd, wb, hand]
  simp only [State.dueAt, due, standing]

theorem State.drainDue_of_running {u : State} (running : u.stopping = false) : u.drainDue = false := by
  simp [State.drainDue, running]

theorem State.settleResult_undrained (s : State) (c : CellId) (r : DueRecord) : (s.settleResult c r).drainDue = false := by
  cases stopping : s.stopping with
  | false =>
    obtain ⟨d, w, n, x, f, frame⟩ := s.settleResult_frame c r
    rw [frame]
    exact State.drainDue_of_running stopping
  | true =>
    obtain ⟨retires, _⟩ := s.settleResult_settles c r
    rw [retires stopping]
    exact State.drainDue_of_list (by simp)

theorem State.dropItem_drainDue (s : State) (c : CellId) (b : BeaconNo) (place : Nat) : (s.dropItem c b place).drainDue = s.drainDue := by
  have items := s.dropItem_items c b place
  obtain ⟨e, p, t, q, frame⟩ := s.dropItem_frame c b place
  rw [frame] at items ⊢
  exact items.drainDue rfl rfl rfl rfl

theorem State.notSent_undrained (b : BeaconNo) (place : Nat) (undrained : s.drainDue = false) :
    (s.notSent c b place).drainDue = false := by
  unfold State.notSent State.itemResult
  have dropped := (s.dropItem_drainDue c b place).trans undrained
  split
  · exact undrained
  · split
    · split
      · exact dropped
      · split
        · exact State.settleResult_undrained _ c _
        · exact dropped
    · exact undrained

end

/-! ### The steps of a fetch (R92 to R98) -/

section
variable {s : State} {f : Fetch} {c : CellId}

theorem fetchIsFull_iff (x : FetchElem) (check : Option (BitVec 16)) :
    fetchIsFull x check = true ↔ x.needed.length = x.segments ∨ check = none := by
  rw [fetchIsFull, Bool.or_eq_true, decide_eq_true_eq, Option.isNone_iff_eq_none]

/-- A state that differs from a settled one in the fetch engine, the buffers and the plans' items alone. -/
theorem State.conclude_fetchOnly {u : State} (settled : s.settled = true) (stays : s.Stays u) (undrained : u.drainDue = s.drainDue) :
    u.conclude = u := by
  obtain ⟨_, drain, _⟩ := s.settled_iff.1 settled
  exact stays.conclude_eq settled (undrained.trans drain)

/-- The fetch of an element as it begins, with the check value its record knows (R92, R93). -/
def FetchElem.begun (x : FetchElem) (check : Option (BitVec 16)) : Fetch :=
  { elem := x, full := fetchIsFull x check, known := check, headerTaken := false, headerCheck := 0, crc := crcStart,
    toOffer := [], offered := [], delivered := [] }

theorem exec_fetchStart_of {x : FetchElem} {rest : List FetchElem} (idle : s.fetch.current = none) (list : s.fetch.list = x :: rest) :
    let f := x.begun ((s.recordIn x.cell x.index).bind (·.check))
    exec .fetchStart s =
      .next ((s.setFetch { list := rest, current := some f }).offer .fetch (.read x.reference.toNat 4)).conclude := by
  have event : exec .fetchStart s = .next s.beginFetch.conclude := rfl
  rw [event]
  simp only [State.beginFetch, idle, list]
  rfl

/-- The fetch after its header (R95). -/
def Fetch.withHeader (f : Fetch) (ws : List Word) : Fetch :=
  { f with headerTaken := true, headerCheck := headerCheckValue ws, delivered := [],
           toOffer := payloadBursts f.elem.length.toNat f.reads }

theorem headerMatches_iff (x : FetchElem) (ws : List Word) : headerMatches x ws = true ↔
    (wordOf ws 0).extractLsb' 0 16 = x.target ∧ (wordOf ws 0).extractLsb' 16 16 = x.length := by
  rw [headerMatches, Bool.and_eq_true, decide_eq_true_eq, decide_eq_true_eq]
  rfl

theorem exec_fetchHeaderRead_of {ws : List Word} (current : s.fetch.current = some f) (first : f.headerTaken = false)
    (read : f.delivered = [ws]) : exec .fetchHeaderRead s = .next (
      if f.full = true then if headerMatches f.elem ws = true then s.offerNext (f.withHeader ws) else s.fetchBad f.elem
      else if headerMatches f.elem ws = true ∧ f.known = some (headerCheckValue ws) then s.offerNext (f.withHeader ws)
      else s.fetchRestart f.elem).conclude := by
  have event : exec .fetchHeaderRead s = .next s.takeHeader.conclude := rfl
  rw [event]
  simp only [State.takeHeader, current, first, read, Bool.and_eq_true, beq_iff_eq]
  rfl

/-- The fetch and the buffers after a burst (R94, R95, R98). -/
def Fetch.withBurst (f : Fetch) (b : Burst) (ws : List Word) (rest : List (List Word)) (later : List Burst) : Fetch :=
  { f with delivered := rest, offered := later,
           crc := if f.full then crcOver f.crc (payloadBytes f.elem.length.toNat b ws) else f.crc }

theorem exec_fetchBurstRead_of {b : Burst} {ws : List Word} {rest : List (List Word)} {later : List Burst}
    (current : s.fetch.current = some f) (header : f.headerTaken = true) (read : f.delivered = ws :: rest)
    (offered : f.offered = b :: later) :
    let bytes := payloadBytes f.elem.length.toNat b ws
    let t := (s.modStore f.elem.cell (fillStore f.elem b.offset bytes)).setFetching (some (f.withBurst b ws rest later))
    exec .fetchBurstRead s =
      .next (if later = [] ∧ f.toOffer = [] then t.fetchOver (f.withBurst b ws rest later) else t).conclude := by
  have event : exec .fetchBurstRead s = .next s.takeBurst.conclude := rfl
  rw [event]
  simp only [State.takeBurst, current, header, read, offered, Bool.and_eq_true, List.isEmpty_iff, Fetch.withBurst]

/-- A record retired by the fetch engine (R62, R101). -/
theorem State.fetchBad_eq {x : FetchElem} {r : DueRecord} (inList : s.recordIn x.cell x.index = some r) :
    s.fetchBad x = { s.dropItem x.cell x.beacon x.place with
      due := cellPut s.due x.cell ((s.dueAt x.cell).map fun q => if q.index = x.index then { q with
        outcome := some .contentBad, state := .retiring, lateAtFlip := false, refreshPending := false,
        reEvaluate := q.reEvaluate || q.refreshPending } else q),
      wb := { s.wb with list := s.wb.list ++ [x.index] }, drained := s.drained + if s.stopping then 1 else 0 } := by
  obtain ⟨e, p, t, q, frame⟩ := s.dropItem_frame x.cell x.beacon x.place
  have kept : (s.dropItem x.cell x.beacon x.place).recordIn x.cell x.index = some r := by
    rw [frame]
    exact inList
  have isBad : s.fetchBad x = (s.dropItem x.cell x.beacon x.place).retireRecord x.cell x.index .contentBad fun r =>
      { r with refreshPending := false, reEvaluate := r.reEvaluate || r.refreshPending } := by
    simp only [State.fetchBad, State.contentBad, kept]
  rw [isBad, State.retireRecord_eq, frame]
  have drained : (if s.stopping = true then s.drained + 1 else s.drained) = s.drained + if s.stopping = true then 1 else 0 := by
    split <;> rfl
  rw [← drained]
  rfl

/-- The end of a fetch that agrees: its item is ready, and a full fetch's check value is stored (R95, R96). -/
theorem State.fetchReady_ends {r : DueRecord} {i : PlanItem} (inList : s.recordIn f.elem.cell f.elem.index = some r)
    (item : s.itemAt f.elem.cell f.elem.beacon f.elem.place = some i) :
    let t := s.fetchReady f
    s.Stays t ∧ t.drainDue = s.drainDue ∧
      t = { s with due := t.due, seq := t.seq, fetch := { s.fetch with current := none } } ∧
      t.itemAt f.elem.cell f.elem.beacon f.elem.place = some { i with status := .ready } ∧
      t.recordIn f.elem.cell f.elem.index = some (if f.full = true then { r with check := some f.headerCheck } else r) := by
  intro t
  obtain ⟨u, isU⟩ : ∃ u, u = if f.full = true then s.storeCheck f.elem.cell f.elem.index f.headerCheck else s := ⟨_, rfl⟩
  have made : t = (u.setFetching none).modItem f.elem.cell f.elem.beacon f.elem.place fun i => { i with status := .ready } := by
    rw [isU]
    rfl
  have stored : u = { s with due := u.due } ∧ u.drainDue = s.drainDue ∧
      u.recordIn f.elem.cell f.elem.index = some (if f.full = true then { r with check := some f.headerCheck } else r) := by
    by_cases full : f.full = true
    · rw [if_pos full] at isU ⊢
      rw [isU]
      refine ⟨rfl, s.modRecord_drainDue _ _ _, ?_⟩
      rw [State.storeCheck, s.modRecord_recordIn f.elem.cell f.elem.index (f := fun r => { r with check := some f.headerCheck })
        fun _ same => same, inList]
      rfl
    · rw [if_neg full] at isU ⊢
      rw [isU]
      exact ⟨rfl, rfl, inList⟩
  obtain ⟨frame, drains, known⟩ := stored
  have items := (u.setFetching none).modItem_items f.elem.cell f.elem.beacon f.elem.place fun i => { i with status := .ready }
  have marked : t.itemAt f.elem.cell f.elem.beacon f.elem.place = some { i with status := .ready } := by
    have was : (u.setFetching none).itemAt f.elem.cell f.elem.beacon f.elem.place = some i := by
      rw [frame]
      exact item
    rw [made, State.modItem_itemAt, was]
    rfl
  refine ⟨?_, ?_, ?_, marked, ?_⟩
  · rw [made, frame]
    exact ⟨rfl, rfl, rfl, rfl⟩
  · rw [made, items.drainDue rfl rfl rfl rfl]
    exact drains
  · rw [made, frame]
    rfl
  · rw [made]
    exact known

/-- A failed fetch asks nothing of the links, the memory port and the commands. -/
theorem State.conclude_fetchBad {x : FetchElem} {r : DueRecord} {i : PlanItem} {u : State} (settled : s.settled = true)
    (stays : s.Stays u) (inList : u.recordIn x.cell x.index = some r) (item : u.itemAt x.cell x.beacon x.place = some i) :
    (u.fetchBad x).conclude = u.fetchBad x ∧
      u.dropsItem (u.dropItem x.cell x.beacon x.place) x.cell x.beacon x.place i := by
  refine ⟨?_, u.dropItem_drops x.cell x.beacon x.place i item⟩
  have bus := (u.dropItem_items x.cell x.beacon x.place).bus (stays.busSettled settled)
  have undrained : (u.fetchBad x).drainDue = false := by
    rw [State.fetchBad_eq inList]
    exact State.drainDue_of_list (by simp)
  have ports := stays.ports settled
  have command := (stays.command settled).symm
  rw [State.fetchBad_eq inList] at undrained ⊢
  obtain ⟨e, p, t, q, frame⟩ := u.dropItem_frame x.cell x.beacon x.place
  rw [frame] at bus undrained ⊢
  exact State.conclude_settled _ ((State.settled_iff _).2 ⟨command, undrained, ports, bus⟩)

/-- The first payload burst is asked for, and the fetch goes on (R92, R94). -/
theorem State.conclude_offerNext {b : Burst} {later : List Burst} (settled : s.settled = true)
    (next : f.toOffer = b :: later) :
    let g := { f with toOffer := later, offered := f.offered ++ [b] }
    let t := (s.offerNext f).conclude
    t = { s with fetch := { s.fetch with current := some g }, bus := t.bus } ∧
      t.bus.asked .fetch (.read (f.elem.reference.toNat + 16 + b.offset) b.words) := by
  intro g t
  have offers : s.offerNext f = (s.setFetching (some g)).offer .fetch (f.burstAction b) := by
    simp only [State.offerNext, next]
    rfl
  have made : t = ((s.setFetching (some g)).offer .fetch (f.burstAction b)).conclude := congrArg State.conclude offers
  have stays : s.Stays (s.setFetching (some g)) := ⟨rfl, rfl, rfl, rfl⟩
  obtain ⟨_, drain, _⟩ := s.settled_iff.1 settled
  rw [made]
  exact stays.conclude_offer settled drain .fetch _

/-- An item that ends as NOT_SENT with its fetch's content restart (R96). -/
theorem State.conclude_fetchRestart {x : FetchElem} (settled : s.settled = true) :
    (s.fetchRestart x).conclude = (s.contentRestart x.cell x.index).notSent x.cell x.beacon x.place := by
  obtain ⟨command, drain, ports, bus⟩ := s.settled_iff.1 settled
  obtain ⟨u, isU⟩ : ∃ u, u = s.contentRestart x.cell x.index := ⟨_, rfl⟩
  have undrained : u.drainDue = false := by
    rw [isU]
    exact (s.modRecord_drainDue x.cell x.index _).trans drain
  have uBus : u.bus.settled = true := by
    rw [isU]
    exact bus
  have uPorts (d : CellId) : (u.portAt d).settled = true := by
    rw [isU]
    exact ports d
  have uCommand : u.cmd.inProgress.isSome = true ∨ u.cmd.waiting = none := by
    rw [isU]
    exact command
  have done := u.notSent_undrained (c := x.cell) x.beacon x.place undrained
  have doneBus := (u.notSent_items x.cell x.beacon x.place).bus uBus
  rw [State.fetchRestart, ← isU]
  obtain ⟨e, p, t, q, d, w, n, y, z, frame⟩ := u.notSent_frame x.cell x.beacon x.place
  rw [frame] at done doneBus ⊢
  exact State.conclude_settled _ ((State.settled_iff _).2 ⟨uCommand, done, uPorts, doneBus⟩)

/-- Settles O50: each step of a fetch, its bursts and its bytes. -/
theorem fetchSteps : Obligations.FetchSteps := by
  unfold Obligations.FetchSteps
  refine ⟨fun s x rest settled idle list => ?_, fun s f r i settled current inList item itsIndex => ?_,
    fun f length first count rest => ?_, fun x b ws bytes store => ?_⟩
  · have stays : s.Stays (s.setFetch { list := rest, current := some (x.begun ((s.recordIn x.cell x.index).bind (·.check))) }) :=
      ⟨rfl, rfl, rfl, rfl⟩
    obtain ⟨_, drain, _⟩ := s.settled_iff.1 settled
    obtain ⟨frame, asked⟩ := stays.conclude_offer settled drain .fetch (.read x.reference.toNat 4)
    exact ⟨_, _, exec_fetchStart_of idle list, frame, rfl, rfl, rfl, fetchIsFull_iff x _, asked⟩
  · intro c bad
    refine ⟨fun ws header read => ?_, fun ws rest b later header read offered => ?_⟩
    · intro agrees check
      have event := exec_fetchHeaderRead_of current header read
      have fits : headerMatches f.elem ws = true ↔ agrees := headerMatches_iff f.elem ws
      refine ⟨fun b later agree known first => ?_, fun disagree full => ?_, fun disagree resend => ?_⟩
      · have goes : (f.withHeader ws).toOffer = b :: later := first
        have matching : headerMatches f.elem ws = true := fits.2 agree
        obtain ⟨frame, asked⟩ := State.conclude_offerNext (s := s) settled goes
        refine ⟨_, _, event.trans ?_, frame, rfl, rfl, rfl, asked⟩
        rcases known with full | same
        · rw [if_pos full, if_pos matching]
        · have both : headerMatches f.elem ws = true ∧ f.known = some (headerCheckValue ws) := ⟨matching, same⟩
          rw [if_pos matching, if_pos both, ite_self]
      · rw [event, if_pos full, if_neg fun h => disagree (fits.1 h)]
        obtain ⟨same, drops⟩ := State.conclude_fetchBad settled (.refl s) inList item
        exact ⟨_, rfl, _, drops, same.trans (State.fetchBad_eq inList)⟩
      · rw [event, if_neg (by simp [resend]), if_neg fun ⟨fit, known⟩ => disagree.elim (fun h => h (fits.1 fit)) fun h => h known,
          State.conclude_fetchRestart settled]
        exact ⟨_, rfl, State.notSent_ends _ _ _ _⟩
    · intro bytes crc filled
      obtain ⟨t, isT⟩ : ∃ t, t = (s.modStore f.elem.cell (fillStore f.elem b.offset bytes)).setFetching
        (some (f.withBurst b ws rest later)) := ⟨_, rfl⟩
      have frame : t = { s with
          store := cellPut s.store f.elem.cell filled,
          fetch := { s.fetch with current := some (f.withBurst b ws rest later) } } := isT
      have stays : s.Stays t := by
        rw [frame]
        exact ⟨rfl, rfl, rfl, rfl⟩
      have undrained : t.drainDue = s.drainDue := by
        rw [frame]
        rfl
      have event : exec .fetchBurstRead s = .next (if later = [] ∧ f.toOffer = [] then
          t.fetchOver (f.withBurst b ws rest later) else t).conclude := by
        rw [isT]
        exact exec_fetchBurstRead_of current header read offered
      refine ⟨fun more => ?_, fun last noMore good => ?_, fun last noMore full wrong => ?_⟩
      · rw [event, if_neg fun ⟨last, noMore⟩ => more.elim (fun h => h last) fun h => h noMore,
          State.conclude_fetchOnly settled stays undrained, frame]
        rfl
      · have goodEnd : t.fetchOver (f.withBurst b ws rest later) = t.fetchReady (f.withBurst b ws rest later) := by
          have agrees : ¬((f.withBurst b ws rest later).full && (f.withBurst b ws rest later).crc !=
              (f.withBurst b ws rest later).headerCheck) = true := by
            rw [Bool.and_eq_true, bne_iff_ne]
            rintro ⟨full, wrong⟩
            exact good.elim (fun resend => Bool.false_ne_true (resend.symm.trans full)) wrong
          exact if_neg agrees
        have tRecord : t.recordIn f.elem.cell f.elem.index = some r := by
          rw [frame]
          exact inList
        have tItem : t.itemAt f.elem.cell f.elem.beacon f.elem.place = some i := by
          rw [frame]
          exact item
        obtain ⟨readyStays, drains, isReady, marked, known⟩ := State.fetchReady_ends (f := f.withBurst b ws rest later) tRecord tItem
        rw [event, if_pos ⟨last, noMore⟩, goodEnd,
          State.conclude_fetchOnly settled (stays.trans readyStays) (drains.trans undrained)]
        refine ⟨_, rfl, ?_, marked, known⟩
        rw [frame] at isReady ⊢
        exact isReady
      · rw [event, if_pos ⟨last, noMore⟩]
        have fails : t.fetchOver (f.withBurst b ws rest later) = t.fetchBad f.elem := by
          have differs : ((f.withBurst b ws rest later).full && (f.withBurst b ws rest later).crc !=
              (f.withBurst b ws rest later).headerCheck) = true := by
            simp only [Bool.and_eq_true, bne_iff_ne, ne_eq]
            exact ⟨full, wrong⟩
          exact if_pos differs
        have tRecord : t.recordIn f.elem.cell f.elem.index = some r := by
          rw [frame]
          exact inList
        have tItem : t.itemAt f.elem.cell f.elem.beacon f.elem.place = some i := by
          rw [frame]
          exact item
        obtain ⟨same, drops⟩ := State.conclude_fetchBad settled stays tRecord tItem
        rw [frame] at same drops fails tRecord ⊢
        exact ⟨_, congrArg Host.Outcome.next ((congrArg State.conclude fails).trans same), _, drops, State.fetchBad_eq tRecord⟩
  · refine ⟨fun full => if_pos full, fun resend => if_neg (by simp [resend]), rfl, fun some ends => ?_⟩
    exact payloadBursts_run length first count rest some ends
  · exact ⟨rfl, fillStore_eq x b.offset bytes store⟩

end

end Sys2Proof.Machine
end

section
/-! PROOFS. The end of a night record write, and every word of the record (R172, R189, 11.2). -/

namespace Sys2Proof.Machine

/-! ### The end of a write (R172, R180, R184, R185) -/

section
variable {s : State} {w : NightWrite}

theorem exec_nightRecordWriteDone_of (current : s.night.current = some w) (complete : w.complete = true) :
    exec .nightRecordWriteDone s =
      .next (if w.snapshot.awaited = true then s.endNightWrite.nightWritten else s.endNightWrite).conclude := by
  have event : exec .nightRecordWriteDone s = .next s.nightDone.conclude := rfl
  rw [event]
  simp only [State.nightDone, current, complete, if_true]

/-- A write behind which no snapshot waits is just over. -/
theorem State.endNightWrite_of_none (noneWaits : s.night.waiting = none) :
    s.endNightWrite = { s with night := { s.night with current := none } } := by
  have stays : s.night.waiting = (none : Option Snapshot) := noneWaits
  simp only [State.endNightWrite, noneWaits]
  rw [← stays]
  rfl

theorem State.endNightWrite_of_some {snap : Snapshot} (waits : s.night.waiting = some snap) :
    s.endNightWrite = (s.setNight { s.night with current := none, waiting := none }).beginNightWrite snap := by
  simp only [State.endNightWrite, waits]

theorem State.nightWritten_load {before : ControllerState} {clamps : Nat}
    (load : s.cmd.inProgress = some (.load before (.recording clamps))) :
    s.nightWritten = s.finish (if clamps = 0 then .ok else .clamped) clamps := by
  simp only [State.nightWritten, load]
  split
  · next zero => rw [zero]
  · rfl

theorem State.nightWritten_stop (stop : s.cmd.inProgress = some (.stop true)) :
    s.nightWritten = (s.setController .loaded).finish .ok s.drained := by
  simp only [State.nightWritten, stop]

theorem State.nightWritten_abort {code : ResultCode} {value : Nat} (abort : s.cmd.inProgress = some (.abort code value)) :
    s.nightWritten = s.finish code value := by
  simp only [State.nightWritten, abort]

end

/-! ### The words of the record (R172, R189) -/

section
variable (s : State) (count : Word)

theorem nightRecordWords_length : (nightRecordWords count (nightFieldWords s)).length = 84 := rfl

theorem nightRecordWords_cell (c : CellId) : wordOf (nightRecordWords count (nightFieldWords s)) (8 + 8 * c.val) =
    packFields [(0, 3, (s.portAt c).state.code), (4, 3, (s.portAt c).status.code), (7, 1, flagBit (cellAt s.deferred c)),
      (8, 4, (s.portAt c).restartCount), (16, 11, (s.dueAt c).length)] := by
  fin_cases c <;> rfl

theorem nightRecordWords_group (g : GroupId) :
    wordOf (nightRecordWords count (nightFieldWords s)) (40 + 2 * g.val) =
      packFields [(0, 2, (s.groupRec g).state.code), (4, 4, (s.groupRec g).gap.toNat)] ∧
    wordOf (nightRecordWords count (nightFieldWords s)) (41 + 2 * g.val) = (s.groupRec g).flipBeacon := by
  fin_cases g <;> exact ⟨rfl, rfl⟩

/-- The counts of a cell stand in the words behind its first (11.2). -/
theorem nightRecordWords_cellCounts (c : CellId) :
    let ws := nightRecordWords count (nightFieldWords s)
    wordOf ws (9 + 8 * c.val) = BitVec.ofNat 32 (s.seqAt c).windowsSent ∧
    wordOf ws (10 + 8 * c.val) = BitVec.ofNat 32 (s.seqAt c).itemsSent ∧
    wordOf ws (11 + 8 * c.val) = BitVec.ofNat 32 (s.seqAt c).fetchLate ∧
    wordOf ws (12 + 8 * c.val) = BitVec.ofNat 32 (s.seqAt c).stray ∧
    wordOf ws (13 + 8 * c.val) = BitVec.ofNat 32 (s.portAt c).overrun ∧
    wordOf ws (14 + 8 * c.val) = 0 ∧ wordOf ws (15 + 8 * c.val) = 0 := by
  fin_cases c <;> exact ⟨rfl, rfl, rfl, rfl, rfl, rfl, rfl⟩

theorem packFields_toNat (fields : List (Nat × Nat × Nat)) : (packFields fields).toNat = fieldSum fields % 2 ^ 32 :=
  BitVec.toNat_ofNat _ _

theorem fieldSum_cons (p w v : Nat) (fields : List (Nat × Nat × Nat)) :
    fieldSum ((p, w, v) :: fields) = v % 2 ^ w * 2 ^ p + fieldSum fields := List.sum_cons

theorem fieldSum_nil : fieldSum [] = 0 := rfl

/-- A word is its upper bits followed by its lower ones. -/
theorem eq_append_of_toNat {m n : Nat} {x : BitVec m} {y : BitVec n} (w : BitVec (m + n))
    (h : w.toNat = x.toNat * 2 ^ n + y.toNat) : w = x ++ y :=
  BitVec.eq_of_toNat_eq (h.trans (toNat_append_eq x y).symm)

theorem ofBool_flag (b : Bool) : (BitVec.ofBool b).toNat = flagBit b := by
  cases b <;> rfl

theorem flagBit_lt (b : Bool) : flagBit b < 2 := by
  cases b <;> decide

theorem policyFlag (p : LatePolicy) : flagBit (p == .showOnArrival) = p.code := by
  cases p <;> rfl

/-- Two halves of a word. -/
theorem packFields_halves (low high : Nat) :
    packFields [(0, 16, low), (16, 16, high)] = BitVec.ofNat 16 high ++ BitVec.ofNat 16 low := by
  refine eq_append_of_toNat (m := 16) (n := 16) _ ?_
  simp only [packFields_toNat, fieldSum_cons, fieldSum_nil, BitVec.toNat_ofNat]
  omega

/-- The word of the settings' flags (11.2). -/
theorem packFields_settings (controller k : Nat) (policy : LatePolicy) (parity : Bool) :
    packFields [(0, 3, controller), (8, 3, k), (12, 1, policy.code), (13, 1, flagBit parity)] =
      0#18 ++ BitVec.ofBool parity ++ BitVec.ofBool (policy == .showOnArrival) ++ 0#1 ++ BitVec.ofNat 3 k ++ 0#5 ++
        BitVec.ofNat 3 controller := by
  have parityBit := flagBit_lt parity
  have policyBit := flagBit_lt (policy == .showOnArrival)
  refine eq_append_of_toNat (m := 18 + 1 + 1 + 1 + 3 + 5) (n := 3) _ ?_
  simp only [packFields_toNat, toNat_append_eq, ofBool_flag, policyFlag, fieldSum_cons, fieldSum_nil,
    BitVec.toNat_ofNat] at policyBit ⊢
  omega

theorem packFields_network (network : BitVec 16) (threshold cap : Nat) (floor : BitVec 4) :
    packFields [(0, 16, network.toNat), (16, 8, threshold), (24, 4, cap), (28, 4, floor.toNat)] =
      floor ++ BitVec.ofNat 4 cap ++ BitVec.ofNat 8 threshold ++ network := by
  have networkBound := network.isLt
  have floorBound := floor.isLt
  refine eq_append_of_toNat (m := 4 + 4 + 8) (n := 16) _ ?_
  simp only [packFields_toNat, fieldSum_cons, fieldSum_nil, toNat_append_eq, BitVec.toNat_ofNat]
  omega

/-- The first word of a cell (11.2). -/
theorem packFields_cell (state status restarts due : Nat) (deferred : Bool) :
    packFields [(0, 3, state), (4, 3, status), (7, 1, flagBit deferred), (8, 4, restarts), (16, 11, due)] =
      0#5 ++ BitVec.ofNat 11 due ++ 0#4 ++ BitVec.ofNat 4 restarts ++ BitVec.ofBool deferred ++ BitVec.ofNat 3 status ++ 0#1 ++
        BitVec.ofNat 3 state := by
  have deferredBit := flagBit_lt deferred
  refine eq_append_of_toNat (m := 5 + 11 + 4 + 4 + 1 + 3 + 1) (n := 3) _ ?_
  simp only [packFields_toNat, toNat_append_eq, ofBool_flag, fieldSum_cons, fieldSum_nil, BitVec.toNat_ofNat]
  omega

theorem packFields_group (state : Nat) (gap : BitVec 4) :
    packFields [(0, 2, state), (4, 4, gap.toNat)] = 0#24 ++ gap ++ 0#2 ++ BitVec.ofNat 2 state := by
  have gapBound := gap.isLt
  refine eq_append_of_toNat (m := 24 + 4 + 2) (n := 2) _ ?_
  simp only [packFields_toNat, toNat_append_eq, fieldSum_cons, fieldSum_nil, BitVec.toNat_ofNat]
  omega

/-- The byte of a cell in the word of the cells' settings (11.2). -/
theorem packFields_cellByte (rate : CellId → Nat) (ceiling : CellId → BitVec 3) (c : CellId) :
    (packFields (allCells.flatMap fun c => [(8 * c.val, 2, rate c), (8 * c.val + 2, 3, (ceiling c).toNat)])).extractLsb'
      (8 * c.val) 8 = 0#3 ++ ceiling c ++ BitVec.ofNat 2 (rate c) := by
  have bound0 := (ceiling 0).isLt
  have bound1 := (ceiling 1).isLt
  have bound2 := (ceiling 2).isLt
  have bound3 := (ceiling 3).isLt
  refine eq_append_of_toNat (m := 3 + 3) (n := 2) _ ?_
  have fields : (allCells.flatMap fun c => [(8 * c.val, 2, rate c), (8 * c.val + 2, 3, (ceiling c).toNat)]) =
      [(0, 2, rate 0), (2, 3, (ceiling 0).toNat), (8, 2, rate 1), (10, 3, (ceiling 1).toNat),
        (16, 2, rate 2), (18, 3, (ceiling 2).toNat), (24, 2, rate 3), (26, 3, (ceiling 3).toNat)] := rfl
  rw [fields]
  have places : (8 * c.val = 0 ∧ c = 0) ∨ (8 * c.val = 8 ∧ c = 1) ∨ (8 * c.val = 16 ∧ c = 2) ∨ (8 * c.val = 24 ∧ c = 3) := by
    revert c
    decide
  rcases places with ⟨place, rfl⟩ | ⟨place, rfl⟩ | ⟨place, rfl⟩ | ⟨place, rfl⟩
  all_goals
    rw [place]
    rw [BitVec.extractLsb'_toNat, Nat.shiftRight_eq_div_pow, packFields_toNat, toNat_append_eq, BitVec.toNat_ofNat, BitVec.toNat_ofNat]
    simp only [fieldSum_cons, fieldSum_nil]
    omega

end

/-- Settles O52: the command that waited completes, a waiting snapshot begins; and the words one by one. -/
theorem nightRecordWriteDone : Obligations.NightRecordWriteDone := by
  unfold Obligations.NightRecordWriteDone
  refine ⟨fun s w quiet current complete => ?_, fun s count => ?_, rfl, rfl, rfl, rfl, rfl⟩
  · have event := exec_nightRecordWriteDone_of current complete
    obtain ⟨commandWaits, settled⟩ := s.quiet_iff.1 quiet
    obtain ⟨_, drain, ports, bus⟩ := s.settled_iff.1 settled
    refine ⟨fun noneWaits awaited => ?_, fun noneWaits unawaited => ?_, fun snap waits unawaited => ?_⟩
    · intro ended
      have isEnded : s.endNightWrite = ended := State.endNightWrite_of_none noneWaits
      rw [if_pos awaited, isEnded] at event
      refine ⟨fun before clamps load => ?_, fun stop => ?_, fun code value abort => ?_⟩
      · rw [event, State.nightWritten_load (s := ended) load]
        exact congrArg Host.Outcome.next (State.conclude_finish_of_ports (u := ended) commandWaits ports bus _ _)
      · rw [event, State.nightWritten_stop (s := ended) stop]
        exact congrArg Host.Outcome.next
          (State.conclude_finish_of_ports (u := ended.setController .loaded) commandWaits ports bus _ _)
      · rw [event, State.nightWritten_abort (s := ended) abort]
        exact congrArg Host.Outcome.next (State.conclude_finish_of_ports (u := ended) commandWaits ports bus _ _)
    · have stays : s.Stays { s with night := { s.night with current := none } } := ⟨rfl, rfl, rfl, rfl⟩
      rw [event, if_neg (by simp [unawaited]), State.endNightWrite_of_none noneWaits, stays.conclude_eq settled drain]
    · have stays : s.Stays (s.setNight { s.night with
          writeCount := s.night.writeCount + 1, waiting := none,
          current := some { snapshot := { snap with words := nightRecordWords (s.night.writeCount + 1) snap.words },
                            offered := 8, complete := false, cut := false } }) := ⟨rfl, rfl, rfl, rfl⟩
      obtain ⟨frame, asked⟩ := stays.conclude_offer settled drain .night
        (.write snap.base.toNat ((nightRecordWords (s.night.writeCount + 1) snap.words).take 8))
      rw [event, if_neg (by simp [unawaited]), State.endNightWrite_of_some waits]
      refine ⟨_, rfl, ?_⟩
      obtain ⟨t, isT⟩ : ∃ t, t = ((s.setNight { s.night with current := none, waiting := none }).beginNightWrite snap).conclude :=
        ⟨_, rfl⟩
      rw [← isT]
      have made : t = { s with
          night := { s.night with
            writeCount := s.night.writeCount + 1, waiting := none,
            current := some { snapshot := { snap with words := nightRecordWords (s.night.writeCount + 1) snap.words },
                              offered := 8, complete := false, cut := false } }, bus := t.bus } := by
        rw [isT]
        exact frame
      have isAsked : t.bus.asked .night (.write snap.base.toNat
          ((nightRecordWords (s.night.writeCount + 1) snap.words).take 8)) := by
        rw [isT]
        exact asked
      have night := congrArg State.night made
      refine ⟨?_, ?_, ?_, ?_, isAsked⟩
      · rw [night]
        exact made
      · rw [night]
      · rw [night]
      · rw [night]
        rfl
  · intro ws t n
    refine ⟨rfl, rfl, rfl, rfl, rfl, packFields_settings _ _ _ _, packFields_halves _ _, packFields_halves _ _,
      packFields_network _ _ _ _, packFields_cellByte _ _, fun c => ?_, fun g => ?_, rfl⟩
    · intro p
      exact ⟨(nightRecordWords_cell s count c).trans (packFields_cell _ _ _ _ _), nightRecordWords_cellCounts s count c⟩
    · intro r
      obtain ⟨first, second⟩ := nightRecordWords_group s count g
      exact ⟨first.trans (packFields_group _ _), second⟩

end Sys2Proof.Machine
end

section
/-! PROOFS. The words of a transfer: the next word, the parity repeat, and the ends that bring the words or a failure (R160 to R168). -/

namespace Sys2Proof.Machine

/-! ### The memory port's choice (R165) -/

/-- The idle port takes the waiting transfer of highest rank. -/
theorem State.arbitrate_chooses {v : State} (idle : v.bus.bus = .idle) (noCurrent : v.bus.current = none) :
    v.arbitrate = { v with bus := v.arbitrate.bus } ∧ v.bus.chooses v.arbitrate.bus v.settings.parity := by
  obtain ⟨b, frame⟩ := v.arbitrate_frame
  refine ⟨by rw [frame], fun noneWaits => ?_, fun ahead r behind a ranks before waits => ?_⟩
  · have nobody : v.bus.highest = none := by
      refine List.find?_eq_none.2 fun r _ => ?_
      rw [noneWaits r]
      simp
    unfold State.arbitrate
    rw [if_pos ⟨idle, noCurrent⟩, nobody]
  · have first : v.bus.highest = some r := by
      have list : requesterRanks = ahead ++ r :: behind := ranks
      rw [MemoryPort.highest, list, List.find?_append, List.find?_eq_none.2 fun x mem => by simp [before x mem]]
      simp [waits]
    unfold State.arbitrate
    rw [if_pos ⟨idle, noCurrent⟩, first]
    simp only [waits]
    rfl

/-- Between s and u the waiting command and the links have stayed, and an idle memory port with no transfer is still one. -/
structure State.Rests (s u : State) : Prop where
  waiting : u.cmd.waiting = s.cmd.waiting
  port : u.port = s.port
  bus : u.bus.bus = s.bus.bus
  current : s.bus.current = none → u.bus.current = none

section
variable {s u : State}

theorem State.Stays.rests (h : s.Stays u) : s.Rests u :=
  ⟨h.waiting, h.port, by rw [h.bus], fun noCurrent => by rw [h.bus, noCurrent]⟩

theorem State.Rests.trans {v : State} (h : s.Rests u) (k : u.Rests v) : s.Rests v :=
  ⟨k.waiting.trans h.waiting, k.port.trans h.port, k.bus.trans h.bus, k.current ∘ h.current⟩

theorem State.offer_rests (s : State) (r : Requester) (a : Action) : s.Rests (s.offer r a) := by
  cases r <;> exact ⟨rfl, rfl, rfl, id⟩

theorem State.beginNightWrite_rests (s : State) (snap : Snapshot) : s.Rests (s.beginNightWrite snap) := ⟨rfl, rfl, rfl, id⟩

theorem State.nightDue_rests (s : State) (awaited : Bool) : s.Rests (s.nightDue awaited) := by
  unfold State.nightDue
  dsimp only
  split
  · exact s.beginNightWrite_rests _
  · exact ⟨rfl, rfl, rfl, id⟩

theorem State.checkDrain_rests (s : State) : s.Rests s.checkDrain := by
  by_cases drained : s.drainDue = true
  · rw [s.checkDrain_over drained]
    have begun : s.Rests { s with cmd := { s.cmd with inProgress := some (.stop true) } } := ⟨rfl, rfl, rfl, id⟩
    exact begun.trans (State.nightDue_rests _ true)
  · rw [s.checkDrain_same (by simpa using drained)]
    exact (State.Stays.refl s).rests

/-- What a step answers whose transfer has ended: the end of a drain, and the port's next choice. -/
theorem State.Rests.conclude_settlesInto (h : s.Rests u) (quiet : s.cmd.waiting = none) (ports : ∀ c, (s.portAt c).settled = true)
    (idle : s.bus.bus = .idle) (noCurrent : s.bus.current = none) : u.settlesInto u.conclude := by
  have links (c : CellId) : (u.portAt c).settled = true := by
    rw [State.portAt, h.port]
    exact ports c
  rw [State.conclude_ports (.inl (h.waiting.trans quiet)) links]
  have uIdle := h.bus.trans idle
  have uNone := h.current noCurrent
  refine ⟨u.checkDrain, ?_, ?_⟩
  · by_cases drained : u.drainDue = true
    · exact u.checkDrain_drains u.checkDrain.bus drained
    · rw [u.checkDrain_same (by simpa using drained)]
      exact State.drainedInto_of_not (by simpa using drained)
  · have drained := u.checkDrain_rests
    exact State.arbitrate_chooses (drained.bus.trans uIdle) (drained.current uNone)

end

/-! ### The words reach their requester (R28, R92, R165, R168, R172, R179) -/

section
variable (s : State)

theorem State.endNightWrite_rests : s.Rests s.endNightWrite := by
  unfold State.endNightWrite
  dsimp only
  split
  · exact ⟨rfl, rfl, rfl, id⟩
  · exact ⟨rfl, rfl, rfl, id⟩

theorem State.nightBurstDone_rests : s.Rests s.nightBurstDone := by
  unfold State.nightBurstDone
  split
  · exact (State.Stays.refl s).rests
  · split
    · exact s.endNightWrite_rests
    · split
      · exact ⟨rfl, rfl, rfl, id⟩
      · exact ⟨rfl, rfl, rfl, id⟩

theorem State.deliverFetch_rests (words : List Word) : s.Rests (s.deliverFetch words) := by
  unfold State.deliverFetch
  split
  · exact (State.Stays.refl s).rests
  · dsimp only
    split
    · unfold State.offerNext
      split <;> exact ⟨rfl, rfl, rfl, id⟩
    · exact ⟨rfl, rfl, rfl, id⟩

theorem State.deliverAnchor_rests (words : List Word) : s.Rests (s.deliverAnchor words) := by
  unfold State.deliverAnchor
  split
  · split <;> exact ⟨rfl, rfl, rfl, id⟩
  · exact (State.Stays.refl s).rests

theorem State.deliver_rests (r : Requester) (words : List Word) : s.Rests (s.deliver r words) := by
  cases r with
  | fetch => exact s.deliverFetch_rests words
  | writeBack => exact ⟨rfl, rfl, rfl, id⟩
  | entry => exact ⟨rfl, rfl, rfl, id⟩
  | night => exact s.nightBurstDone_rests
  | anchor => exact s.deliverAnchor_rests words

theorem State.deliverEntry_of_hand {h : InHand} (hand : s.sweep.hand = some h) (words : List Word) :
    s.deliverEntry words = { s with sweep := { s.sweep with hand := some { h with phase := h.phase.delivered words } } } := by
  rw [State.deliverEntry, hand]
  rfl

theorem State.nightBurstDone_brings (w : NightWrite) (current : s.night.current = some w) :
    s.delivers s.nightBurstDone .night [] := by
  intro x same
  obtain rfl : w = x := Option.some.inj (current.symm.trans same)
  unfold State.nightBurstDone
  simp only [current]
  refine ⟨fun whole more => ?_, fun whole last => ?_, fun cut noneWaits => ?_, fun snap cut waits => ?_⟩
  · rw [if_neg (by simp [whole]), if_pos more]
    rfl
  · rw [if_neg (by simp [whole]), if_neg (by omega)]
    rfl
  · rw [if_pos cut, State.endNightWrite_of_none noneWaits]
  · rw [if_pos cut, State.endNightWrite_of_some waits]
    rfl

/-- Whatever the requester is, it has its words. -/
theorem State.deliver_brings (r : Requester) (words : List Word) : s.delivers (s.deliver r words) r words := by
  cases r with
  | fetch =>
    intro f current
    have delivered : s.deliver .fetch words = s.deliverFetch words := rfl
    rw [delivered]
    unfold State.deliverFetch
    simp only [current]
    refine ⟨fun last => ?_, fun b rest header more => ?_⟩
    · split
      · next header =>
        have noMore : f.toOffer = [] := last.resolve_left (by simp [header])
        simp only [State.offerNext, noMore]
        rfl
      · rfl
    · rw [if_pos header]
      simp only [State.offerNext, more]
      rfl
  | writeBack =>
    have delivered : s.deliver .writeBack words = s.setWbPhase s.wb.phase.delivered := rfl
    rw [delivered]
    refine ⟨fun phase => ?_, fun phase => ?_, fun phase => ?_⟩ <;> (rw [phase]; rfl)
  | entry =>
    intro h w hand
    have delivered : s.deliver .entry words = s.deliverEntry words := rfl
    rw [delivered, s.deliverEntry_of_hand hand]
    refine ⟨fun phase => ?_, fun phase => ?_, fun phase => ?_, fun phase => ?_⟩ <;> (rw [phase]; rfl)
  | night =>
    intro w current
    exact s.nightBurstDone_brings w current w current
  | anchor =>
    intro before address got saved load
    have delivered : s.deliver .anchor words = s.deliverAnchor words := rfl
    rw [delivered]
    simp only [State.deliverAnchor, load, List.isEmpty_iff]
    refine ⟨fun first => ?_, fun second => ?_⟩
    · rw [if_pos first]
      rfl
    · rw [if_neg second]
      rfl

end

/-! ### A read that failed on its repeat (R19, R26, R40, R102, R163) -/

section
variable (s : State)

theorem State.dropItem_rests (c : CellId) (b : BeaconNo) (place : Nat) : s.Rests (s.dropItem c b place) := by
  unfold State.dropItem
  split
  · exact (State.Stays.refl s).rests
  · have abandoned : s.Rests (s.abandonFetch c b place) := by
      unfold State.abandonFetch
      dsimp only
      split
      · exact ⟨rfl, rfl, rfl, id⟩
      · split
        · exact ⟨rfl, rfl, rfl, fun noCurrent => congrArg (Option.map _) noCurrent⟩
        · exact ⟨rfl, rfl, rfl, id⟩
    exact abandoned.trans ⟨rfl, rfl, rfl, id⟩

theorem State.notSent_rests (c : CellId) (b : BeaconNo) (place : Nat) : s.Rests (s.notSent c b place) := by
  unfold State.notSent
  split
  · exact (State.Stays.refl s).rests
  · split
    · have result (u : State) (index : Nat) : u.Rests (u.itemResult c index b .notSent) := by
        obtain ⟨d, w, n, x, f, frame⟩ := u.itemResult_frame c index b .notSent
        rw [frame]
        exact ⟨rfl, rfl, rfl, id⟩
      exact (s.dropItem_rests c b place).trans (result _ _)
    · exact (State.Stays.refl s).rests

theorem State.entryFailed_rests : s.Rests s.entryFailed := by
  unfold State.entryFailed
  split
  · exact (State.Stays.refl s).rests
  · split
    · split
      · exact ⟨rfl, rfl, rfl, id⟩
      · exact s.finishHand_stays.rests
    · exact ⟨rfl, rfl, rfl, id⟩

theorem State.refuseLoad_rests (before : ControllerState) : s.Rests (s.refuseLoad before) := by
  have refused : s.refuseLoad before = (s.setController before).finish .badAnchor 0 := rfl
  obtain ⟨a, v, frame⟩ := (s.setController before).finish_frame .badAnchor 0
  rw [refused, frame]
  exact ⟨rfl, rfl, rfl, id⟩

theorem State.failed_rests (r : Requester) : s.Rests (s.failed r) := by
  cases r with
  | fetch =>
    have failed : s.failed .fetch = s.fetchFailed := rfl
    rw [failed]
    unfold State.fetchFailed
    split
    · exact (State.Stays.refl s).rests
    · exact s.notSent_rests _ _ _
  | writeBack => exact ⟨rfl, rfl, rfl, id⟩
  | entry => exact s.entryFailed_rests
  | night => exact (State.Stays.refl s).rests
  | anchor =>
    have failed : s.failed .anchor = s.anchorFailed := rfl
    rw [failed]
    unfold State.anchorFailed
    split
    · exact s.refuseLoad_rests _
    · exact (State.Stays.refl s).rests

/-- A record with neither outcome nor flag whose item is not sent keeps all but its next eligible beacon (R52, R55, R60). -/
theorem DueRecord.afterResult_notSent (t : Settings) (done : Bool) (b : BeaconNo) {r : DueRecord} (works : r.outcome = none)
    (noFlag : r.lateAtFlip = false) :
    r.afterResult t done b .notSent = { r with eligible := b + BitVec.ofNat 32 (2 ^ r.k.toNat) } := by
  have judged : r.judged t done b .notSent = r := r.judged_of_clear t done b .notSent noFlag
  have working : r.outcome.isNone = true := Option.isNone_iff_eq_none.2 works
  rw [DueRecord.afterResult_eq_judged, judged, if_pos working, eligibleAfter_eq, if_neg (by simp), Nat.mul_one]

variable {c : CellId}

theorem State.dropItem_itemAt {b : BeaconNo} {place : Nat} {i : PlanItem} (item : s.itemAt c b place = some i) :
    (s.dropItem c b place).itemAt c b place = some { i with status := .dropped } := by
  have dropped : s.dropItem c b place = ((s.abandonFetch c b place).releaseBuffers c i.buffers).modItem c b place
      fun j => { j with status := .dropped } := by
    simp only [State.dropItem, item]
  obtain ⟨e, p, frame⟩ := s.abandonFetch_frame c b place
  rw [dropped, State.modItem_itemAt, frame]
  exact congrArg (Option.map _) item

/-- A working record whose result leaves it no outcome is WAITING again, or retires as DEFERRED under STOPPING (R52, R65). -/
theorem State.settleResult_works {q : DueRecord} {r : DueRecord} (inList : s.recordIn c q.index = some r) (works : q.outcome = none)
    (unread : q.refreshPending = false) :
    (s.stopping = false → (s.settleResult c q).recordIn c q.index = some { q with state := .waiting }) ∧
    (s.stopping = true → (s.settleResult c q).wb.list = s.wb.list ++ [q.index] ∧
      (s.settleResult c q).recordIn c q.index = some (q.retire .deferred)) := by
  have same : { q with refreshPending := false } = q := by rw [← unread]
  refine ⟨fun running => ?_, fun stopping => ?_⟩
  · have waits : s.settleResult c q = s.modRecord c q.index fun _ => { q with refreshPending := false, state := .waiting } := by
      unfold State.settleResult
      rw [if_neg (by simp [running])]
      split
      · next o given => cases works.symm.trans given
      · exact if_neg (by simp [unread])
    have changed := s.modRecord_recordIn c q.index (f := fun _ => { q with refreshPending := false, state := .waiting }) fun _ _ => rfl
    rw [waits, changed, inList, ← unread]
    rfl
  · have retires : s.settleResult c q = s.retireRecord c q.index .deferred fun _ => q := by
      unfold State.settleResult
      rw [if_pos stopping, same, works]
      rfl
    have changed := s.modRecord_recordIn c q.index (f := fun _ => q.retire .deferred) fun _ _ => rfl
    rw [inList] at changed
    rw [retires, State.retireRecord_eq]
    exact ⟨rfl, changed⟩

/-- The fetch of a live item fails: the item is dropped with NOT_SENT (R102). -/
theorem State.fetchFailed_handles : s.handlesFailure s.fetchFailed .fetch := by
  intro f i r current c item live inList eligible
  obtain ⟨d, isDropped⟩ : ∃ d, d = s.dropItem c f.elem.beacon f.elem.place := ⟨_, rfl⟩
  have failed : s.fetchFailed = d.itemResult c i.index f.elem.beacon .notSent := by
    have notSent : s.fetchFailed = s.notSent c f.elem.beacon f.elem.place := by
      simp only [State.fetchFailed, current]
      rfl
    rw [notSent, isDropped]
    simp only [State.notSent, item, live, if_true]
  obtain ⟨dropFrame, abandons, _⟩ := s.dropItem_drops c f.elem.beacon f.elem.place i item
  obtain ⟨noFetch, _⟩ := abandons f current ⟨rfl, rfl, rfl⟩
  have dropped := s.dropItem_itemAt item
  rw [← isDropped] at dropFrame noFetch dropped
  have isDrop : d = { s with
      seq := d.seq, store := cellPut s.store c ((s.storeAt c).filter fun x => !i.buffers.contains x.number),
      fetch := { list := d.fetch.list, current := none }, bus := d.bus } := by
    have seq := congrArg State.seq dropFrame
    have list := congrArg (fun v : State => v.fetch.list) dropFrame
    rw [seq, list, ← noFetch]
    exact dropFrame
  have still : d.recordIn c i.index = some r := by
    rw [isDrop]
    exact inList
  obtain ⟨e, w, n, x, g, resultFrame⟩ := d.itemResult_frame c i.index f.elem.beacon .notSent
  refine ⟨?_, ?_, ?_, fun planned works noFlag unread => ?_⟩
  · rw [failed, resultFrame, isDrop]
  · rw [failed, resultFrame, isDrop]
    exact cellAt_cellPut_same s.store c _
  · rw [failed, resultFrame]
    exact congrArg (Option.map PlanItem.status) dropped
  · have isIndex := State.index_of_recordIn inList
    have result : d.itemResult c i.index f.elem.beacon .notSent = d.settleResult c { r with eligible := eligible } := by
      simp only [State.itemResult, still, planned, true_or, if_true, DueRecord.afterResult_notSent _ _ _ works noFlag]
      rfl
    have record : d.recordIn c ({ r with eligible := eligible } : DueRecord).index = some r := by
      rw [← still]
      exact congrArg (d.recordIn c) isIndex
    obtain ⟨waits, retires⟩ := State.settleResult_works d record works unread
    have stopping : d.stopping = s.stopping := by rw [isDrop]; rfl
    have list : d.wb.list = s.wb.list := by rw [isDrop]
    rw [stopping, list] at retires
    rw [stopping] at waits
    rw [failed, result, ← isIndex]
    refine ⟨waits, fun stops => ?_⟩
    obtain ⟨joined, retired⟩ := retires stops
    refine ⟨joined, retired.trans ?_⟩
    simp [DueRecord.retire, noFlag]

/-- Whatever the requester is, it deals with the failure of its read. -/
theorem State.failed_handles (r : Requester) : s.handlesFailure (s.failed r) r := by
  cases r with
  | fetch => exact s.fetchFailed_handles
  | writeBack =>
    have failed : s.failed .writeBack = s.setWbPhase s.wb.phase.delivered := rfl
    rw [failed]
    refine ⟨fun phase => ?_, fun phase => ?_⟩ <;> (rw [phase]; rfl)
  | entry =>
    intro h w hand
    have failed : s.failed .entry = s.entryFailed := rfl
    rw [failed]
    unfold State.entryFailed
    simp only [hand]
    refine ⟨fun reading notice => ?_, fun reading other => ?_, fun marking => ?_, fun marking => ?_⟩
    · simp only [reading, notice, if_true]
      rfl
    · simp only [reading, other, if_false]
    · simp only [marking, s.deliverEntry_of_hand hand]
      rfl
    · simp only [marking, s.deliverEntry_of_hand hand]
      rfl
  | night => exact (rfl : s.failed .night = s)
  | anchor =>
    intro before phase load
    have failed : s.failed .anchor = s.anchorFailed := rfl
    rw [failed]
    simp only [State.anchorFailed, load]
    rfl

end

/-! ### The end of a transfer -/

section
variable {s : State} {tr : Transfer}

/-- With no RESET waiting for it, a transfer's end goes on to its requester (R166). -/
theorem State.afterTransfer_of (noReset : ∀ busy, s.cmd.inProgress ≠ some (.reset busy)) (go : State → State) :
    s.afterTransfer go = (go s).conclude := by
  unfold State.afterTransfer
  split
  · next busy reset => exact absurd reset (noReset busy)
  · rfl

end

/-- Settles O54: the port goes on, repeats, or ends, and its end reaches the requester. -/
theorem wordComplete : Obligations.WordComplete := by
  unfold Obligations.WordComplete
  intro s tr data parity quiet holding current reads bad last got idle
  obtain ⟨waiting, settled⟩ := s.quiet_iff.1 quiet
  obtain ⟨_, _, ports, _⟩ := s.settled_iff.1 settled
  have event := exec_wordComplete_of_holding (data := data) (parity := parity) holding current
  have isBad : tr.wordBad s.bus.nextWord data parity = true ↔ bad := Transfer.wordBad_iff data parity s.bus.nextWord
  have more : s.bus.nextWord + 1 < tr.action.words ↔ ¬last := by
    show _ ↔ ¬(tr.action.words ≤ s.bus.nextWord + 1)
    omega
  have stored : s.storeWord tr = { s with shared := (s.storeWord tr).shared } := by
    unfold State.storeWord
    split <;> rfl
  refine ⟨fun fails first => ?_, fun good notLast => ?_, fun noReset => ⟨fun good atLast => ?_, fun fails again => ?_⟩⟩
  · rw [event, State.completeWord, if_pos (isBad.2 fails), if_neg (by simp [first])]
    rfl
  · rw [event, State.completeWord, if_neg fun h => good (isBad.1 h), if_pos (more.2 notLast), stored]
    exact ⟨_, rfl, rfl⟩
  · obtain ⟨m, isM⟩ : ∃ m, m = (s.storeWord tr).shared := ⟨_, rfl⟩
    obtain ⟨ended, isEnded⟩ : ∃ u : State, u = { s with shared := m, bus := idle } := ⟨_, rfl⟩
    have done : exec (.wordComplete data parity) s =
        .next (if tr.orphan = true then ended else ended.deliver tr.requester got).conclude := by
      rw [event, State.completeWord, if_neg fun h => good (isBad.1 h), if_neg fun h => more.1 h atLast, stored, ← isM, isEnded]
      exact congrArg Host.Outcome.next (State.afterTransfer_of (s := { s with shared := m, bus := idle }) noReset _)
    have rests : ended.Rests (if tr.orphan = true then ended else ended.deliver tr.requester got) := by
      split
      · exact (State.Stays.refl ended).rests
      · exact ended.deliver_rests tr.requester got
    have settles := rests.conclude_settlesInto (by rw [isEnded]; exact waiting) (by rw [isEnded]; exact ports)
      (by rw [isEnded]) (by rw [isEnded])
    refine ⟨_, _, done, settles, ?_⟩
    have shared : (if tr.orphan = true then ended else ended.deliver tr.requester got).conclude.shared = m := by
      rw [(State.conclude_kept _).1]
      split
      · rw [isEnded]
      · rw [(ended.deliver_kept _ _).1, isEnded]
    intro final
    have isFinal : final = ended := by
      rw [isEnded]
      exact congrArg (fun m => ({ s with shared := m, bus := idle } : State)) shared
    rw [isFinal]
    refine ⟨fun orphan => if_pos orphan, fun served => ?_⟩
    rw [if_neg (by simp [served])]
    exact ended.deliver_brings tr.requester got
  · obtain ⟨ended, isEnded⟩ : ∃ u : State, u = { s with
        bus := idle, cmd := { s.cmd with attn := s.cmd.attn ||| 64 },
        counts := { s.counts with parityFaults := min (s.counts.parityFaults + 1) (2 ^ 32 - 1) } } := ⟨_, rfl⟩
    have done : exec (.wordComplete data parity) s =
        .next (if tr.orphan = true then ended else ended.failed tr.requester).conclude := by
      rw [event, State.completeWord, if_pos (isBad.2 fails), if_pos again, isEnded]
      exact congrArg Host.Outcome.next (State.afterTransfer_of (s := (s.setBus idle).memFault) noReset _)
    have rests : ended.Rests (if tr.orphan = true then ended else ended.failed tr.requester) := by
      split
      · exact (State.Stays.refl ended).rests
      · exact ended.failed_rests tr.requester
    have settles := rests.conclude_settlesInto (by rw [isEnded]; exact waiting) (by rw [isEnded]; exact ports)
      (by rw [isEnded]) (by rw [isEnded])
    refine ⟨_, _, done, settles, ?_⟩
    intro final
    have isFinal : final = ended := isEnded.symm
    rw [isFinal]
    refine ⟨fun orphan => if_pos orphan, fun served => ?_⟩
    rw [if_neg (by simp [served])]
    exact ended.failed_handles tr.requester

end Sys2Proof.Machine
end

section
/-! PROOFS. The waiting command: nothing but the command unit looks at it, and it is taken when the command in progress completes
(R175). -/

namespace Sys2Proof.Machine

/-- The state with another waiting command, or with none. -/
def State.withWaiting (s : State) (w : Option HostCommand) : State := { s with cmd := { s.cmd with waiting := w } }

section
variable (s : State) (w : Option HostCommand)

/-! ### What does not look at the waiting command -/

@[simp] theorem State.withWaiting_seqAt (c : CellId) : (s.withWaiting w).seqAt c = s.seqAt c := rfl
@[simp] theorem State.withWaiting_portAt (c : CellId) : (s.withWaiting w).portAt c = s.portAt c := rfl
@[simp] theorem State.withWaiting_dueAt (c : CellId) : (s.withWaiting w).dueAt c = s.dueAt c := rfl
@[simp] theorem State.withWaiting_recordIn (c : CellId) (index : Nat) : (s.withWaiting w).recordIn c index = s.recordIn c index := rfl
@[simp] theorem State.withWaiting_itemAt (c : CellId) (b : BeaconNo) (place : Nat) :
    (s.withWaiting w).itemAt c b place = s.itemAt c b place := rfl
@[simp] theorem State.withWaiting_stopping : (s.withWaiting w).stopping = s.stopping := rfl
@[simp] theorem State.withWaiting_nightOn : (s.withWaiting w).nightOn = s.nightOn := rfl
@[simp] theorem State.withWaiting_sweep : (s.withWaiting w).sweep = s.sweep := rfl
@[simp] theorem State.withWaiting_fetch : (s.withWaiting w).fetch = s.fetch := rfl
@[simp] theorem State.withWaiting_settings : (s.withWaiting w).settings = s.settings := rfl
@[simp] theorem State.withWaiting_timer : (s.withWaiting w).timer = s.timer := rfl
@[simp] theorem State.withWaiting_flip : (s.withWaiting w).flip = s.flip := rfl
@[simp] theorem State.withWaiting_night : (s.withWaiting w).night = s.night := rfl
@[simp] theorem State.withWaiting_inProgress : (s.withWaiting w).cmd.inProgress = s.cmd.inProgress := rfl
@[simp] theorem State.withWaiting_controller : (s.withWaiting w).cmd.controller = s.cmd.controller := rfl

theorem forCells_withWaiting {f : State → CellId → State} (h : ∀ u c, f (u.withWaiting w) c = (f u c).withWaiting w) :
    forCells f (s.withWaiting w) = (forCells f s).withWaiting w :=
  List.foldl_hom (fun u : State => u.withWaiting w) h

theorem State.modDue_withWaiting (c : CellId) (f : List DueRecord → List DueRecord) :
    (s.withWaiting w).modDue c f = (s.modDue c f).withWaiting w := rfl

theorem State.enqueueWriteBack_withWaiting (l : List Nat) :
    (s.withWaiting w).enqueueWriteBack l = (s.enqueueWriteBack l).withWaiting w := by
  rw [State.enqueueWriteBack_eq, State.enqueueWriteBack_eq]
  rfl

theorem State.retireWhere_withWaiting (p : DueRecord → Bool) (o : EntryState) :
    (s.withWaiting w).retireWhere p o = (s.retireWhere p o).withWaiting w :=
  forCells_withWaiting s w fun u c => (State.retireIn_eq p o _ c).trans (congrArg (State.withWaiting · w) (State.retireIn_eq p o u c)).symm

theorem State.retireRecord_withWaiting (c : CellId) (index : Nat) (o : EntryState) (f : DueRecord → DueRecord) :
    (s.withWaiting w).retireRecord c index o f = (s.retireRecord c index o f).withWaiting w := by
  rw [State.retireRecord_eq, State.retireRecord_eq]
  rfl

theorem State.rescanRetirement_withWaiting : (s.withWaiting w).rescanRetirement = s.rescanRetirement.withWaiting w :=
  s.clearDeferred.retireWhere_withWaiting w _ _

theorem State.rescanRequest_withWaiting : (s.withWaiting w).rescanRequest = s.rescanRequest.withWaiting w := by
  have retired (x : Sweep) : ((s.withWaiting w).setSweep x).rescanRetirement = (s.setSweep x).rescanRetirement.withWaiting w :=
    (s.setSweep x).rescanRetirement_withWaiting w
  unfold State.rescanRequest
  rw [State.withWaiting_nightOn, State.withWaiting_sweep]
  split_ifs
  · rfl
  · rfl
  · exact retired _
  · cases s.sweep.running with
    | none => exact retired _
    | some r =>
      dsimp only
      split_ifs <;> exact retired _

theorem State.joinReread_withWaiting (index : Nat) : (s.withWaiting w).joinReread index = (s.joinReread index).withWaiting w := by
  unfold State.joinReread
  rw [State.withWaiting_sweep]
  split_ifs
  · exact s.rescanRequest_withWaiting w
  · rfl
  · rfl

/-! ### Item results, dropped items and ended plans -/

theorem State.settleResult_withWaiting (c : CellId) (r : DueRecord) :
    (s.withWaiting w).settleResult c r = (s.settleResult c r).withWaiting w := by
  unfold State.settleResult
  dsimp only
  rw [State.withWaiting_stopping]
  by_cases draining : s.stopping = true
  · rw [if_pos draining, if_pos draining, State.retireRecord_withWaiting]
  · rw [if_neg draining, if_neg draining]
    cases r.outcome with
    | some o => exact s.retireRecord_withWaiting w c r.index o _
    | none =>
      dsimp only
      split_ifs
      · exact (s.modRecord c r.index fun _ => _).joinReread_withWaiting w _
      · rfl

theorem State.itemResult_withWaiting (c : CellId) (index : Nat) (b : BeaconNo) (res : ItemResult) :
    (s.withWaiting w).itemResult c index b res = (s.itemResult c index b res).withWaiting w := by
  unfold State.itemResult
  rw [State.withWaiting_recordIn]
  cases s.recordIn c index with
  | none => rfl
  | some r =>
    dsimp only
    split_ifs
    · exact s.settleResult_withWaiting w c _
    · rfl

theorem State.abandonFetch_withWaiting (c : CellId) (b : BeaconNo) (place : Nat) :
    (s.withWaiting w).abandonFetch c b place = (s.abandonFetch c b place).withWaiting w := by
  unfold State.abandonFetch
  rw [State.withWaiting_fetch]
  cases s.fetch.current with
  | none => rfl
  | some f =>
    dsimp only
    split_ifs <;> rfl

theorem State.dropItem_withWaiting (c : CellId) (b : BeaconNo) (place : Nat) :
    (s.withWaiting w).dropItem c b place = (s.dropItem c b place).withWaiting w := by
  unfold State.dropItem
  rw [State.withWaiting_itemAt, State.abandonFetch_withWaiting]
  cases s.itemAt c b place <;> rfl

theorem State.notSent_withWaiting (c : CellId) (b : BeaconNo) (place : Nat) :
    (s.withWaiting w).notSent c b place = (s.notSent c b place).withWaiting w := by
  unfold State.notSent
  rw [State.withWaiting_itemAt, State.dropItem_withWaiting]
  cases s.itemAt c b place with
  | none => rfl
  | some i =>
    dsimp only
    split_ifs
    · exact (s.dropItem c b place).itemResult_withWaiting w c _ b _
    · rfl

theorem State.notSentAll_withWaiting (c : CellId) (plan : Plan) :
    (s.withWaiting w).notSentAll c plan = (s.notSentAll c plan).withWaiting w :=
  List.foldl_hom (fun u : State => u.withWaiting w) fun u place => u.notSent_withWaiting w c plan.beacon place

/-! ### Flips and reports -/

theorem State.flipRecords_withWaiting (g : BitVec 4) : (s.withWaiting w).flipRecords g = (s.flipRecords g).withWaiting w := by
  unfold State.flipRecords
  rw [forCells_withWaiting s w fun u c => rfl, State.withWaiting_settings]
  dsimp only
  rw [State.retireWhere_withWaiting]
  split_ifs <;> rfl

theorem State.changeoverRequest_withWaiting (g : GroupId) :
    (s.withWaiting w).changeoverRequest g = (s.changeoverRequest g).withWaiting w := by
  unfold State.changeoverRequest
  rw [State.withWaiting_nightOn, State.withWaiting_sweep]
  split_ifs <;> rfl

theorem State.takeFlip_withWaiting (b : BeaconNo) (g : GroupId) : (s.withWaiting w).takeFlip b g = (s.takeFlip b g).withWaiting w := by
  unfold State.takeFlip
  have group : (s.withWaiting w).groupRec g = s.groupRec g := rfl
  dsimp only
  rw [group]
  split_ifs
  · rfl
  · cases (s.groupRec g).state with
    | announced =>
      dsimp only
      have raised : ((s.withWaiting w).modGroup g fun q => { q with state := .done }).raise .flip =
          ((s.modGroup g fun q => { q with state := .done }).raise .flip).withWaiting w := rfl
      rw [raised, State.flipRecords_withWaiting, State.changeoverRequest_withWaiting]
    | cancelling => rfl
    | opened => rfl
    | done => rfl

theorem State.takeFlips_withWaiting (b : BeaconNo) : (s.withWaiting w).takeFlips b = (s.takeFlips b).withWaiting w :=
  List.foldl_hom (fun u : State => u.withWaiting w) fun u g => u.takeFlip_withWaiting w b g

theorem State.reportBeacon_withWaiting (c : CellId) (b : BeaconNo) (sent : Bool) :
    (s.withWaiting w).reportBeacon c b sent = (s.reportBeacon c b sent).withWaiting w := by
  have reported (u : FlipUnit) : ((s.withWaiting w).setFlip u).takeFlips b = ((s.setFlip u).takeFlips b).withWaiting w :=
    (s.setFlip u).takeFlips_withWaiting w b
  unfold State.reportBeacon
  dsimp only
  rw [State.withWaiting_timer, State.withWaiting_flip]
  by_cases last : b = s.timer.now
  · rw [if_pos last, if_pos last, reported]
    generalize ({ groups := if sent = true then s.flip.groups else tableMap (GroupRecord.missed c b) s.flip.groups,
                  reported := s.flip.reported ||| cellBit c } : FlipUnit) = unit
    have same : ((s.withWaiting w).setFlip unit).flip = unit := rfl
    have own : (s.setFlip unit).flip = unit := rfl
    rw [same, own]
    split_ifs <;> rfl
  · rw [if_neg last, if_neg last]
    rfl

/-! ### Beacons missed and probes -/

theorem State.takeOffPending_withWaiting (c : CellId) : (s.withWaiting w).takeOffPending c = (s.takeOffPending c).withWaiting w := by
  unfold State.takeOffPending
  rw [State.withWaiting_seqAt]
  split_ifs <;> rfl

theorem State.beaconFault_withWaiting (c : CellId) (b : BeaconNo) :
    (s.withWaiting w).beaconFault c b = (s.beaconFault c b).withWaiting w := by
  unfold State.beaconFault
  rw [State.withWaiting_seqAt, State.reportBeacon_withWaiting]
  cases (s.seqAt c).standing with
  | none => rfl
  | some plan =>
    dsimp only
    rw [State.notSentAll_withWaiting]
    obtain ⟨u, isU⟩ : ∃ u, u = ((s.reportBeacon c b false).notSentAll c plan).modSeq c Sequencer.noPlan := ⟨_, rfl⟩
    have same : (((s.reportBeacon c b false).notSentAll c plan).withWaiting w).modSeq c Sequencer.noPlan = u.withWaiting w := by
      rw [isU]
      rfl
    rw [same, ← isU, State.withWaiting_stopping, State.takeOffPending_withWaiting]
    split_ifs <;> rfl

theorem State.missWaiting_withWaiting (c : CellId) : (s.withWaiting w).missWaiting c = (s.missWaiting c).withWaiting w := by
  unfold State.missWaiting
  rw [State.withWaiting_seqAt, State.withWaiting_portAt]
  cases (s.seqAt c).standing with
  | none => rfl
  | some plan =>
    dsimp only
    rw [State.beaconFault_withWaiting]
    split_ifs <;> rfl

theorem State.quietCheck_withWaiting (c : CellId) : (s.withWaiting w).quietCheck c = (s.quietCheck c).withWaiting w := by
  unfold State.quietCheck
  have quiet : (s.withWaiting w).goQuiet c = (s.goQuiet c).withWaiting w := by
    unfold State.goQuiet
    rw [State.withWaiting_seqAt]
    split_ifs <;> rfl
  dsimp only
  rw [State.withWaiting_portAt, quiet, State.missWaiting_withWaiting]
  split_ifs <;> rfl

theorem State.nightDue_withWaiting (awaited : Bool) : (s.withWaiting w).nightDue awaited = (s.nightDue awaited).withWaiting w := by
  unfold State.nightDue
  dsimp only
  rw [State.withWaiting_night]
  cases s.night.current <;> rfl

theorem State.nightIfLoaded_withWaiting : (s.withWaiting w).nightIfLoaded = s.nightIfLoaded.withWaiting w := by
  unfold State.nightIfLoaded
  rw [State.withWaiting_controller, State.nightDue_withWaiting]
  split_ifs <;> rfl

theorem State.cutCommandOver_withWaiting (c : CellId) : (s.withWaiting w).cutCommandOver c = (s.cutCommandOver c).withWaiting w := by
  unfold State.cutCommandOver
  rw [State.withWaiting_inProgress]
  split_ifs
  · exact (s.finish .ok 0).nightIfLoaded_withWaiting w
  · rfl

theorem State.finishCellOn_eq (c : CellId) (ok : Bool) : s.finishCellOn c ok =
    if s.cmd.inProgress = some (.cellOn c) then
      (s.finish (if ok then .ok else .probeFailed) (s.portAt c).status.code).nightIfLoaded else s := rfl

theorem State.finishCellOn_withWaiting (c : CellId) (ok : Bool) :
    (s.withWaiting w).finishCellOn c ok = (s.finishCellOn c ok).withWaiting w := by
  rw [State.finishCellOn_eq, State.finishCellOn_eq, State.withWaiting_inProgress, State.withWaiting_portAt]
  split_ifs
  · exact State.nightIfLoaded_withWaiting (s.finish _ _) w
  · exact State.nightIfLoaded_withWaiting (s.finish _ _) w
  · rfl

end

/-! ### Steps that complete the command in progress -/

/-- A step either leaves a command in progress or does not look at the waiting one. -/
def State.Spares (F : State → State) (s : State) : Prop :=
  (F s).cmd.inProgress.isSome = true ∨ ∀ w, F (s.withWaiting w) = (F s).withWaiting w

section
variable {s : State} {F G : State → State}

theorem State.Calm.spares (calm : s.Calm (F s)) (running : s.cmd.inProgress.isSome = true) : State.Spares F s :=
  .inl (by rw [calm.inProgress, running])

/-- In a branch of the step that another waiting command does not change. -/
theorem State.Spares.branch (spares : State.Spares G s) (same : ∀ w, F (s.withWaiting w) = G (s.withWaiting w)) : State.Spares F s := by
  have own : F s = G s := same s.cmd.waiting
  refine spares.imp (fun left => own ▸ left) fun spared w => ?_
  rw [same w, spared w, own]

/-- A step behind one that changes neither command. -/
theorem State.Spares.after (before : ∀ w, G (s.withWaiting w) = (G s).withWaiting w) (spares : State.Spares F (G s)) :
    State.Spares (fun u => F (G u)) s :=
  spares.imp id fun spared w => (congrArg F (before w)).trans (spared w)

/-- A step that completes a command, with one behind it that changes neither command. -/
theorem State.Spares.before (spares : State.Spares F s) (calm : ∀ u : State, u.Calm (G u))
    (behind : ∀ (u : State) w, G (u.withWaiting w) = (G u).withWaiting w) : State.Spares (fun u => G (F u)) s :=
  spares.imp (fun left => (congrArg Option.isSome (calm (F s)).inProgress).trans left)
    fun spared w => (congrArg G (spared w)).trans (behind (F s) w)

end

section
variable {s : State} (running : s.cmd.inProgress.isSome = true)
include running

theorem State.checkLoadProbes_running : s.checkLoadProbes.cmd.inProgress.isSome = true := by
  unfold State.checkLoadProbes
  split
  · split
    · exact running
    · rw [(State.nightDue_calm _ true).inProgress]
      rfl
  · exact running

theorem State.modPort_spares (c : CellId) (f : RadioPort → RadioPort) : State.Spares (fun u => u.modPort c f) s :=
  (s.modPort_calm c f).spares running

theorem State.probeEnd_spares (c : CellId) (status : ProbeStatus) (ok : Bool) : State.Spares (fun u => u.probeEnd c status ok) s := by
  cases hasProbe : (s.portAt c).probe with
  | none =>
    refine State.Spares.branch (G := id) (.inl running) fun w => ?_
    simp only [State.probeEnd, State.withWaiting_portAt, hasProbe, id]
  | some probe =>
    have ported (u : State) (w : Option HostCommand) (f : RadioPort → RadioPort) :
        (u.withWaiting w).modPort c f = (u.modPort c f).withWaiting w := rfl
    have raised (u : State) (w : Option HostCommand) (cause : Cause) :
        (u.withWaiting w).raise cause = (u.raise cause).withWaiting w := rfl
    cases reason : probe.reason with
    | load =>
      left
      simp only [State.probeEnd, hasProbe, reason]
      exact State.checkLoadProbes_running running
    | cellOn before =>
      right
      intro w
      simp only [State.probeEnd, State.withWaiting_portAt, hasProbe, reason, ported, raised, State.finishCellOn_withWaiting]
      split_ifs
      · exact State.finishCellOn_withWaiting _ w c true
      · exact State.finishCellOn_withWaiting (State.raise _ .cell) w c true
      · rfl
    | restart adopted =>
      cases adopted with
      | true =>
        right
        intro w
        simp only [State.probeEnd, State.withWaiting_portAt, hasProbe, reason, ported, raised, State.finishCellOn_withWaiting]
        split_ifs <;> rfl
      | false =>
        left
        simp only [State.probeEnd, hasProbe, reason]
        split_ifs <;> exact running

theorem State.identAnswered_spares (c : CellId) (kind : BitVec 8) : State.Spares (fun u => u.identAnswered c kind) s := by
  cases hasProbe : (s.portAt c).probe with
  | none =>
    refine .inl ?_
    simp only [State.identAnswered, hasProbe]
    exact running
  | some probe =>
    by_cases good : kind = Config.transceiverKind
    · refine .inl ?_
      simp only [State.identAnswered, hasProbe, if_pos good]
      exact running
    · refine (State.probeEnd_spares running c .wrongKind false).branch fun w => ?_
      simp only [State.identAnswered, State.withWaiting_portAt, hasProbe, if_neg good]

theorem State.identSilent_spares (c : CellId) (seen : DataIn) : State.Spares (fun u => u.identSilent c seen) s := by
  cases hasProbe : (s.portAt c).probe with
  | none =>
    refine .inl ?_
    simp only [State.identSilent, hasProbe]
    exact running
  | some probe =>
    by_cases more : (probe.tries ++ [seen]).length < 3
    · refine .inl ?_
      simp only [State.identSilent, hasProbe, if_pos more]
      exact running
    · refine (State.probeEnd_spares running c (silentStatus (probe.tries ++ [seen])) false).branch fun w => ?_
      simp only [State.identSilent, State.withWaiting_portAt, hasProbe, if_neg more]

theorem State.answered_spares (c : CellId) (k : LinkCommand) (purpose : Purpose) (kind : BitVec 8) :
    State.Spares (fun u => u.answered c k purpose kind) s := by
  have idle : State.Spares (fun u => u) s := .inl running
  cases purpose with
  | beacon b => exact (s.beaconSent_calm c b).spares running
  | window b => exact idle
  | probe =>
    cases k with
    | ident => exact State.identAnswered_spares running c kind
    | tune channel rate => exact State.probeEnd_spares running c .present true
    | send frame => exact idle
    | listen micros => exact idle
    | rest => exact idle
  | port => exact idle
  | orphan => exact .inr fun w => s.cutCommandOver_withWaiting w c

theorem State.reportFault_spares (c : CellId) (k : LinkCommand) (purpose : Purpose) :
    State.Spares (fun u => u.reportFault c k purpose) s := by
  have idle : State.Spares (fun u => u) s := .inl running
  cases purpose with
  | beacon b => exact (s.beaconFault_calm c b).spares running
  | window b => exact (s.portFault_calm c b).spares running
  | probe =>
    cases k with
    | ident => exact idle
    | tune channel rate => exact State.probeEnd_spares running c .noAnswer false
    | send frame => exact idle
    | listen micros => exact idle
    | rest => exact idle
  | port => exact idle
  | orphan => exact .inr fun w => s.cutCommandOver_withWaiting w c

theorem State.linkFault_spares (c : CellId) (k : LinkCommand) (purpose : Purpose) :
    State.Spares (fun u => u.linkFault c k purpose) s :=
  ((State.reportFault_spares (s := s.modPort c fun p => { (p.dropFaulted purpose).faulted k with exchange := none })
      running c k purpose).after (G := fun u => u.modPort c fun p => { (p.dropFaulted purpose).faulted k with exchange := none })
    fun _ => rfl).before (G := fun u => u.quietCheck c) (fun u => u.quietCheck_calm c) fun u w => u.quietCheck_withWaiting w c

theorem State.unanswered_spares (c : CellId) (k : LinkCommand) (purpose : Purpose) (second last : Bool) (seen : DataIn) :
    State.Spares (fun u => u.unanswered c k purpose second last seen) s := by
  unfold State.unanswered
  split_ifs
  · exact .inl running
  · exact (State.identSilent_spares (s := s.endExchange c) running c seen).after (G := fun u => u.endExchange c) fun _ => rfl
  · exact State.linkFault_spares running c k purpose
  · exact .inr fun w => (s.endExchange c).cutCommandOver_withWaiting w c
  · exact .inl running

theorem State.takeAnswer_spares (c : CellId) (answer : Word) : State.Spares (fun u => u.takeAnswer c answer) s := by
  by_cases command : ∃ k purpose second last, (s.portAt c).exchange = some (.command k purpose second last)
  · obtain ⟨k, purpose, second, last, exchange⟩ := command
    have isOut (w : Option HostCommand) : ((s.withWaiting w).portAt c).exchange = some (.command k purpose second last) := exchange
    by_cases accepted : answers k answer = true
    · refine State.Spares.branch ((State.answered_spares (s := s.modPort c fun p => { p.heard k with exchange := none }) running c k
        purpose (answerKind answer)).after (G := fun u => u.modPort c fun p => { p.heard k with exchange := none }) fun _ => rfl)
        fun w => ?_
      simp only [State.takeAnswer, isOut, if_pos accepted]
    · refine (State.unanswered_spares running c k purpose second last .varied).branch fun w => ?_
      simp only [State.takeAnswer, isOut, if_neg accepted]
  · have same : s.takeAnswer c answer = s := by
      unfold State.takeAnswer
      split
      · next k purpose second last exchange => exact absurd ⟨k, purpose, second, last, exchange⟩ command
      · rfl
    exact .inl ((congrArg (fun u : State => u.cmd.inProgress.isSome) same).trans running)

theorem State.takeTimeout_spares (c : CellId) (seen : DataIn) : State.Spares (fun u => u.takeTimeout c seen) s := by
  by_cases command : ∃ k purpose second last, (s.portAt c).exchange = some (.command k purpose second last)
  · obtain ⟨k, purpose, second, last, exchange⟩ := command
    have isOut (w : Option HostCommand) : ((s.withWaiting w).portAt c).exchange = some (.command k purpose second last) := exchange
    refine (State.unanswered_spares running c k purpose second last seen).branch fun w => ?_
    simp only [State.takeTimeout, isOut]
  · have same : s.takeTimeout c seen = s := by
      unfold State.takeTimeout
      split
      · next k purpose second last exchange => exact absurd ⟨k, purpose, second, last, exchange⟩ command
      · rfl
    exact .inl ((congrArg (fun u : State => u.cmd.inProgress.isSome) same).trans running)

theorem State.anchorRead_spares : State.Spares State.anchorRead s := by
  by_cases read : ∃ before words saved, s.cmd.inProgress = some (.load before (.read words saved))
  · obtain ⟨before, words, saved, load⟩ := read
    by_cases accepted : anchorAccepted words = true
    · refine .inl ?_
      simp only [State.anchorRead, load, if_pos accepted, State.probeForLoad]
      exact State.checkLoadProbes_running rfl
    · refine State.Spares.branch (G := fun u => u.refuseLoad before) (.inr fun w => rfl) fun w => ?_
      simp only [State.anchorRead, State.withWaiting_inProgress, load, if_neg accepted]
  · have same : s.anchorRead = s := by
      unfold State.anchorRead
      split
      · next before words saved load => exact absurd ⟨before, words, saved, load⟩ read
      · rfl
    exact .inl ((congrArg (fun u : State => u.cmd.inProgress.isSome) same).trans running)

omit running in
theorem State.endNightWrite_withWaiting (s : State) (w : Option HostCommand) :
    (s.withWaiting w).endNightWrite = s.endNightWrite.withWaiting w := by
  unfold State.endNightWrite
  dsimp only
  rw [State.withWaiting_night]
  cases s.night.waiting <;> rfl

omit running in
theorem State.nightWritten_withWaiting (s : State) (w : Option HostCommand) :
    (s.withWaiting w).nightWritten = s.nightWritten.withWaiting w := by
  unfold State.nightWritten
  rw [State.withWaiting_inProgress]
  split
  · split_ifs <;> rfl
  all_goals rfl

omit running in
theorem State.nightDone_spares : State.Spares State.nightDone s := by
  refine .inr fun w => ?_
  unfold State.nightDone
  rw [State.withWaiting_night, State.endNightWrite_withWaiting, State.nightWritten_withWaiting]
  cases s.night.current with
  | none => rfl
  | some n =>
    dsimp only
    split_ifs <;> rfl

omit running in
theorem State.abortLoad_withWaiting (s : State) (w : Option HostCommand) (before : ControllerState) (phase : LoadPhase) :
    (s.withWaiting w).abortLoad before phase = (s.abortLoad before phase).withWaiting w := by
  unfold State.abortLoad
  cases phase with
  | probing aside clamps saved =>
    have restored := forCells_withWaiting (s.setController before) w
      (f := fun v c => v.modPort c fun p => p.restore (cellAt saved c)) fun _ _ => rfl
    exact congrArg (fun u : State => u.finish .aborted 0) restored
  | reading address got saved => rfl
  | read words saved => rfl
  | recording clamps => rfl

omit running in
theorem State.abortCellOn_spares (c : CellId) : State.Spares (fun u => u.abortCellOn c) s := by
  by_cases out : (s.portAt c).probeCommandOut = true
  · refine .inl ?_
    simp only [State.abortCellOn, if_pos out]
    rfl
  · refine State.Spares.branch (G := fun u => ((u.modPort c RadioPort.cutProbe).finish .ok 0).nightIfLoaded)
      (.inr fun w => State.nightIfLoaded_withWaiting ((s.modPort c RadioPort.cutProbe).finish .ok 0) w) fun w => ?_
    simp only [State.abortCellOn, State.withWaiting_portAt]
    exact if_neg out

omit running in
/-- ABORT of a night waits for its record; the other ABORTs look at the command in progress. -/
theorem State.takeAbort_spares (s : State) : State.Spares State.takeAbort s := by
  have refused : State.Spares State.wrongState s := .inr fun _ => rfl
  have night : State.Spares State.abortNight s := by
    refine .inl ?_
    rw [State.abortNight, (State.nightAbort_calm _).inProgress]
    rfl
  cases controller : s.cmd.controller with
  | running => exact night.branch fun w => by simp only [State.takeAbort, State.withWaiting_controller, controller]
  | paused => exact night.branch fun w => by simp only [State.takeAbort, State.withWaiting_controller, controller]
  | stopping => exact night.branch fun w => by simp only [State.takeAbort, State.withWaiting_controller, controller]
  | unloaded => exact refused.branch fun w => by simp only [State.takeAbort, State.withWaiting_controller, controller]
  | faulted => exact refused.branch fun w => by simp only [State.takeAbort, State.withWaiting_controller, controller]
  | loading =>
    by_cases load : ∃ before phase, s.cmd.inProgress = some (.load before phase)
    · obtain ⟨before, phase, load⟩ := load
      refine State.Spares.branch (G := fun u => u.abortLoad before phase)
        (.inr fun w => s.abortLoad_withWaiting w before phase) fun w => ?_
      simp only [State.takeAbort, State.withWaiting_controller, controller, State.withWaiting_inProgress, load]
    · refine refused.branch fun w => ?_
      simp only [State.takeAbort, State.withWaiting_controller, controller, State.withWaiting_inProgress]
      split
      · next before phase h => exact absurd ⟨before, phase, h⟩ load
      · rfl
  | loaded =>
    by_cases cellOn : ∃ c, s.cmd.inProgress = some (.cellOn c)
    · obtain ⟨c, cellOn⟩ := cellOn
      refine (State.abortCellOn_spares c).branch fun w => ?_
      simp only [State.takeAbort, State.withWaiting_controller, controller, State.withWaiting_inProgress, cellOn]
    · by_cases load : ∃ before phase, s.cmd.inProgress = some (.load before phase)
      · obtain ⟨before, phase, load⟩ := load
        refine State.Spares.branch (G := fun u => u.setRunning (.abort .aborted 0)) (.inl rfl) fun w => ?_
        simp only [State.takeAbort, State.withWaiting_controller, controller, State.withWaiting_inProgress, load]
      · refine refused.branch fun w => ?_
        simp only [State.takeAbort, State.withWaiting_controller, controller, State.withWaiting_inProgress]
        split
        · next c h => exact absurd ⟨c, h⟩ cellOn
        · next before phase h => exact absurd ⟨before, phase, h⟩ load
        · rfl

omit running in
theorem State.cutNight_withWaiting (s : State) (w : Option HostCommand) (hand : Option InHand) :
    (s.withWaiting w).cutNight hand = (s.cutNight hand).withWaiting w := by
  have cells := forCells_withWaiting ((s.endSweep hand).discardRecords.reopenGroups) w (f := State.cutCell) fun u c =>
    State.takeOffPending_withWaiting ((u.modPort c fun p => p.cut.cutProbe).modSeq c fun q =>
      { q.noPlan with coming := none, cut := true }) w c
  have begun : (((s.withWaiting w).endSweep hand).discardRecords.reopenGroups) =
      ((s.endSweep hand).discardRecords.reopenGroups).withWaiting w := rfl
  have withdrawn (u v : State) (h : v = u.withWaiting w) :
      ((v.setFetch { list := [], current := none }).setStore (Vector.replicate 4 [])).setTimer { v.timer with schedule := none } =
        (((u.setFetch { list := [], current := none }).setStore (Vector.replicate 4 [])).setTimer
          { u.timer with schedule := none }).withWaiting w := by
    rw [h]
    rfl
  exact withdrawn _ _ ((congrArg (forCells State.cutCell) begun).trans cells)

omit running in
/-- With no RESET waiting, entry into FAULTED completes whatever command is in progress. -/
theorem State.enterFaulted_spares (noReset : ∀ busy, s.cmd.inProgress ≠ some (.reset busy)) :
    State.Spares State.enterFaulted s := by
  refine .inr fun w => ?_
  rw [State.enterFaulted_of_notReset noReset, State.enterFaulted_of_notReset (s := s.withWaiting w) noReset]
  dsimp only
  rw [State.cutNight_withWaiting, State.withWaiting_inProgress]
  have back (u : State) (r : Option Running) : (u.withWaiting w).bringBack r = (u.bringBack r).withWaiting w := by
    unfold State.bringBack
    split
    · exact forCells_withWaiting u w fun _ _ => rfl
    · rfl
  obtain ⟨v, isV⟩ : ∃ v, v = s.cutNight none := ⟨_, rfl⟩
  rw [← isV]
  have cut : (((v.withWaiting w).setBus memoryPortReset).setNight
      { ((v.withWaiting w).setBus memoryPortReset).night with current := none, waiting := none }) =
      ((v.setBus memoryPortReset).setNight { (v.setBus memoryPortReset).night with current := none, waiting := none }).withWaiting w :=
    rfl
  rw [cut, back]
  split_ifs <;> rfl

/-- A transfer that has ended leaves its LOAD in progress or refuses it. -/
theorem State.failed_spares (r : Requester) : State.Spares (fun u => u.failed r) s := by
  cases r with
  | fetch => exact s.fetchFailed_calm.spares running
  | writeBack => exact (s.setWbPhase_calm _).spares running
  | entry => exact s.entryFailed_calm.spares running
  | night => exact .inl running
  | anchor =>
    by_cases load : ∃ before phase, s.cmd.inProgress = some (.load before phase)
    · obtain ⟨before, phase, load⟩ := load
      refine State.Spares.branch (G := fun u => u.refuseLoad before) (.inr fun w => rfl) fun w => ?_
      simp only [State.failed, State.anchorFailed, State.withWaiting_inProgress, load]
    · have same : s.failed .anchor = s := by
        have failed : s.failed .anchor = s.anchorFailed := rfl
        rw [failed]
        unfold State.anchorFailed
        split
        · next before phase h => exact absurd ⟨before, phase, h⟩ load
        · rfl
      exact .inl ((congrArg (fun u : State => u.cmd.inProgress.isSome) same).trans running)

theorem State.deliver_running (r : Requester) (words : List Word) : (s.deliver r words).cmd.inProgress.isSome = true := by
  cases r with
  | fetch =>
    have calm := (s.deliverFetch_calm words).inProgress
    exact (congrArg Option.isSome calm).trans running
  | writeBack => exact running
  | entry => exact running
  | night => exact (congrArg Option.isSome s.nightBurstDone_calm.inProgress).trans running
  | anchor =>
    have delivered : s.deliver .anchor words = s.deliverAnchor words := rfl
    rw [delivered]
    unfold State.deliverAnchor
    split
    · split <;> rfl
    · exact running

end

/-! ### The waiting command is taken (R175) -/

section
variable {s t : State}

/-- A step keeps a command in progress until an event completes it. -/
theorem State.conclude_running_isSome (running : s.cmd.inProgress.isSome = true) : s.conclude.cmd.inProgress.isSome = true := by
  rw [s.conclude_same (.inr running), State.proceed, (State.arbitrate_calm _).inProgress, (State.kickAll_calm _).inProgress]
  by_cases drained : s.drainDue = true
  · rw [s.checkDrain_over drained, (State.nightDue_calm _ true).inProgress]
    rfl
  · rw [s.checkDrain_same (by simpa using drained)]
    exact running

/-- What a step answers that has completed its command: the waiting one is taken in the state that the step leaves. -/
theorem State.Spares.conclude_takes {F : State → State} {c : HostCommand} (spares : State.Spares F (s.withWaiting none))
    (done : (F (s.withWaiting none)).conclude.cmd.inProgress = none) (waits : s.cmd.waiting = some c) :
    (F s).conclude = ((F (s.withWaiting none)).conclude.takeCommand c).proceed := by
  rcases spares with running | spared
  · rw [← Option.not_isSome_iff_eq_none, State.conclude_running_isSome running] at done
    exact absurd rfl done
  · have isWaiting : s = (s.withWaiting none).withWaiting (some c) := by
      rw [← waits]
      rfl
    have own := spared none
    have after := spared (some c)
    rw [← isWaiting] at after
    obtain ⟨u, isU⟩ : ∃ u, u = F (s.withWaiting none) := ⟨_, rfl⟩
    have idle : u.cmd.inProgress = none := by
      by_contra some_
      have running := State.conclude_running_isSome (s := u) (Option.isSome_iff_ne_none.2 some_)
      rw [isU, done] at running
      exact absurd running (by simp)
    have unwaiting : u = u.withWaiting none := by
      rw [isU]
      exact own
    rw [after, ← isU, State.conclude_taking (u.withWaiting (some c)) c idle rfl]
    have back : ({ u.withWaiting (some c) with cmd := { (u.withWaiting (some c)).cmd with waiting := none } } : State) = u :=
      unwaiting.symm
    rw [back]

/-- A command taken by a free command unit. -/
theorem State.conclude_takeCommand (idle : t.cmd.inProgress = none) (waiting : t.cmd.waiting = none) (c : HostCommand) :
    (t.takeCommand c).conclude = (t.takeCommand c).proceed :=
  State.conclude_same _ (.inl ((t.takeCommand_sound idle c).waiting waiting))

/-- An event whose step is followed by the end of a step. -/
theorem exec_takes {F : State → State} {e : Instr} {c : HostCommand} (event : ∀ w, exec e (s.withWaiting w) =
    .next (F (s.withWaiting w)).conclude) (spares : State.Spares F (s.withWaiting none)) (step : exec e (s.withWaiting none) = .next t) (done : t.cmd.inProgress = none)
    (waits : s.cmd.waiting = some c) : exec e s = .next (t.takeCommand c).proceed ∧ t.cmd.waiting = none := by
  obtain rfl : (F (s.withWaiting none)).conclude = t := Host.Outcome.next.inj ((event _).symm.trans step)
  rw [← spares.conclude_takes done waits]
  obtain ⟨command, _⟩ := (State.settled_iff _).1 (State.conclude_settles (F (s.withWaiting none)))
  exact ⟨event s.cmd.waiting, command.resolve_left (by simp [done])⟩

end

/-- A word that ends a transfer may refuse a LOAD; any other leaves the command in progress. -/
theorem exec_wordComplete_takes {s t : State} {data : Word} {parity : BitVec 4} {c : HostCommand}
    (running : s.cmd.inProgress.isSome = true) (noReset : ∀ busy, s.cmd.inProgress ≠ some (.reset busy))
    (step : exec (.wordComplete data parity) (s.withWaiting none) = .next t) (done : t.cmd.inProgress = none)
    (waits : s.cmd.waiting = some c) :
    exec (.wordComplete data parity) s = .next (t.takeCommand c).proceed ∧ t.cmd.waiting = none := by
  obtain ⟨u, isU⟩ : ∃ u, u = s.withWaiting none := ⟨_, rfl⟩
  rw [← isU] at step
  have uRunning : u.cmd.inProgress.isSome = true := by
    rw [isU]
    exact running
  have uNoReset (busy : Bool) : u.cmd.inProgress ≠ some (.reset busy) := by
    rw [isU]
    exact noReset busy
  have goesOn {v : State} (is : t = v) (vRunning : v.cmd.inProgress.isSome = true) :
      exec (.wordComplete data parity) s = .next (t.takeCommand c).proceed ∧ t.cmd.waiting = none := by
    rw [← is, done] at vRunning
    exact absurd vRunning (by simp)
  by_cases waiting : s.bus.bus = .holding ∧ ∃ tr, s.bus.current = some tr
  · obtain ⟨holding, tr, current⟩ := waiting
    have words (w : Option HostCommand) := exec_wordComplete_of_holding (data := data) (parity := parity) (s := s.withWaiting w)
      holding current
    have made : t = u.completeWord tr data parity := by
      rw [isU] at step ⊢
      exact Host.Outcome.next.inj (step.symm.trans (words none))
    by_cases bad : tr.wordBad s.bus.nextWord data parity = true
    · have uBad : tr.wordBad u.bus.nextWord data parity = true := by
        rw [isU]
        exact bad
      by_cases again : s.bus.retry = true
      · have failed (w : Option HostCommand) : (s.withWaiting w).completeWord tr data parity =
            (if tr.orphan = true then ((s.withWaiting w).setBus s.bus.release).memFault
              else ((s.withWaiting w).setBus s.bus.release).memFault.failed tr.requester).conclude := by
          have isFailed : (s.withWaiting w).completeWord tr data parity = (s.withWaiting w).transferFailed tr :=
            (if_pos bad).trans (if_pos again)
          rw [isFailed]
          exact State.afterTransfer_of (s := ((s.withWaiting w).setBus s.bus.release).memFault) noReset _
        refine exec_takes (F := fun v => if tr.orphan = true then (v.setBus s.bus.release).memFault
          else (v.setBus s.bus.release).memFault.failed tr.requester) (fun w => ?_) ?_ (isU ▸ step) done waits
        · rw [words w, failed w]
        · by_cases orphan : tr.orphan = true
          · simp only [if_pos orphan]
            exact .inl running
          · simp only [if_neg orphan]
            exact (State.failed_spares (s := ((s.withWaiting none).setBus s.bus.release).memFault) running tr.requester).after
              (G := fun v => (v.setBus s.bus.release).memFault) fun _ => rfl
      · have uFirst : u.bus.retry ≠ true := by
          rw [isU]
          exact again
        exact goesOn (made.trans ((if_pos uBad).trans (if_neg uFirst))) uRunning
    · have uGood : ¬tr.wordBad u.bus.nextWord data parity = true := by
        rw [isU]
        exact bad
      have stored := (u.storeWord_calm tr).inProgress
      by_cases more : u.bus.nextWord + 1 < tr.action.words
      · exact goesOn (made.trans ((if_neg uGood).trans (if_pos more))) ((congrArg Option.isSome stored).trans uRunning)
      · refine goesOn (made.trans (((if_neg uGood).trans (if_neg more)).trans (State.afterTransfer_of (fun busy => ?_) _))) ?_
        · exact fun reset => uNoReset busy (stored.symm.trans reset)
        · have ran : ((u.storeWord tr).setBus (u.storeWord tr).bus.release).cmd.inProgress.isSome = true :=
            (congrArg Option.isSome stored).trans uRunning
          refine State.conclude_running_isSome ?_
          split_ifs
          · exact ran
          · exact State.deliver_running ran _ _
  · have idle : u.bus.bus ≠ .holding ∨ u.bus.current = none := by
      rw [isU]
      by_contra h
      push Not at h
      exact waiting ⟨h.1, Option.ne_none_iff_exists'.1 h.2⟩
    exact goesOn (Host.Outcome.next.inj (step.symm.trans (exec_wordComplete_of_none data parity idle))) uRunning

/-- A command that may wait is written to CMD like any other (R175). -/
theorem exec_waitingCommand {group : BitVec 4} {delta : BitVec 20} {cell : BitVec 8} {argument : BitVec 24} {p : Instr × HostCommand}
    (listed : p ∈ waitingCommands group delta cell argument) (s : State) : exec p.1 s = .next (s.queueCommand p.2).conclude := by
  simp only [waitingCommands, List.mem_cons, List.not_mem_nil, or_false] at listed
  rcases listed with rfl | rfl | rfl | rfl | rfl | rfl | rfl | rfl | rfl | rfl | rfl | rfl <;> rfl

/-- A free command unit takes whatever command is written (R175). -/
theorem exec_command_of_free {group : BitVec 4} {delta : BitVec 20} {cell : BitVec 8} {argument : BitVec 24} {p : Instr × HostCommand}
    (listed : p ∈ (.abort, .abort) :: waitingCommands group delta cell argument) {t : State} (idle : t.cmd.inProgress = none)
    (noneWaits : t.cmd.waiting = none) : exec p.1 t = .next (t.takeCommand p.2).proceed := by
  rw [← State.conclude_takeCommand idle noneWaits]
  rcases List.mem_cons.1 listed with rfl | listed
  · have event : exec .abort t = .next (t.writeCommand .abort).conclude := rfl
    have now : t.writeCommand .abort = t.takeAbort := if_neg (by simp [idle])
    rw [event, now]
    rfl
  · have now : t.queueCommand p.2 = t.takeCommand p.2 := by
      simp [State.queueCommand, idle, noneWaits]
    rw [exec_waitingCommand listed, now]

section
variable {s : State} (c : HostCommand) (settled : s.settled = true)
include settled

/-- A written command waits behind the one in progress (R175). -/
theorem State.queueCommand_waits (running : s.cmd.inProgress.isSome = true) (noneWaits : s.cmd.waiting = none) :
    (s.queueCommand c).conclude = { s with cmd := { s.cmd with waiting := some c } } := by
  obtain ⟨_, drain, ports, bus⟩ := s.settled_iff.1 settled
  have waits : s.queueCommand c = { s with cmd := { s.cmd with waiting := some c } } := by
    simp [State.queueCommand, running, noneWaits, State.setCmd]
  rw [waits]
  exact State.conclude_settled _ ((State.settled_iff _).2 ⟨.inl running, drain, ports, bus⟩)

/-- A command written behind a waiting one is lost (R175). -/
theorem State.queueCommand_lost (waits : s.cmd.waiting.isSome = true) :
    (s.queueCommand c).conclude = { s with cmd := { s.cmd with attn := s.cmd.attn ||| 2 } } := by
  obtain ⟨command, drain, ports, bus⟩ := s.settled_iff.1 settled
  have lost : s.queueCommand c = { s with cmd := { s.cmd with attn := s.cmd.attn ||| 2 } } := if_pos waits
  rw [lost]
  exact State.conclude_settled _ ((State.settled_iff _).2 ⟨command, drain, ports, bus⟩)

end

theorem State.writeCommand_abort {s : State} {r : Running} (running : s.cmd.inProgress = some r) (abort : r.isAbort = true) :
    s.writeCommand .abort = s.queueCommand .abort :=
  if_pos (by simp [running, abort])

/-- Only the codes 6 and 7 name ABORT and RESET (11.3). -/
theorem State.writeCommand_commandOf (s : State) {code : BitVec 8} (notAbort : code ≠ 6) (notReset : code ≠ 7) (argument : BitVec 24) :
    s.writeCommand (commandOf code argument) = s.queueCommand (commandOf code argument) := by
  have codes (n : Nat) (h : n < 256) (other : code ≠ BitVec.ofNat 8 n) : code.toNat ≠ n := fun same =>
    other (BitVec.eq_of_toNat_eq (by rw [same, BitVec.toNat_ofNat, Nat.mod_eq_of_lt h]))
  have other : commandOf code argument ≠ .abort ∧ commandOf code argument ≠ .reset := by
    unfold commandOf
    split
    case h_6 six => exact absurd six (codes 6 (by decide) notAbort)
    case h_7 seven => exact absurd seven (codes 7 (by decide) notReset)
    all_goals exact ⟨nofun, nofun⟩
  unfold State.writeCommand
  split
  · next reset => exact absurd reset other.2
  · next abort => exact absurd abort other.1
  · rfl

/-- The events that complete the command in progress, each with its step. -/
theorem exec_completing_takes {s t : State} {event : Instr} {c : HostCommand}
    (kind : event ∈ [.anchorReadDone, .nightRecordWriteDone, .transferError, .abort])
    (running : s.cmd.inProgress.isSome = true) (noReset : ∀ busy, s.cmd.inProgress ≠ some (.reset busy))
    (step : exec event (s.withWaiting none) = .next t) (done : t.cmd.inProgress = none) (waits : s.cmd.waiting = some c) :
    exec event s = .next (t.takeCommand c).proceed ∧ t.cmd.waiting = none := by
  simp only [List.mem_cons, List.not_mem_nil, or_false] at kind
  rcases kind with rfl | rfl | rfl | rfl
  · have events (w : Option HostCommand) : exec .anchorReadDone (s.withWaiting w) = .next (s.withWaiting w).anchorRead.conclude := rfl
    exact exec_takes events (State.anchorRead_spares running) step done waits
  · have events (w : Option HostCommand) : exec .nightRecordWriteDone (s.withWaiting w) =
        .next (s.withWaiting w).nightDone.conclude := rfl
    exact exec_takes events State.nightDone_spares step done waits
  · by_cases holding : s.bus.bus = .holding ∧ ∃ tr, s.bus.current = some tr
    · obtain ⟨holds, tr, current⟩ := holding
      have events (w : Option HostCommand) := exec_transferError_of_holding (s := s.withWaiting w) holds current
      exact exec_takes events (State.enterFaulted_spares noReset) step done waits
    · have noIssue : (s.withWaiting none).bus.issuing = none := MemoryPort.issuing_eq_none (by
        by_contra h
        push Not at h
        exact holding ⟨h.1, Option.ne_none_iff_exists'.1 h.2⟩)
      have idle : exec .transferError (s.withWaiting none) = .next (s.withWaiting none) := by
        have event : exec .transferError (s.withWaiting none) = execTransferError (s.withWaiting none) := rfl
        rw [event, execTransferError, noIssue]
      have stays : t.cmd.inProgress = s.cmd.inProgress :=
        (congrArg (fun u : State => u.cmd.inProgress) (Host.Outcome.next.inj (step.symm.trans idle))).trans rfl
      rw [← stays, done] at running
      exact absurd running (by simp)
  · obtain ⟨r, isRunning⟩ := Option.isSome_iff_exists.1 running
    cases abort : r.isAbort with
    | false =>
      have events (w : Option HostCommand) := exec_abort_of_command (s := s.withWaiting w) isRunning abort
      exact exec_takes events (State.takeAbort_spares _) step done waits
    | true =>
      have queued := State.writeCommand_abort (s := s.withWaiting none) isRunning abort
      have isQueued : (s.withWaiting none).queueCommand .abort = s.withWaiting (some .abort) := by
        simp [State.queueCommand, State.withWaiting, isRunning, State.setCmd]
      have event : exec .abort (s.withWaiting none) = .next (s.withWaiting (some .abort)).conclude :=
        congrArg (fun u : State => Host.Outcome.next u.conclude) (queued.trans isQueued)
      have still := State.conclude_running_isSome (s := s.withWaiting (some .abort)) running
      rw [← Host.Outcome.next.inj (step.symm.trans event), done] at still
      exact absurd still (by simp)

/-- Settles O8: commands wait, are lost or are taken at once; and the waiting one is taken behind the event that completes. -/
theorem oneCommandWaits : Obligations.OneCommandWaits := by
  unfold Obligations.OneCommandWaits
  refine ⟨fun s group delta cell argument p listed settled => ?_, fun s code value c settled aborting => ?_,
    fun s word settled waits => ?_, fun s t event group delta cell argument kind running noReset step done p listed waits => ?_⟩
  · rw [exec_waitingCommand listed]
    exact ⟨fun running noneWaits => congrArg Host.Outcome.next (State.queueCommand_waits p.2 settled running noneWaits),
      fun waits => congrArg Host.Outcome.next (State.queueCommand_lost p.2 settled waits)⟩
  · obtain ⟨r, running, abort⟩ : ∃ r, s.cmd.inProgress = some r ∧ r.isAbort = true := by
      rcases aborting with running | running
      · exact ⟨_, running, rfl⟩
      · exact ⟨_, running, rfl⟩
    have event : exec .abort s = .next (s.queueCommand .abort).conclude :=
      congrArg (fun u : State => Host.Outcome.next u.conclude) (State.writeCommand_abort running abort)
    rw [event]
    exact ⟨fun noneWaits => congrArg Host.Outcome.next (State.queueCommand_waits .abort settled (by simp [running]) noneWaits),
      fun waits => congrArg Host.Outcome.next (State.queueCommand_lost .abort settled waits)⟩
  · have event : exec (.cmdLost word) s = .next (s.writeCommand (commandOf (word.extractLsb' 0 8) (word.extractLsb' 8 24))).conclude :=
      rfl
    refine ⟨fun notAbort notReset => ?_, fun abort => ?_, fun reset => ?_⟩
    · rw [event, s.writeCommand_commandOf notAbort notReset, State.queueCommand_lost _ settled waits]
    · rw [event, abort]
      rfl
    · rw [event, reset]
      rfl
  · have step : exec event (s.withWaiting none) = .next t := step
    have taken : exec event s = .next (t.takeCommand p.2).proceed ∧ t.cmd.waiting = none := by
      rcases kind with ⟨c, answer, rfl⟩ | ⟨c, seen, rfl⟩ | ⟨data, parity, rfl⟩ | completing
      · have events (w : Option HostCommand) : exec (.linkAnswer c answer) (s.withWaiting w) =
            .next ((s.withWaiting w).takeAnswer c answer).conclude := rfl
        exact exec_takes events (State.takeAnswer_spares (s := s.withWaiting none) running c answer) step done waits
      · have events (w : Option HostCommand) : exec (.linkTimeout c seen) (s.withWaiting w) =
            .next ((s.withWaiting w).takeTimeout c seen).conclude := rfl
        exact exec_takes events (State.takeTimeout_spares (s := s.withWaiting none) running c seen) step done waits
      · exact exec_wordComplete_takes running noReset step done waits
      · exact exec_completing_takes completing running noReset step done waits
    obtain ⟨takes, noneWaits⟩ := taken
    rw [takes, exec_command_of_free listed done noneWaits]

end Sys2Proof.Machine
end

section
/-! PROOFS. STOP: the plans whose beacon has not come, the cells that go OFF, and the drain (R65, R122, R123, R184). -/

namespace Sys2Proof.Machine

/-! ### Items that end while STOP drains (R65, R123) -/

/-- Between s and u, while STOP drains, items of a plan of cell c may have ended: nothing but the fetch engine, the buffers, the plans
of the cell, the due lists and the write-back list has changed, and no plan has another number of items. -/
structure State.StopsItems (s u : State) (c : CellId) : Prop where
  frame : ∃ e p t q d w n, u = { s with fetch := e, bus := p, store := t, seq := q, due := d, wb := w, drained := n }
  ended : s.ItemsEnded u c
  items : (u.seqAt c).standing.map (fun plan => plan.items.length) = (s.seqAt c).standing.map fun plan => plan.items.length

section
variable {s : State} {c : CellId}

theorem State.StopsItems.refl (s : State) (c : CellId) : s.StopsItems s c :=
  ⟨⟨s.fetch, s.bus, s.store, s.seq, s.due, s.wb, s.drained, rfl⟩, .refl s c, rfl⟩

theorem State.StopsItems.trans {u v : State} (h : s.StopsItems u c) (k : u.StopsItems v c) : s.StopsItems v c := by
  obtain ⟨e, p, t, q, d, w, n, first⟩ := h.frame
  obtain ⟨e', p', t', q', d', w', n', second⟩ := k.frame
  refine ⟨⟨e', p', t', q', d', w', n', ?_⟩, h.ended.trans k.ended, k.items.trans h.items⟩
  rw [second, first]

theorem State.StopsItems.stopping {u : State} (h : s.StopsItems u c) : u.stopping = s.stopping := by
  obtain ⟨e, p, t, q, d, w, n, frame⟩ := h.frame
  rw [frame]
  rfl

theorem State.modItem_lengths (s : State) (c : CellId) (b : BeaconNo) (place : Nat) (f : PlanItem → PlanItem) :
    ((s.modItem c b place f).seqAt c).standing.map (fun plan => plan.items.length) =
      (s.seqAt c).standing.map fun plan => plan.items.length := by
  rw [State.modItem_seqAt]
  cases (s.seqAt c).standing with
  | none => rfl
  | some plan => by_cases own : plan.beacon = b <;> simp [own, Plan.modItem]

theorem State.dropItem_stops (s : State) (c : CellId) (b : BeaconNo) (place : Nat) : s.StopsItems (s.dropItem c b place) c := by
  obtain ⟨e, p, t, q, frame⟩ := s.dropItem_frame c b place
  refine ⟨⟨e, p, t, q, s.due, s.wb, s.drained, frame⟩, s.dropItem_items c b place, ?_⟩
  unfold State.dropItem
  split
  · rfl
  · next i item =>
    obtain ⟨e, p, abandoned⟩ := s.abandonFetch_frame c b place
    rw [State.modItem_lengths, abandoned]
    rfl

theorem State.settleResult_stops (stopping : s.stopping = true) (r : DueRecord) : s.StopsItems (s.settleResult c r) c := by
  obtain ⟨retires, _⟩ := s.settleResult_settles c r
  rw [retires stopping]
  exact ⟨⟨s.fetch, s.bus, s.store, s.seq, _, _, _, rfl⟩, ⟨id, fun _ _ => rfl, rfl, rfl⟩, rfl⟩

theorem State.notSent_stops (stopping : s.stopping = true) (b : BeaconNo) (place : Nat) : s.StopsItems (s.notSent c b place) c := by
  have dropped := s.dropItem_stops c b place
  unfold State.notSent State.itemResult
  split
  · exact .refl s c
  · split
    · split
      · exact dropped
      · split
        · exact dropped.trans (State.settleResult_stops (dropped.stopping.trans stopping) _)
        · exact dropped
    · exact .refl s c

theorem State.notSentAll_stops (stopping : s.stopping = true) (plan : Plan) : s.StopsItems (s.notSentAll c plan) c := by
  unfold State.notSentAll
  generalize List.range plan.items.length = places
  induction places generalizing s with
  | nil => exact .refl s c
  | cons place rest ih =>
    have first := State.notSent_stops (c := c) stopping plan.beacon place
    exact first.trans (ih (first.stopping.trans stopping))

theorem State.notSentAll_of_empty (plan : Plan) (empty : plan.items = []) : s.notSentAll c plan = s := by
  simp [State.notSentAll, empty]

end

/-! ### The plans whose beacon has not come (R123) -/

/-- Between s and u, while STOP drains, plans of any cell that were coming may have ended. -/
structure State.StopsPlans (s u : State) : Prop where
  frame : ∃ e p t q d w n, u = { s with fetch := e, bus := p, store := t, seq := q, due := d, wb := w, drained := n }
  bus : s.bus.settled = true → u.bus.settled = true
  seqs : ∀ c, u.seqAt c = { s.seqAt c with coming := (u.seqAt c).coming, standing := (u.seqAt c).standing }
  items : ∀ c, (u.seqAt c).standing.map (fun plan => plan.items.length) = (s.seqAt c).standing.map fun plan => plan.items.length
  coming : ∀ c, (s.seqAt c).coming = none → (u.seqAt c).coming = none

theorem State.StopsPlans.trans {s u v : State} (h : s.StopsPlans u) (k : u.StopsPlans v) : s.StopsPlans v := by
  obtain ⟨e, p, t, q, d, w, n, first⟩ := h.frame
  obtain ⟨e', p', t', q', d', w', n', second⟩ := k.frame
  refine ⟨⟨e', p', t', q', d', w', n', ?_⟩, k.bus ∘ h.bus, fun c => ?_, fun c => (k.items c).trans (h.items c),
    fun c none => k.coming c (h.coming c none)⟩
  · rw [second, first]
  · rw [k.seqs c, h.seqs c]

theorem State.StopsPlans.stopping {s u : State} (h : s.StopsPlans u) : u.stopping = s.stopping := by
  obtain ⟨e, p, t, q, d, w, n, frame⟩ := h.frame
  rw [frame]
  rfl

theorem State.dropComing_stops {s : State} (stopping : s.stopping = true) (c : CellId) :
    s.StopsPlans (s.dropComing c) ∧ ((s.dropComing c).seqAt c).coming = none := by
  cases coming : (s.seqAt c).coming with
  | none =>
    have same : s.dropComing c = s := by simp only [State.dropComing, coming]
    rw [same]
    exact ⟨⟨⟨s.fetch, s.bus, s.store, s.seq, s.due, s.wb, s.drained, rfl⟩, id, fun _ => rfl, fun _ => rfl, fun _ => id⟩, coming⟩
  | some plan =>
    have made : s.dropComing c = (s.notSentAll c plan).modSeq c fun q => { q with coming := none } := by
      simp only [State.dropComing, coming]
    have stops := State.notSentAll_stops (c := c) stopping plan
    obtain ⟨e, p, t, q, d, w, n, frame⟩ := stops.frame
    have seqs (d : CellId) : (s.dropComing c).seqAt d =
        if d = c then { (s.notSentAll c plan).seqAt c with coming := none } else s.seqAt d := by
      rw [made, State.modSeq_seqAt_eq]
      split
      · rfl
      · next other => exact stops.ended.others d other
    refine ⟨⟨⟨e, p, t, (s.dropComing c).seq, d, w, n, ?_⟩, ?_, fun d => ?_, fun d => ?_, fun d none => ?_⟩, ?_⟩
    · rw [made, frame]
      rfl
    · rw [made]
      exact stops.ended.bus
    · rw [seqs d]
      split
      · next own => rw [own, stops.ended.plans]
      · rfl
    · rw [seqs d]
      split
      · next own =>
        rw [own]
        exact stops.items
      · rfl
    · rw [seqs d]
      split
      · rfl
      · exact none
    · rw [seqs c, if_pos rfl]

/-- STOP has dropped every plan whose beacon has not come. -/
theorem State.dropComings_stop {s : State} (stopping : s.stopping = true) :
    s.StopsPlans (forCells State.dropComing s) ∧ ∀ c, ((forCells State.dropComing s).seqAt c).coming = none := by
  rw [forCells_eq]
  obtain ⟨h0, n0⟩ := State.dropComing_stops stopping 0
  have s0 := h0.stopping.trans stopping
  obtain ⟨h1, n1⟩ := State.dropComing_stops s0 1
  have s1 := h1.stopping.trans s0
  obtain ⟨h2, n2⟩ := State.dropComing_stops s1 2
  have s2 := h2.stopping.trans s1
  obtain ⟨h3, n3⟩ := State.dropComing_stops s2 3
  refine ⟨((h0.trans h1).trans h2).trans h3, fun c => ?_⟩
  rcases CellId.cases c with rfl | rfl | rfl | rfl
  · exact h3.coming _ (h2.coming _ (h1.coming _ n0))
  · exact h3.coming _ (h2.coming _ n1)
  · exact h3.coming _ n2
  · exact n3

theorem State.dropComings_of_none {s : State} (none : ∀ c, (s.seqAt c).coming = none) : forCells State.dropComing s = s := by
  have same (c : CellId) : s.dropComing c = s := by
    simp only [State.dropComing, none c]
  rw [forCells_eq, same, same, same, same]

/-! ### The cells that go OFF (R122) -/

section
variable {s : State} {c : CellId}

theorem State.modSeq_fixed (s : State) (c : CellId) {f : Sequencer → Sequencer} (fixed : f (s.seqAt c) = s.seqAt c) : s.modSeq c f = s := by
  rw [State.modSeq, fixed, State.seqAt, cellPut_cellAt]
  rfl

theorem State.modPort_fixed (s : State) (c : CellId) {f : RadioPort → RadioPort} (fixed : f (s.portAt c) = s.portAt c) :
    s.modPort c f = s := by
  rw [State.modPort, fixed, State.portAt, cellPut_cellAt]
  rfl

theorem State.pendingGroups_eq_zero (none : s.pendingGroups = 0) (g : GroupId) :
    (s.groupRec g).state = .opened ∨ (s.groupRec g).state = .done := by
  have all := List.countP_eq_zero.1 none (s.groupRec g) (by simp [State.groupRec, groupAt])
  cases h : (s.groupRec g).state <;> simp_all [GroupState.pending]

/-- With nothing announced, a missed beacon adds to no gap set and flips nothing (R133, R134). -/
theorem State.reportBeacon_quiet (none : s.pendingGroups = 0) (b : BeaconNo) :
    ∃ n, s.reportBeacon c b false = s.setFlip { s.flip with reported := n } := by
  have groups : tableMap (GroupRecord.missed c b) s.flip.groups = s.flip.groups := by
    refine PerGroup.ext fun g => ?_
    rw [groupAt_tableMap]
    have idle : (groupAt s.flip.groups g).state.pending = false := by
      rcases State.pendingGroups_eq_zero none g with h | h <;> (have h : (groupAt s.flip.groups g).state = _ := h; rw [h]; rfl)
    simp [GroupRecord.missed, idle]
  have flips (u : State) (same : u.flip.groups = s.flip.groups) : u.takeFlips b = u := by
    have one (g : GroupId) : u.takeFlip b g = u := by
      have idle : (u.groupRec g).state = .opened ∨ (u.groupRec g).state = .done := by
        rw [State.groupRec, same]
        exact State.pendingGroups_eq_zero none g
      unfold State.takeFlip
      rcases idle with h | h <;> simp [h]
    unfold State.takeFlips
    generalize allGroups = all
    induction all with
    | nil => rfl
    | cons g rest ih => rw [List.foldl_cons, one g, ih]
  unfold State.reportBeacon
  simp only [Bool.false_eq_true, if_false, groups]
  split
  · split
    · exact ⟨_, flips _ rfl⟩
    · exact ⟨_, rfl⟩
  · exact ⟨s.flip.reported, rfl⟩

/-- An off-pending cell in which no window runs (R122). -/
def Sequencer.goesOff (q : Sequencer) : Bool := q.noWindow && q.offPending

/-- A beacon with no window that still waits for the link of such a cell. -/
def RadioPort.missesAt (p : RadioPort) (q : Sequencer) : Bool :=
  q.goesOff && q.standing.isSome && decide (q.position = .beaconSend) && !p.beaconOut

theorem RadioPort.missesAt_iff (p : RadioPort) (q : Sequencer) : p.missesAt q = true ↔
    ((q.goesOff = true ∧ ∃ plan, q.standing = some plan) ∧ q.position = .beaconSend) ∧ p.beaconOut = false := by
  simp only [RadioPort.missesAt, Bool.and_eq_true, decide_eq_true_eq, Bool.not_eq_true', Option.isSome_iff_exists]

/-- A port under STOP. -/
def RadioPort.atStop (q : Sequencer) (p : RadioPort) : RadioPort := if q.goesOff = true then p.leave .off else p

/-- A sequencer under STOP. -/
def Sequencer.atStop (p : RadioPort) (q : Sequencer) : Sequencer :=
  if p.missesAt q = true then { q.noPlan with offPending := false }
  else if q.goesOff = true then { q with offPending := false } else q

theorem Sequencer.noWindow_iff (q : Sequencer) : q.noWindow = true ↔ ∀ plan, q.standing = some plan → plan.items = [] := by
  unfold Sequencer.noWindow Plan.hasWindow
  cases q.standing with
  | none => simp
  | some plan => simp

/-- What STOP makes of one cell when nothing is announced. -/
theorem State.offIfNoWindow_stops (stopping : s.stopping = true) (none : s.pendingGroups = 0) (c : CellId) :
    ∃ n, s.offIfNoWindow c = ((s.setFlip { s.flip with reported := n }).modPort c (RadioPort.atStop (s.seqAt c))).modSeq c
        (Sequencer.atStop (s.portAt c)) ∧
      ((s.portAt c).missesAt (s.seqAt c) = false → n = s.flip.reported) := by
  have sameFlip : s.setFlip { s.flip with reported := s.flip.reported } = s := rfl
  by_cases goesOff : (s.seqAt c).goesOff = true
  · have off : s.offIfNoWindow c = (s.cellOff c).missWaiting c := if_pos goesOff
    have portOff : RadioPort.atStop (s.seqAt c) = fun p => p.leave .off := funext fun p => if_pos goesOff
    have standing : ((s.cellOff c).seqAt c) = { s.seqAt c with offPending := false } := by
      rw [State.cellOff_seqAt, if_pos rfl]
    have out : ((s.cellOff c).portAt c).beaconOut = (s.portAt c).beaconOut := by
      rw [State.cellOff_portAt, if_pos rfl, RadioPort.leave_beaconOut]
    by_cases misses : (s.portAt c).missesAt (s.seqAt c) = true
    · have seqOff : Sequencer.atStop (s.portAt c) (s.seqAt c) = { (s.seqAt c).noPlan with offPending := false } := if_pos misses
      obtain ⟨⟨⟨_, plan, isStanding⟩, position⟩, waits⟩ := (RadioPort.missesAt_iff _ _).1 misses
      obtain ⟨noWindow, _⟩ : (s.seqAt c).noWindow = true ∧ (s.seqAt c).offPending = true := by
        simpa [Sequencer.goesOff] using goesOff
      have empty := (s.seqAt c).noWindow_iff.1 noWindow plan isStanding
      have missed : (s.cellOff c).missWaiting c = (s.cellOff c).beaconFault c plan.beacon := by
        unfold State.missWaiting
        rw [standing, out]
        simp only [isStanding, position, waits, and_self, if_true]
      obtain ⟨n, reported⟩ := State.reportBeacon_quiet (s := s.cellOff c) (c := c) none plan.beacon
      have noFault : (s.cellOff c).beaconFault c plan.beacon =
          ((s.cellOff c).setFlip { s.flip with reported := n }).modSeq c Sequencer.noPlan := by
        have still : (((s.cellOff c).setFlip { s.flip with reported := n }).modSeq c Sequencer.noPlan).takeOffPending c =
            ((s.cellOff c).setFlip { s.flip with reported := n }).modSeq c Sequencer.noPlan := by
          refine if_neg ?_
          rw [State.modSeq_seqAt]
          have kept : ((s.cellOff c).setFlip { s.flip with reported := n }).seqAt c = { s.seqAt c with offPending := false } := standing
          rw [kept]
          exact Bool.false_ne_true
        have isStopping : (((s.cellOff c).setFlip { s.flip with reported := n }).modSeq c Sequencer.noPlan).stopping = true := stopping
        have stands : ((s.cellOff c).seqAt c).standing = some plan := by
          rw [standing]
          exact isStanding
        unfold State.beaconFault
        rw [reported]
        simp only [stands, State.notSentAll_of_empty plan empty]
        exact (if_pos isStopping).trans still
      refine ⟨n, ?_, fun h => absurd misses (by simp [h])⟩
      rw [off, missed, noFault, portOff]
      have twice : ((s.cellOff c).setFlip { s.flip with reported := n }).modSeq c Sequencer.noPlan =
          ((((s.setFlip { s.flip with reported := n }).modPort c fun p => p.leave .off).modSeq c fun q =>
            { q with offPending := false }).modSeq c Sequencer.noPlan) := rfl
      rw [twice, State.modSeq_modSeq]
      exact State.modSeq_congr _ c seqOff.symm
    · have stays : (s.cellOff c).missWaiting c = s.cellOff c := by
        unfold State.missWaiting
        rw [standing, out]
        cases isStanding : (s.seqAt c).standing with
        | none => rfl
        | some plan =>
          refine if_neg fun ⟨position, waits⟩ => misses ?_
          have position : (s.seqAt c).position = .beaconSend := position
          simp [RadioPort.missesAt, goesOff, isStanding, position, waits]
      refine ⟨s.flip.reported, ?_, fun _ => rfl⟩
      rw [off, stays, portOff, sameFlip]
      exact State.modSeq_congr (s.modPort c fun p => p.leave .off) c
        ((if_neg misses).trans (if_pos goesOff)).symm
  · have stays : s.offIfNoWindow c = s := if_neg goesOff
    have noMiss : ¬(s.portAt c).missesAt (s.seqAt c) = true := by simp [RadioPort.missesAt, goesOff]
    refine ⟨s.flip.reported, ?_, fun _ => rfl⟩
    rw [stays, sameFlip, State.modPort_fixed s c (f := RadioPort.atStop (s.seqAt c)) (if_neg goesOff),
      State.modSeq_fixed s c (f := Sequencer.atStop (s.portAt c)) ((if_neg noMiss).trans (if_neg goesOff))]

/-- The state with other ports and sequencers, and other reports of its beacon. -/
def State.withReports (s : State) (n : BitVec 4) (p : PerCell RadioPort) (q : PerCell Sequencer) : State :=
  { s with flip := { s.flip with reported := n }, port := p, seq := q }

theorem State.offIfNoWindow_step (stopping : s.stopping = true) (none : s.pendingGroups = 0) (c : CellId) (n : BitVec 4)
    (p : PerCell RadioPort) (q : PerCell Sequencer) : ∃ n' p' q',
    (s.withReports n p q).offIfNoWindow c = s.withReports n' p' q' ∧
    (∀ d, cellAt p' d = if d = c then (cellAt p c).atStop (cellAt q c) else cellAt p d) ∧
    (∀ d, cellAt q' d = if d = c then (cellAt q c).atStop (cellAt p c) else cellAt q d) ∧
    ((cellAt p c).missesAt (cellAt q c) = false → n' = n) := by
  obtain ⟨n', made, kept⟩ := State.offIfNoWindow_stops (s := s.withReports n p q) stopping none c
  refine ⟨n', cellPut p c ((cellAt p c).atStop (cellAt q c)), cellPut q c ((cellAt q c).atStop (cellAt p c)), made,
    fun d => cellAt_cellPut p c d _, fun d => cellAt_cellPut q c d _, kept⟩

/-- The four cells under STOP: each changes by what it holds itself, and only a missed beacon is reported. -/
theorem State.offIfNoWindows_stop (stopping : s.stopping = true) (none : s.pendingGroups = 0) : ∃ n p q,
    forCells State.offIfNoWindow s = s.withReports n p q ∧
    (∀ c, cellAt p c = (s.portAt c).atStop (s.seqAt c) ∧ cellAt q c = (s.seqAt c).atStop (s.portAt c)) ∧
    ((∀ c, (s.portAt c).missesAt (s.seqAt c) = false) → n = s.flip.reported) := by
  obtain ⟨n0, p0, q0, made0, ports0, seqs0, kept0⟩ :=
    State.offIfNoWindow_step stopping none 0 s.flip.reported s.port s.seq
  obtain ⟨n1, p1, q1, made1, ports1, seqs1, kept1⟩ := State.offIfNoWindow_step stopping none 1 n0 p0 q0
  obtain ⟨n2, p2, q2, made2, ports2, seqs2, kept2⟩ := State.offIfNoWindow_step stopping none 2 n1 p1 q1
  obtain ⟨n3, p3, q3, made3, ports3, seqs3, kept3⟩ := State.offIfNoWindow_step stopping none 3 n2 p2 q2
  have own : s.withReports s.flip.reported s.port s.seq = s := rfl
  rw [own] at made0
  refine ⟨n3, p3, q3, ?_, fun c => ?_, fun noMiss => ?_⟩
  · rw [forCells_eq, made0, made1, made2, made3]
  · rcases CellId.cases c with rfl | rfl | rfl | rfl
    all_goals simp [ports3, ports2, ports1, ports0, seqs3, seqs2, seqs1, seqs0, State.portAt, State.seqAt]
  · simp only [State.portAt, State.seqAt] at noMiss
    rw [kept3 (by simpa [ports2, ports1, ports0, seqs2, seqs1, seqs0] using noMiss 3),
      kept2 (by simpa [ports1, ports0, seqs1, seqs0] using noMiss 2), kept1 (by simpa [ports0, seqs0] using noMiss 1),
      kept0 (noMiss 0)]

end

/-! ### STOP (R184) -/

theorem State.drainOver_iff (t : State) : t.drainOver = true ↔
    (∀ c : CellId, t.dueAt c = [] ∧ (t.seqAt c).standing = none) ∧ t.wb.list = [] ∧ t.sweep.hand = none := by
  simp only [State.drainOver, Bool.and_eq_true, List.all_eq_true, List.isEmpty_iff, Option.isNone_iff_eq_none, and_assoc]
  exact and_congr_left fun _ => ⟨fun h c => h c (mem_allCells c), fun h c _ => h c⟩

/-- STOP's own step notices at once whether the drain is over. -/
theorem State.drainedInto_stop {y t : State} (stop : y.cmd.inProgress = some (.stop false)) (controller : y.cmd.controller = .stopping)
    (drains : y.drainedInto t) :
    t = { y with cmd := { y.cmd with inProgress := some (.stop t.drainOver) }, night := t.night, bus := t.bus } ∧
      (t.drainOver = true → y.recordDue t ∧ t.night.awaited = true) ∧ (t.drainOver = false → t.night = y.night) := by
  unfold State.drainedInto at drains
  by_cases isOver : y.drainOver = true
  · obtain ⟨lists, back, hand⟩ := y.drainOver_iff.1 isOver
    rw [if_pos ⟨stop, controller, lists, back, hand⟩] at drains
    obtain ⟨frame, due, awaited⟩ := drains
    have tOver : t.drainOver = true := by
      rw [frame]
      exact isOver
    refine ⟨?_, fun _ => ⟨due, awaited⟩, fun h => absurd tOver (by simp [h])⟩
    rw [tOver]
    exact frame
  · rw [if_neg fun ⟨_, _, lists, back, hand⟩ => isOver (y.drainOver_iff.2 ⟨lists, back, hand⟩)] at drains
    have noOver : y.drainOver = false := by simpa using isOver
    rw [drains, noOver, ← stop]
    exact ⟨rfl, fun h => absurd h (by simp), fun _ => rfl⟩

theorem Sequencer.goesOff_iff (q : Sequencer) :
    q.goesOff = true ↔ q.offPending = true ∧ ∀ plan, q.standing = some plan → plan.items = [] := by
  rw [Sequencer.goesOff, Bool.and_eq_true, Sequencer.noWindow_iff, and_comm]

theorem Sequencer.noWindow_congr {q r : Sequencer}
    (items : q.standing.map (fun plan => plan.items.length) = r.standing.map fun plan => plan.items.length) : q.noWindow = r.noWindow := by
  unfold Sequencer.noWindow Plan.hasWindow
  cases hq : q.standing with
  | none =>
    cases hr : r.standing with
    | none => rfl
    | some plan => simp [hq, hr] at items
  | some plan =>
    cases hr : r.standing with
    | none => simp [hq, hr] at items
    | some other =>
      have same : plan.items.length = other.items.length := by simpa [hq, hr] using items
      dsimp only
      rw [Bool.not_not, Bool.not_not, Bool.eq_iff_iff, List.isEmpty_iff_length_eq_zero, List.isEmpty_iff_length_eq_zero, same]

/-- What STOP makes of one cell, in terms of what stood there before it. -/
theorem Sequencer.atStop_eq {q r : Sequencer} (p : RadioPort) (kept : r = { q with coming := none, standing := r.standing })
    (items : r.standing.map (fun plan => plan.items.length) = q.standing.map fun plan => plan.items.length) :
    let goesOff := q.offPending = true ∧ ∀ plan, q.standing = some plan → plan.items = []
    let missed := goesOff ∧ q.position = .beaconSend ∧ p.beaconOut = false
    (r.goesOff = true ↔ goesOff) ∧ (p.missesAt r = true → missed) ∧
    (r.atStop p).coming = none ∧ (missed → (r.atStop p).standing = none) ∧
    (¬missed → (r.atStop p).standing.isSome = q.standing.isSome) ∧
    (goesOff → (r.atStop p).offPending = false) ∧ (¬goesOff → (r.atStop p).offPending = q.offPending) := by
  intro goesOff missed
  have some_ : r.standing.isSome = q.standing.isSome := by
    have := congrArg Option.isSome items
    simpa using this
  have position : r.position = q.position := by rw [kept]
  have pending : r.offPending = q.offPending := by rw [kept]
  have coming : r.coming = none := by rw [kept]
  have off : r.goesOff = true ↔ goesOff := by
    refine Iff.trans ?_ q.goesOff_iff
    rw [Sequencer.goesOff, Sequencer.goesOff, Sequencer.noWindow_congr items, pending]
  have misses : p.missesAt r = true ↔ missed ∧ r.standing.isSome = true := by
    rw [RadioPort.missesAt_iff, off, position, Option.isSome_iff_exists]
    tauto
  clear_value goesOff
  refine ⟨off, fun h => (misses.1 h).1, ?_, fun h => ?_, fun h => ?_, fun h => ?_, fun h => ?_⟩
  all_goals unfold Sequencer.atStop
  · split_ifs <;> exact coming
  · by_cases stands : r.standing.isSome = true
    · rw [if_pos (misses.2 ⟨h, stands⟩)]
      rfl
    · have noMiss : ¬p.missesAt r = true := fun m => stands (misses.1 m).2
      rw [if_neg noMiss, if_pos (off.2 h.1)]
      exact Option.not_isSome_iff_eq_none.1 stands
  · have noMiss : ¬p.missesAt r = true := fun m => h (misses.1 m).1
    rw [if_neg noMiss, ← some_]
    split_ifs <;> rfl
  · rw [if_pos (off.2 h)]
    split_ifs <;> rfl
  · have noMiss : ¬p.missesAt r = true := fun m => h (misses.1 m).1.1
    rw [if_neg noMiss, if_neg fun o => h (off.1 o)]
    exact pending

/-- The state in which STOP begins to deal with the night's work. -/
def State.stopBegun (s : State) : State :=
  { s with
    cmd := { s.cmd with controller := .stopping, inProgress := some (.stop false), resultCode := .inProgress, resultValue := 0 },
    drained := 0, timer := { s.timer with schedule := none } }

/-- STOP once the plans that are coming have ended. -/
def State.stopRest (b : State) : State :=
  forCells State.offIfNoWindow (b.endSweep (b.sweep.hand.map (InHand.atStop b.sweep.groupSet))).drainWaiting

theorem State.takeStop_of {s : State} (on : s.nightOn = true) (quietly : s.pendingGroups = 0) :
    s.takeStop = (forCells State.dropComing s.stopBegun).stopRest := by
  have begun : (((s.setController .stopping).setDrained 0).setRunning (.stop false)).setTimer
      { (((s.setController .stopping).setDrained 0).setRunning (.stop false)).timer with schedule := none } = s.stopBegun := rfl
  unfold State.takeStop
  rw [if_neg (by simp [on]), if_neg (by simp [quietly])]
  exact congrArg (fun a => (forCells State.dropComing a).stopRest) begun

/-- Settles O16: the plans that are coming end, the passes end, the WAITING records retire, the cells go OFF, and the drain begins. -/
theorem stopDrainsTheNight : Obligations.StopDrainsTheNight := by
  unfold Obligations.StopDrainsTheNight
  intro s free on
  have event : exec .stop s = .next (s.queueCommand .stop).conclude := rfl
  rw [event]
  refine ⟨fun some_ => ?_, fun quietly => ?_⟩
  · have refused : s.takeCommand .stop = s.finish .flipPending 0 := by
      simp [State.takeCommand, State.takeStop, on, some_]
    rw [conclude_of_refusal free refused]
  obtain ⟨inProgress, waiting, settled⟩ := s.free_iff.1 free
  obtain ⟨_, _, ports, bus⟩ := s.settled_iff.1 settled
  have aStops : s.stopBegun.stopping = true := rfl
  obtain ⟨b, isB⟩ : ∃ b, b = forCells State.dropComing s.stopBegun := ⟨_, rfl⟩
  obtain ⟨plans, noComing⟩ := State.dropComings_stop aStops
  rw [← isB] at plans noComing
  obtain ⟨v, isV⟩ : ∃ v, v = b.endSweep (b.sweep.hand.map (InHand.atStop b.sweep.groupSet)) := ⟨_, rfl⟩
  obtain ⟨w, isW⟩ : ∃ w, w = v.drainWaiting := ⟨_, rfl⟩
  obtain ⟨x, isX⟩ : ∃ x, x = forCells State.offIfNoWindow w := ⟨_, rfl⟩
  have taken : s.takeCommand .stop = x := by
    have stop : s.takeStop = b.stopRest := by
      rw [isB]
      exact State.takeStop_of on quietly
    rw [isX, isW, isV]
    exact stop
  rw [State.queueCommand_of_free free, taken]
  obtain ⟨e, p0, st, q0, d0, w0, n0, bFrame⟩ := plans.frame
  obtain ⟨d1, w1, n1, wFrame⟩ := v.retireWhere_frame DueRecord.isWaiting .deferred
  have wFrame : w = { v with due := d1, wb := w1, drained := n1 } := isW.trans wFrame
  have vFrame : v = { b with
      sweep := { running := none, suspended := none, groupSet := [], rescanPending := false, reread := [],
                 hand := s.sweep.hand.map (InHand.atStop s.sweep.groupSet) },
      notices := [] } := by
    rw [isV, bFrame]
    rfl
  have retires : v.retiresInto w DueRecord.isWaiting .deferred := by
    rw [isW]
    exact v.retireWhere_retires _ _
  have drained : w.drained = v.drained + if v.stopping = true then (v.inListOrder DueRecord.isWaiting).length else 0 := by
    rw [isW]
    exact v.retireWhere_drained_eq _ _
  have wStops : w.stopping = true := by
    rw [wFrame, vFrame, bFrame]
    rfl
  have wNone : w.pendingGroups = 0 := by
    rw [wFrame, vFrame, bFrame]
    exact quietly
  obtain ⟨n, p, q, xFrame, cells, unreported⟩ := State.offIfNoWindows_stop wStops wNone
  rw [← isX] at xFrame
  have wPort (c : CellId) : w.portAt c = s.portAt c := by
    rw [wFrame, vFrame, bFrame]
    rfl
  have wSeq (c : CellId) : w.seqAt c = b.seqAt c := by
    rw [wFrame, vFrame]
    rfl
  have xStop : x.cmd.inProgress = some (.stop false) ∧ x.cmd.controller = .stopping := by
    rw [xFrame, wFrame, vFrame, bFrame]
    exact ⟨rfl, rfl⟩
  have xBus : x.bus.settled = true := by
    have same : x.bus = b.bus := by
      rw [xFrame, wFrame, vFrame]
      rfl
    rw [same]
    exact plans.bus bus
  obtain ⟨ports', each, drains⟩ := State.conclude_drainsLinks (u := x) (.inr (by rw [xStop.1]; rfl)) xBus
  obtain ⟨t, isT⟩ : ∃ t, t = x.conclude := ⟨_, rfl⟩
  rw [← isT] at drains ⊢
  obtain ⟨tFrame, isOver, notOver⟩ := State.drainedInto_stop (y := x.setPort ports') xStop.1 xStop.2 drains
  refine ⟨t, rfl, ?_⟩
  have full : t = { s with
      cmd := { s.cmd with controller := .stopping, inProgress := some (.stop t.drainOver),
                          resultCode := .inProgress, resultValue := 0 },
      notices := [],
      sweep := { running := none, suspended := none, groupSet := [], rescanPending := false, reread := [],
                 hand := s.sweep.hand.map (InHand.atStop s.sweep.groupSet) },
      due := d1, drained := n1, seq := q, fetch := e, store := st, timer := { s.timer with schedule := none },
      flip := { s.flip with reported := n }, port := ports', bus := t.bus, wb := w1, night := t.night } :=
    tFrame.trans (by rw [xFrame, wFrame, vFrame, bFrame]; rfl)
  have yNight : (x.setPort ports').night = s.night := by
    rw [xFrame, wFrame, vFrame, bFrame]
    rfl
  have tDue : t.due = w.due := by rw [full, wFrame]
  have tWb : t.wb = w.wb := by rw [full, wFrame]
  have tDrained : t.drained = w.drained := by rw [full, wFrame]
  have tSeq (c : CellId) : t.seqAt c = (w.seqAt c).atStop (w.portAt c) := by
    rw [full]
    exact (cells c).2
  have tPort (c : CellId) : t.portAt c = (RadioPort.atStop (w.seqAt c) (w.portAt c)).goOn := by
    have own : x.portAt c = RadioPort.atStop (w.seqAt c) (w.portAt c) := by
      rw [xFrame]
      exact (cells c).1
    rw [full, ← own]
    exact each c
  have noWaiting (c : CellId) : ∀ r ∈ t.dueAt c, r.state ≠ .waiting := by
    have list : t.dueAt c = (v.dueAt c).map fun r => if r.isWaiting then r.retire .deferred else r := by
      rw [State.dueAt, tDue]
      exact retires.1 c
    intro r isIn waits
    rw [list, List.mem_map] at isIn
    obtain ⟨r', _, made⟩ := isIn
    by_cases wasWaiting : r'.isWaiting = true
    · rw [if_pos wasWaiting] at made
      rw [← made] at waits
      exact nomatch waits
    · rw [if_neg wasWaiting] at made
      exact wasWaiting (by simp [DueRecord.isWaiting, made, waits])
  have cell (c : CellId) := Sequencer.atStop_eq (s.portAt c) (q := s.seqAt c) (r := b.seqAt c)
    (by
      have kept := plans.seqs c
      rw [noComing c] at kept
      exact kept)
    (plans.items c)
  have noneMisses (out : ∀ c : CellId, (s.seqAt c).position = .beaconSend → (s.portAt c).beaconOut = true) (c : CellId) :
      (w.portAt c).missesAt (w.seqAt c) = false := by
    rw [wPort, wSeq, Bool.eq_false_iff]
    intro misses
    obtain ⟨_, position, waits⟩ := (cell c).2.1 misses
    exact absurd (out c position) (by simp [waits])
  have hand : t.sweep.hand.map InHand.index = s.sweep.hand.map InHand.index := by
    rw [full, Option.map_map]
    rfl
  refine ⟨by rw [full], congrArg State.cmd full, t.drainOver_iff, by rw [full], by rw [full], by rw [full], by rw [full], by rw [full],
    hand, fun isOver' => ?_, fun notOver' => ?_, fun c => ?_, fun out => ?_, fun noPlans => ?_⟩
  · obtain ⟨due, awaited⟩ := isOver isOver'
    exact ⟨(State.recordDue_congr yNight rfl).1 due, awaited⟩
  · exact (notOver notOver').trans yNight
  · intro q goesOff missed
    obtain ⟨off, _, coming, gone, stands, pendingOff, pendingKept⟩ := cell c
    have seq : t.seqAt c = (b.seqAt c).atStop (s.portAt c) := by rw [tSeq, wSeq, wPort]
    rw [seq]
    refine ⟨coming, noWaiting c, gone, stands, fun h => ⟨?_, pendingOff h⟩, fun h => ⟨?_, pendingKept h⟩⟩
    · have left : RadioPort.atStop (b.seqAt c) (s.portAt c) = (s.portAt c).leave .off := if_pos (off.2 h)
      rw [tPort, wSeq, wPort, left]
      exact ((s.portAt c).leave_goOn .off).1
    · have stayed : RadioPort.atStop (b.seqAt c) (s.portAt c) = s.portAt c := if_neg fun o => h (off.1 o)
      rw [tPort, wSeq, wPort, stayed]
      exact RadioPort.goOn_settled _ (ports c)
  · rw [full, unreported (noneMisses out), wFrame, vFrame, bFrame]
    rfl
  · have same : b = s.stopBegun := by
      rw [isB]
      exact State.dropComings_of_none noPlans
    have store : t.store = b.store ∧ t.fetch = b.fetch := by
      rw [full, bFrame]
      exact ⟨rfl, rfl⟩
    have vDue : v.due = s.due ∧ v.wb = s.wb ∧ v.drained = 0 ∧ v.stopping = true := by
      rw [vFrame, same]
      exact ⟨rfl, rfl, rfl, rfl⟩
    obtain ⟨vDue, vWb, vDrained, vStops⟩ := vDue
    have order : v.inListOrder DueRecord.isWaiting = s.inListOrder DueRecord.isWaiting := by
      simp only [State.inListOrder, State.dueAt, vDue]
    refine ⟨by rw [store.1, same]; rfl, by rw [store.2, same]; rfl, ⟨fun c => ?_, ?_⟩, ?_⟩
    · have list := retires.1 c
      simp only [State.dueAt, tDue, vDue] at list ⊢
      exact list
    · rw [tWb, retires.2, vWb, order]
    · rw [tDrained, drained, if_pos vStops, vDrained, order, Nat.zero_add]

end Sys2Proof.Machine
end

section
/-! PROOFS. The cells' reports of a beacon and the flip at the fourth one (R133 to R135). -/

namespace Sys2Proof.Machine

/-! ### Reports and flips look at no port and no sequencer -/

section
variable (s : State) (q : PerCell Sequencer) (p : PerCell RadioPort) (n : NightWriter) (r : Option Action) (a : BitVec 9)

theorem State.retireWhere_beside (f : DueRecord → Bool) (o : EntryState) :
    (s.beside q p n r a).retireWhere f o = (s.retireWhere f o).beside q p n r a := by
  have one (u : State) (c : CellId) : State.retireIn f o (u.beside q p n r a) c = (State.retireIn f o u c).beside q p n r a := by
    rw [State.retireIn_eq, State.retireIn_eq]
    rfl
  unfold State.retireWhere
  rw [forCells_eq, forCells_eq, one, one, one, one]

theorem State.flipRecords_beside (g : BitVec 4) : (s.beside q p n r a).flipRecords g = (s.flipRecords g).beside q p n r a := by
  unfold State.flipRecords
  have marks (f : State → CellId → State) (one : ∀ u c, f (u.beside q p n r a) c = (f u c).beside q p n r a) :
      forCells f (s.beside q p n r a) = (forCells f s).beside q p n r a := by
    rw [forCells_eq, forCells_eq, one, one, one, one]
  rw [marks _ fun u c => rfl]
  have settings : (s.beside q p n r a).settings = s.settings := rfl
  rw [settings]
  dsimp only
  rw [State.retireWhere_beside]
  split_ifs <;> rfl

theorem State.takeFlip_beside (b : BeaconNo) (g : GroupId) : (s.beside q p n r a).takeFlip b g = (s.takeFlip b g).beside q p n r a := by
  have group : (s.beside q p n r a).groupRec g = s.groupRec g := rfl
  unfold State.takeFlip
  dsimp only
  rw [group]
  split_ifs
  · rfl
  cases (s.groupRec g).state with
  | announced =>
    have raised : ((s.beside q p n r a).modGroup g fun x => { x with state := .done }).raise .flip =
        ((s.modGroup g fun x => { x with state := .done }).raise .flip).beside q p n r a := by
      have order : s.cmd.attn ||| a ||| Cause.flip.bit = s.cmd.attn ||| Cause.flip.bit ||| a := by
        rw [BitVec.or_assoc, BitVec.or_comm a, BitVec.or_assoc]
      unfold State.beside State.raise State.modGroup
      dsimp only [State.setCmd, State.setFlip]
      rw [order]
      rfl
    have requests (u : State) : (u.beside q p n r a).changeoverRequest g = (u.changeoverRequest g).beside q p n r a := by
      have night : (u.beside q p n r a).nightOn = u.nightOn := rfl
      have sweep : (u.beside q p n r a).sweep = u.sweep := rfl
      unfold State.changeoverRequest
      rw [night, sweep]
      split_ifs <;> rfl
    dsimp only
    rw [raised, State.flipRecords_beside, requests]
  | cancelling => rfl
  | opened => rfl
  | done => rfl

theorem State.reportBeacon_beside (c : CellId) (b : BeaconNo) (sent : Bool) :
    (s.beside q p n r a).reportBeacon c b sent = (s.reportBeacon c b sent).beside q p n r a := by
  have flips (u : State) : (u.beside q p n r a).takeFlips b = (u.takeFlips b).beside q p n r a :=
    List.foldl_hom (fun v : State => v.beside q p n r a) fun v g => v.takeFlip_beside q p n r a b g
  have reported (u : FlipUnit) : ((s.beside q p n r a).setFlip u).takeFlips b = ((s.setFlip u).takeFlips b).beside q p n r a :=
    flips (s.setFlip u)
  have timer : (s.beside q p n r a).timer = s.timer := rfl
  have flip : (s.beside q p n r a).flip = s.flip := rfl
  unfold State.reportBeacon
  dsimp only
  rw [timer, flip, reported]
  by_cases last : b = s.timer.now
  · rw [if_pos last, if_pos last]
    generalize ({ groups := if sent = true then s.flip.groups else tableMap (GroupRecord.missed c b) s.flip.groups,
                  reported := s.flip.reported ||| cellBit c } : FlipUnit) = unit
    have same : ((s.beside q p n r a).setFlip unit).flip = unit := rfl
    have own : (s.setFlip unit).flip = unit := rfl
    rw [same, own]
    split_ifs <;> rfl
  · rw [if_neg last, if_neg last]
    rfl

theorem State.reportBeacon_withCells (c : CellId) (b : BeaconNo) (sent : Bool) :
    (s.withCells q p).reportBeacon c b sent = (s.reportBeacon c b sent).withCells q p := by
  have same (u : State) : u.withCells q p = u.beside q p u.night u.bus.nightReq 0 := by simp [State.withCells, State.beside]
  obtain ⟨a, k, d, w, m, x, frame⟩ := s.reportBeacon_frame c b sent
  rw [same, State.reportBeacon_beside, same, frame]

end

/-! ### The flip of the groups of one beacon (R134) -/

/-- The record of a group after the flip of beacon b. -/
def GroupRecord.flipped (b : BeaconNo) (r : GroupRecord) : GroupRecord :=
  if r.flipBeacon = b then
    match r.state with
    | .announced => { r with state := .done }
    | .cancelling => { r with state := .opened }
    | .opened | .done => r
  else r

theorem GroupRecord.flipped_flipped (b : BeaconNo) (r : GroupRecord) : (r.flipped b).flipped b = r.flipped b := by
  by_cases due : r.flipBeacon = b
  · cases state : r.state <;> simp [GroupRecord.flipped, due, state]
  · simp [GroupRecord.flipped, due]

/-- What the flip of group g has left when it was announced: FLIP is raised and, in a night, the group is in the changeover pass. -/
def State.HasFlipped (s : State) (g : GroupId) : Prop :=
  s.cmd.attn.getLsbD 4 = true ∧ (s.nightOn = true → s.sweep.live .changeover = true ∧ g ∈ s.sweep.groupSet)

section
variable {s : State} {b : BeaconNo}

theorem State.takeFlip_groupRec (s : State) (b : BeaconNo) (g h : GroupId) :
    (s.takeFlip b g).groupRec h = if h = g then (s.groupRec g).flipped b else s.groupRec h := by
  obtain ⟨announced, cancelling, neither⟩ := s.takeFlip_flips b g
  have put (r : GroupRecord) : groupAt (groupPut s.flip.groups g r) h = if h = g then r else s.groupRec h := groupAt_groupPut _ g h r
  have stays (h : s.takeFlip b g = s) (own : (s.groupRec g).flipped b = s.groupRec g) (h' : GroupId) :
      (s.takeFlip b g).groupRec h' = if h' = g then (s.groupRec g).flipped b else s.groupRec h' := by
    rw [h, own]
    split
    · next same => rw [same]
    · rfl
  by_cases due : (s.groupRec g).flipBeacon = b
  · cases state : (s.groupRec g).state with
    | announced =>
      have groups : (s.takeFlip b g).flip.groups = groupPut s.flip.groups g { s.groupRec g with state := .done } := by
        rw [(announced due state).1]
      rw [State.groupRec, groups, put]
      simp [GroupRecord.flipped, due, state]
    | cancelling =>
      rw [cancelling due state, State.groupRec, put]
      simp [GroupRecord.flipped, due, state]
    | opened => exact stays (neither (.inr (.inl state))) (by simp [GroupRecord.flipped, state]) h
    | done => exact stays (neither (.inr (.inr state))) (by simp [GroupRecord.flipped, state]) h
  · exact stays (neither (.inl due)) (if_neg due) h

theorem State.takeFlips_groupRec (s : State) (b : BeaconNo) (h : GroupId) :
    (s.takeFlips b).groupRec h = (s.groupRec h).flipped b := by
  have over_ (l : List GroupId) (s : State) :
      (l.foldl (State.takeFlip b) s).groupRec h = if h ∈ l then (s.groupRec h).flipped b else s.groupRec h := by
    induction l generalizing s with
    | nil => rfl
    | cons g rest ih =>
      rw [List.foldl_cons, ih, State.takeFlip_groupRec]
      by_cases own : h = g
      · simp [own, GroupRecord.flipped_flipped]
      · simp [own]
  exact (over_ allGroups s).trans (if_pos (mem_allGroups h))

/-- A group that is not announced for the beacon changes nothing but the flip unit. -/
theorem State.takeFlip_cases (s : State) (b : BeaconNo) (g : GroupId) :
    ((s.groupRec g).flipBeacon = b ∧ (s.groupRec g).state = .announced) ∨
      ∃ groups, s.takeFlip b g = s.setFlip { s.flip with groups := groups } := by
  obtain ⟨_, cancelling, neither⟩ := s.takeFlip_flips b g
  by_cases due : (s.groupRec g).flipBeacon = b
  · cases state : (s.groupRec g).state with
    | announced => exact .inl ⟨due, rfl⟩
    | cancelling => exact .inr ⟨_, cancelling due state⟩
    | opened => exact .inr ⟨s.flip.groups, neither (.inr (.inl state))⟩
    | done => exact .inr ⟨s.flip.groups, neither (.inr (.inr state))⟩
  · exact .inr ⟨s.flip.groups, neither (.inl due)⟩

theorem State.takeFlip_reported (s : State) (b : BeaconNo) (g : GroupId) : (s.takeFlip b g).flip.reported = s.flip.reported := by
  rcases s.takeFlip_cases b g with ⟨due, state⟩ | ⟨groups, made⟩
  · rw [((s.takeFlip_flips b g).1 due state).1]
  · rw [made]
    rfl

theorem State.takeFlips_reported (s : State) (b : BeaconNo) : (s.takeFlips b).flip.reported = s.flip.reported := by
  unfold State.takeFlips
  generalize allGroups = l
  induction l generalizing s with
  | nil => rfl
  | cons g rest ih => exact (ih _).trans (s.takeFlip_reported b g)

theorem Sweep.live_congr {w v : Sweep} (k : PassKind) {f : Pass → Pass} (kind : ∀ p, (f p).kind = p.kind)
    (running : v.running = w.running.map f) (suspended : v.suspended = w.suspended.map f) : v.live k = w.live k := by
  have slot (o : Option Pass) : (match o.map f with | some p => decide (p.kind = k) | none => false) =
      (match o with | some p => decide (p.kind = k) | none => false) := by
    cases o with
    | none => rfl
    | some p => simp [kind]
  unfold Sweep.live
  rw [running, suspended]
  exact congrArg₂ _ (slot w.running) (slot w.suspended)

/-- A changeover request leaves the groups of a live changeover in it (R30). -/
theorem State.takesChangeover_has {s t : State} {g : GroupId} (h : s.takesChangeover t g) (night : s.nightOn = true) :
    t.sweep.live .changeover = true ∧ g ∈ t.sweep.groupSet ∧
      (s.sweep.live .changeover = true → ∀ x ∈ s.sweep.groupSet, x ∈ t.sweep.groupSet) := by
  obtain ⟨_, live, fresh⟩ := h
  by_cases isLive : s.sweep.live .changeover = true
  · rw [live night isLive]
    refine ⟨?_, ?_, fun _ x isIn => ?_⟩
    · rw [← isLive]
      exact Sweep.live_congr .changeover (fun p => by split_ifs <;> rfl) rfl rfl
    · dsimp only
      split_ifs with isIn
      · exact isIn
      · simp
    · dsimp only
      split_ifs
      · exact isIn
      · simp [isIn]
  · rw [fresh night (by simpa using isLive)]
    exact ⟨by simp [Sweep.live], by simp, fun h => absurd h isLive⟩

theorem State.takeFlip_nightOn (s : State) (b : BeaconNo) (g : GroupId) : (s.takeFlip b g).nightOn = s.nightOn := by
  obtain ⟨a, k, d, w, n, x, frame⟩ := State.takeFlip_frame b s g
  rw [frame]
  rfl

theorem State.takeFlip_keepsFlipped {h : GroupId} (g : GroupId) (has : s.HasFlipped h) : (s.takeFlip b g).HasFlipped h := by
  obtain ⟨raised, inPass⟩ := has
  rcases s.takeFlip_cases b g with ⟨due, state⟩ | ⟨groups, made⟩
  · obtain ⟨frame, requests⟩ := (s.takeFlip_flips b g).1 due state
    refine ⟨by rw [frame]; simp, fun night => ?_⟩
    rw [State.takeFlip_nightOn] at night
    obtain ⟨live, isIn⟩ := inPass night
    obtain ⟨stillLive, _, keeps⟩ := State.takesChangeover_has requests night
    exact ⟨stillLive, keeps live h isIn⟩
  · rw [made]
    exact ⟨raised, inPass⟩

theorem State.takeFlip_hasFlipped {g : GroupId} (due : (s.groupRec g).flipBeacon = b) (state : (s.groupRec g).state = .announced) :
    (s.takeFlip b g).HasFlipped g := by
  obtain ⟨frame, requests⟩ := (s.takeFlip_flips b g).1 due state
  refine ⟨by rw [frame]; simp, fun night => ?_⟩
  rw [State.takeFlip_nightOn] at night
  obtain ⟨live, isIn, _⟩ := State.takesChangeover_has requests night
  exact ⟨live, isIn⟩

/-- Every ANNOUNCED group of the beacon is flipped (R134). -/
theorem State.takeFlips_hasFlipped {g : GroupId} (due : (s.groupRec g).flipBeacon = b) (state : (s.groupRec g).state = .announced) :
    (s.takeFlips b).HasFlipped g := by
  have keeps (l : List GroupId) {u : State} (has : u.HasFlipped g) : (l.foldl (State.takeFlip b) u).HasFlipped g := by
    induction l generalizing u with
    | nil => exact has
    | cons h rest ih => exact ih (State.takeFlip_keepsFlipped h has)
  have reaches (l : List GroupId) (isIn : g ∈ l) (u : State) (same : u.groupRec g = s.groupRec g) :
      (l.foldl (State.takeFlip b) u).HasFlipped g := by
    induction l generalizing u with
    | nil => exact nomatch isIn
    | cons h rest ih =>
      rw [List.foldl_cons]
      by_cases own : g = h
      · rw [← own]
        exact keeps rest (State.takeFlip_hasFlipped (by rw [same, due]) (by rw [same, state]))
      · refine ih ((List.mem_cons.1 isIn).resolve_left own) _ ?_
        rw [State.takeFlip_groupRec, if_neg own, same]
  exact reaches allGroups (mem_allGroups g) s rfl

/-! ### One report (R133) -/

/-- The group's record after a report of the beacon, before any flip. -/
def GroupRecord.reported (c : CellId) (b : BeaconNo) (sent : Bool) (r : GroupRecord) : GroupRecord :=
  if sent = true then r else r.missed c b

/-- The reports of the present beacon once cell c has reported beacon b. -/
def State.reportsOf (s : State) (c : CellId) (b : BeaconNo) : BitVec 4 :=
  if b = s.timer.now then s.flip.reported ||| cellBit c else s.flip.reported

theorem State.reportBeacon_eq (s : State) (c : CellId) (b : BeaconNo) (sent : Bool) : ∃ k : FlipUnit,
    k.reported = s.reportsOf c b ∧ (∀ g, groupAt k.groups g = (s.groupRec g).reported c b sent) ∧
    (sent = true → k.groups = s.flip.groups) ∧
    s.reportBeacon c b sent =
      if b = s.timer.now ∧ s.reportsOf c b = 0xF then (s.setFlip k).takeFlips b else s.setFlip k := by
  let groups := if sent = true then s.flip.groups else tableMap (GroupRecord.missed c b) s.flip.groups
  refine ⟨{ groups := groups, reported := s.reportsOf c b }, rfl, fun g => ?_, fun isSent => if_pos isSent, ?_⟩
  · cases sent
    · exact groupAt_tableMap _ s.flip.groups g
    · rfl
  · by_cases last : b = s.timer.now
    · have all : s.reportsOf c b = s.flip.reported ||| cellBit c := if_pos last
      rw [all]
      refine (if_pos last).trans ?_
      by_cases four : s.flip.reported ||| cellBit c = 0xF
      · exact (if_pos four).trans (if_pos ⟨last, four⟩).symm
      · exact (if_neg four).trans (if_neg fun h => four h.2).symm
    · have same : s.reportsOf c b = s.flip.reported := if_neg last
      rw [same, if_neg fun h => last h.1]
      exact if_neg last

theorem State.reportBeacon_reported (s : State) (c : CellId) (b : BeaconNo) (sent : Bool) :
    (s.reportBeacon c b sent).flip.reported = s.reportsOf c b := by
  obtain ⟨k, reported, _, _, made⟩ := s.reportBeacon_eq c b sent
  rw [made]
  split_ifs
  · exact (State.takeFlips_reported _ b).trans reported
  · exact reported

theorem State.reportBeacon_groupRec (s : State) (c : CellId) (b : BeaconNo) (sent : Bool) (g : GroupId) :
    (s.reportBeacon c b sent).groupRec g =
      if b = s.timer.now ∧ s.reportsOf c b = 0xF then ((s.groupRec g).reported c b sent).flipped b
      else (s.groupRec g).reported c b sent := by
  obtain ⟨k, _, groups, _, made⟩ := s.reportBeacon_eq c b sent
  have own : (s.setFlip k).groupRec g = (s.groupRec g).reported c b sent := groups g
  rw [made]
  split_ifs
  · rw [State.takeFlips_groupRec, own]
  · exact own

/-- A report that does not complete the four changes nothing but the flip unit. -/
theorem State.reportBeacon_unflipped (c : CellId) (sent : Bool) (notLast : ¬(b = s.timer.now ∧ s.reportsOf c b = 0xF)) :
    ∃ k, s.reportBeacon c b sent = s.setFlip k ∧ (sent = true → k.groups = s.flip.groups) := by
  obtain ⟨k, _, _, kept, made⟩ := s.reportBeacon_eq c b sent
  exact ⟨k, made.trans (if_neg notLast), kept⟩

end

/-! ### A beacon's SEND that is answered (R109, R110, R122) -/

section
variable {s : State} {c : CellId} {b : BeaconNo} {plan : Plan}

/-- The port after the answer to a command. -/
def RadioPort.afterAnswer (k : LinkCommand) (p : RadioPort) : RadioPort := { p.heard k with exchange := none }

theorem RadioPort.afterAnswer_eq (k : LinkCommand) (p : RadioPort) : p.afterAnswer k = { p with
    runCount := if k.moves = true ∧ p.state = .active then 0 else p.runCount, exchange := none } := by
  unfold RadioPort.afterAnswer RadioPort.heard
  split_ifs <;> rfl

/-- With a window, the window counts as sent and runs. -/
theorem State.beaconSent_window (standing : (s.seqAt c).standing = some plan) (window : plan.items ≠ []) :
    s.beaconSent c b = (s.reportBeacon c b true).withCells
      (cellPut s.seq c { s.seqAt c with position := .before, windowsSent := countUp (s.seqAt c).windowsSent }) s.port := by
  have has : plan.hasWindow = true := by simpa [Plan.hasWindow] using window
  have sent : s.beaconSent c b =
      (s.modSeq c fun q => { q with position := .before, windowsSent := countUp q.windowsSent }).reportBeacon c b true := by
    unfold State.beaconSent
    simp only [standing, has, if_true]
  rw [sent]
  exact s.reportBeacon_withCells _ s.port c b true

theorem State.endWindow_eq (s : State) (c : CellId) : s.endWindow c =
    s.withCells (cellPut s.seq c { (s.seqAt c).noPlan with offPending := false })
      (cellPut s.port c (if (s.seqAt c).offPending = true then (s.portAt c).leave .off else s.portAt c)) := by
  have pending : ((s.modSeq c Sequencer.noPlan).seqAt c).offPending = (s.seqAt c).offPending := by
    rw [State.modSeq_seqAt]
    rfl
  unfold State.endWindow State.takeOffPending
  rw [pending]
  by_cases off : (s.seqAt c).offPending = true
  · rw [if_pos off, if_pos off]
    exact (s.modPort c fun p => p.leave .off).modSeq_modSeq c Sequencer.noPlan _
  · have kept : { (s.seqAt c).noPlan with offPending := false } = (s.seqAt c).noPlan := by
      simp [Sequencer.noPlan, off]
    rw [if_neg off, if_neg off, kept, State.portAt, cellPut_cellAt]
    rfl

/-- With none, the plan is over with the SEND. -/
theorem State.beaconSent_bare (standing : (s.seqAt c).standing = some plan) (bare : plan.items = []) :
    s.beaconSent c b = (s.reportBeacon c b true).withCells (cellPut s.seq c { (s.seqAt c).noPlan with offPending := false })
      (cellPut s.port c (if (s.seqAt c).offPending = true then (s.portAt c).leave .off else s.portAt c)) := by
  have has : plan.hasWindow = false := by simp [Plan.hasWindow, bare]
  have sent : s.beaconSent c b = (s.reportBeacon c b true).endWindow c := by
    unfold State.beaconSent
    simp [standing, has]
  obtain ⟨a, k, d, w, n, x, frame⟩ := s.reportBeacon_frame c b true
  rw [sent, State.endWindow_eq, frame]
  rfl

/-- What is left at the end of such a step. -/
theorem State.reported_concludes (settled : s.settled = true) (q : Sequencer) (p : RadioPort) :
    ((s.reportBeacon c b true).withCells (cellPut s.seq c q) (cellPut s.port c p.goOn)).drainedInto
      ((s.reportBeacon c b true).withCells (cellPut s.seq c q) (cellPut s.port c p)).conclude := by
  obtain ⟨a, k, d, w, n, x, frame⟩ := s.reportBeacon_frame c b true
  obtain ⟨_, _, ports, _⟩ := s.settled_iff.1 settled
  obtain ⟨u, isU⟩ : ∃ u, u = (s.reportBeacon c b true).withCells (cellPut s.seq c q) (cellPut s.port c p) := ⟨_, rfl⟩
  have port (d : CellId) : u.portAt d = if d = c then p else s.portAt d := by
    rw [isU]
    exact cellAt_cellPut s.port c d p
  have step : s.CellStep u c := by
    refine ⟨?_, ?_, ?_, fun d other => (port d).trans (if_neg other)⟩
    all_goals
      rw [isU, frame]
      rfl
  obtain ⟨p', each, drains⟩ := State.conclude_drainsLinks (step.command settled) (step.busSettled settled)
  have links : p' = cellPut s.port c p.goOn := by
    refine cell_ext fun d => ?_
    rw [each d, port d, cellAt_cellPut]
    split_ifs
    · rfl
    · exact RadioPort.goOn_settled _ (ports d)
  rw [links, isU] at drains
  exact drains

theorem State.drainedInto_eq {u t : State} (notOver : u.drainDue = false) (drains : u.drainedInto t) : t = u := by
  unfold State.drainedInto at drains
  rwa [if_neg (by rwa [← State.drainDue_iff, Bool.not_eq_true])] at drains

/-- What the answer to a beacon's SEND does, before the step's end. -/
theorem State.takeAnswer_beacon {frame : Frame} {second last : Bool} {answer : Word}
    (exchange : (s.portAt c).exchange = some (.command (.send frame) (.beacon b) second last))
    (answered : answers (.send frame) answer = true) (standing : (s.seqAt c).standing = some plan) :
    let heard := (s.portAt c).afterAnswer (.send frame)
    ∃ q p, s.takeAnswer c answer = (s.reportBeacon c b true).withCells (cellPut s.seq c q) (cellPut s.port c p) ∧
      (plan.items ≠ [] →
        q = { s.seqAt c with position := .before, windowsSent := countUp (s.seqAt c).windowsSent } ∧ p = heard) ∧
      (plan.items = [] → q = { (s.seqAt c).noPlan with offPending := false } ∧
        p = if (s.seqAt c).offPending = true then heard.leave .off else heard) := by
  intro heard
  obtain ⟨w, isW⟩ : ∃ w, w = s.modPort c (RadioPort.afterAnswer (.send frame)) := ⟨_, rfl⟩
  have taken : s.takeAnswer c answer = w.beaconSent c b := by
    unfold State.takeAnswer
    simp only [exchange, answered, if_true]
    rw [isW]
    rfl
  have report : w.reportBeacon c b true = (s.reportBeacon c b true).withCells s.seq (cellPut s.port c heard) := by
    rw [isW]
    exact s.reportBeacon_withCells s.seq _ c b true
  have seq : w.seq = s.seq := by rw [isW]; rfl
  have port : w.port = cellPut s.port c heard := by rw [isW]; rfl
  have portAt : w.portAt c = heard := by rw [isW]; exact s.modPort_portAt c _
  have wStanding : (w.seqAt c).standing = some plan := by rw [State.seqAt, seq]; exact standing
  by_cases window : plan.items = []
  · refine ⟨_, _, ?_, fun h => absurd window h, fun _ => ⟨rfl, rfl⟩⟩
    rw [taken, State.beaconSent_bare wStanding window, report, portAt, port, seq, cellPut_cellPut, State.seqAt, seq]
    rfl
  · refine ⟨_, _, ?_, fun _ => ⟨rfl, rfl⟩, fun h => absurd h window⟩
    rw [taken, State.beaconSent_window wStanding window, report, port, seq, State.seqAt, seq]
    rfl

/-- The fourth report of a sent beacon is the flip of its groups. -/
theorem State.reportBeacon_flips (now : b = s.timer.now ∧ s.reportsOf c b = 0xF) (g : GroupId) :
    let u := s.reportBeacon c b true
    ((s.groupRec g).flipBeacon = b → (s.groupRec g).state = .announced →
      u.groupRec g = { s.groupRec g with state := .done } ∧ u.HasFlipped g) ∧
    ((s.groupRec g).flipBeacon = b → (s.groupRec g).state = .cancelling →
      u.groupRec g = { s.groupRec g with state := .opened }) ∧
    ((s.groupRec g).flipBeacon ≠ b ∨ (s.groupRec g).state = .opened ∨ (s.groupRec g).state = .done →
      u.groupRec g = s.groupRec g) := by
  intro u
  have group : u.groupRec g = (s.groupRec g).flipped b := by
    have := s.reportBeacon_groupRec c b true g
    rwa [if_pos now] at this
  rw [group]
  refine ⟨fun due state => ⟨by simp [GroupRecord.flipped, due, state], ?_⟩, fun due state => ?_, fun stays => ?_⟩
  · obtain ⟨k, _, groups, _, made⟩ := s.reportBeacon_eq c b true
    have own : (s.setFlip k).groupRec g = s.groupRec g := groups g
    have flips : u = (s.setFlip k).takeFlips b := made.trans (if_pos now)
    rw [flips]
    exact State.takeFlips_hasFlipped (by rw [own, due]) (by rw [own, state])
  · simp [GroupRecord.flipped, due, state]
  · rcases stays with other | state | state
    · exact if_neg other
    · simp [GroupRecord.flipped, state]
    · simp [GroupRecord.flipped, state]

end

/-- Settles O26: the report is made in s as it stands, for it looks at no port and no sequencer. -/
theorem flipAtTheFourthReport : Obligations.FlipAtTheFourthReport := by
  unfold Obligations.FlipAtTheFourthReport
  intro s c sent b second last answer plan settled exchange answered standing reported flips
  obtain ⟨q, p, taken, windowed, bare⟩ := State.takeAnswer_beacon exchange answered standing
  obtain ⟨u, isU⟩ : ∃ u, u = s.reportBeacon c b true := ⟨_, rfl⟩
  obtain ⟨v, isV⟩ : ∃ v, v = u.withCells (cellPut s.seq c q) (cellPut s.port c p.goOn) := ⟨_, rfl⟩
  have drains := State.reported_concludes (c := c) (b := b) settled q p
  rw [← taken, ← isU, ← isV] at drains
  obtain ⟨a, k, d, w, n, x, frame⟩ := s.reportBeacon_frame c b true
  rw [← isU] at frame
  have seqAt (d : CellId) : v.seqAt d = if d = c then q else s.seqAt d := by
    rw [isV]
    exact cellAt_cellPut s.seq c d q
  have portAt (d : CellId) : v.portAt d = if d = c then p.goOn else s.portAt d := by
    rw [isV]
    exact cellAt_cellPut s.port c d p.goOn
  have seqOwn : v.seqAt c = q := (seqAt c).trans (if_pos rfl)
  have portOwn : v.portAt c = p.goOn := (portAt c).trans (if_pos rfl)
  have heardState : ((s.portAt c).afterAnswer (.send sent)).goOn.state = (s.portAt c).state := by
    obtain ⟨_, _, _, _, _, _, went⟩ := ((s.portAt c).afterAnswer (.send sent)).goOn_frame
    rw [went, RadioPort.afterAnswer_eq]
  refine ⟨_, u, v, rfl, drains, ?_, ?_, ?_, fun window => ?_, fun bareWindow => ?_, fun d other => ?_, ?_, fun noFlip => ?_,
    fun isFlip g => ?_⟩
  · rw [isU]
    exact s.reportBeacon_takes c b true
  · rw [isV]
    rfl
  · rw [isV, frame]
    rfl
  · obtain ⟨isQ, isP⟩ := windowed window
    have stands : (v.seqAt c).standing = some plan := by
      rw [seqOwn, isQ]
      exact standing
    refine ⟨State.drainedInto_eq (State.drainDue_of_standing stands) drains, seqOwn.trans isQ, ?_⟩
    rw [portOwn, isP]
    exact heardState
  · obtain ⟨isQ, isP⟩ := bare bareWindow
    refine ⟨seqOwn.trans isQ, fun stays => ?_, fun off => ?_⟩
    · rw [portOwn, isP, if_neg (by simp [stays])]
      exact heardState
    · obtain ⟨state, _, _, _, _, _, rest⟩ := ((s.portAt c).afterAnswer (.send sent)).leave_goOn .off
      rw [portOwn, isP, if_pos off]
      refine ⟨state, fun active => rest ?_⟩
      rw [RadioPort.afterAnswer_eq]
      simp [active]
  · exact ⟨(seqAt d).trans (if_neg other), (portAt d).trans (if_neg other)⟩
  · rw [isV, isU]
    exact s.reportBeacon_reported c b true
  · obtain ⟨k, made, kept⟩ := State.reportBeacon_unflipped (s := s) (b := b) c true noFlip
    rw [isV, isU, made]
    exact ⟨kept rfl, rfl, rfl, rfl, rfl, rfl⟩
  · obtain ⟨announced, cancelling, neither⟩ := State.reportBeacon_flips (s := s) (b := b) (c := c) isFlip g
    have night : u.nightOn = s.nightOn := by
      rw [frame]
      rfl
    rw [← isU] at announced cancelling neither
    rw [isV]
    refine ⟨fun due state => ?_, cancelling, neither⟩
    obtain ⟨group, raised, inPass⟩ := announced due state
    exact ⟨group, raised, fun on => inPass (night.trans on)⟩

end Sys2Proof.Machine
end

section
/-! PROOFS. Probes: their steps, and what their ends bring (R152 to R157, R180, R183). -/

namespace Sys2Proof.Machine

/-! ### The port at the end of a probe (R153, R156, R157) -/

/-- The port of a cell whose probe has ended, by who asked for it. -/
def RadioPort.probed (status : ProbeStatus) (ok : Bool) (reason : ProbeReason) (q : RadioPort) : RadioPort :=
  let p := { q with status := status }
  match reason with
  | .load => (if ok then p.activate else p.leave .off).clearRestarts
  | .cellOn _ => if ok then p.activate else p.leave .off
  | .restart true => (if ok then p.activate else p.leave .off).clearRestarts
  | .restart false =>
    if ok then p.activate
    else if p.restartCount + 1 < 8 then { p.leave .quiet with restartCount := p.restartCount + 1, countdown := 16 }
    else { p.leave .failed with restartCount := p.restartCount + 1 }

/-- CELL attention with the end of a probe (R153, R155 to R157). -/
def ProbeReason.raises (ok : Bool) (restarts : Nat) : ProbeReason → Bool
  | .load => false
  | .cellOn before => ok && decide (before ≠ .off)
  | .restart true => ok
  | .restart false => ok || decide (7 ≤ restarts)

/-- The restart count after the end of a probe. -/
def ProbeReason.restarts (ok : Bool) (restarts : Nat) : ProbeReason → Nat
  | .load | .restart true => 0
  | .cellOn _ => restarts
  | .restart false => if ok then restarts else restarts + 1

/-- The cell state after a probe that fails. -/
def ProbeReason.leaves (restarts : Nat) : ProbeReason → CellState
  | .load | .cellOn _ | .restart true => .off
  | .restart false => if restarts < 7 then .quiet else .failed

section
variable (status : ProbeStatus) (reason : ProbeReason) (p : RadioPort)

theorem RadioPort.probed_success : p.probed status true reason =
    { p with status := status, state := .active, probe := none, runCount := 0,
             restartCount := reason.restarts true p.restartCount } := by
  rcases reason with _ | before | adopted
  · rfl
  · rfl
  · cases adopted <;> rfl

theorem RadioPort.probed_failure : ∃ n, p.probed status false reason =
    { ({ p with status := status } : RadioPort).leave (reason.leaves p.restartCount) with
      restartCount := reason.restarts false p.restartCount, countdown := n } ∧
    (reason = .restart false → p.restartCount < 7 → n = 16) := by
  rcases reason with _ | before | adopted
  · exact ⟨_, rfl, nofun⟩
  · refine ⟨p.countdown, ?_, nofun⟩
    simp [RadioPort.probed, ProbeReason.leaves, ProbeReason.restarts, RadioPort.leave_eq]
  · cases adopted with
    | true => exact ⟨_, rfl, nofun⟩
    | false =>
      by_cases few : p.restartCount < 7
      · refine ⟨16, ?_, fun _ _ => rfl⟩
        have more : p.restartCount + 1 < 8 := by omega
        simp [RadioPort.probed, ProbeReason.leaves, ProbeReason.restarts, few, more]
      · refine ⟨p.countdown, ?_, fun _ h => absurd h few⟩
        have more : ¬p.restartCount + 1 < 8 := by omega
        simp [RadioPort.probed, ProbeReason.leaves, ProbeReason.restarts, few, more, RadioPort.leave_eq]

/-- What a successful probe leaves on its port once the link has gone on. -/
theorem RadioPort.probed_success_goOn : let q := (p.probed status true reason).goOn
    q.state = .active ∧ q.status = status ∧ q.runCount = 0 ∧ q.probe = none ∧ q.restartCount = reason.restarts true p.restartCount := by
  obtain ⟨_, _, _, _, _, _, went⟩ := (p.probed status true reason).goOn_frame
  dsimp only
  rw [went, RadioPort.probed_success]
  exact ⟨rfl, rfl, rfl, rfl, rfl⟩

/-- What a probe that fails leaves on its port once the link has gone on. -/
theorem RadioPort.probed_failure_goOn : let q := (p.probed status false reason).goOn
    q.state = reason.leaves p.restartCount ∧ q.status = status ∧ q.probe = none ∧
      q.restartCount = reason.restarts false p.restartCount ∧ (reason = .restart false → p.restartCount < 7 → q.countdown = 16) ∧
      (p.state = .probing → q.issued .rest .port) := by
  obtain ⟨n, made, counts⟩ := RadioPort.probed_failure status reason p
  obtain ⟨_, _, _, _, _, _, went⟩ := (p.probed status false reason).goOn_frame
  rw [RadioPort.leave_eq] at made
  dsimp only
  refine ⟨by rw [went, made], by rw [went, made], by rw [went, made], by rw [went, made], fun isRestart few => ?_, fun probing => ?_⟩
  · rw [went, made]
    exact counts isRestart few
  · refine RadioPort.goOn_issued _ _ _ (.inr ?_)
    rw [made]
    simp [probing, CellState.inUse]

end

/-! ### What the end of a probe brings (R157, R180) -/

/-- The state with another port in one cell, and other causes. -/
def State.onPort (s : State) (c : CellId) (p : RadioPort) (a : BitVec 9) : State :=
  { s with cmd := { s.cmd with attn := a }, port := cellPut s.port c p }

/-- The block that asked for the probe hears of its end. -/
def State.probeTold (reason : ProbeReason) (ok : Bool) (c : CellId) (u : State) : State :=
  match reason with
  | .load => u.checkLoadProbes
  | .cellOn _ | .restart true => u.finishCellOn c ok
  | .restart false => u

theorem State.probeEnd_eq (s : State) (c : CellId) (f : RadioPort → RadioPort) (status : ProbeStatus) (ok : Bool) {probe : Probe}
    (probing : (f (s.portAt c)).probe = some probe) : (s.modPort c f).probeEnd c status ok =
      (s.onPort c ((f (s.portAt c)).probed status ok probe.reason)
        (if probe.reason.raises ok (f (s.portAt c)).restartCount = true then s.cmd.attn ||| 32 else s.cmd.attn)).probeTold
          probe.reason ok c := by
  have own : (s.modPort c f).portAt c = f (s.portAt c) := s.modPort_portAt c f
  have sets (g h : RadioPort → RadioPort) : ((s.modPort c f).modPort c g).modPort c h =
      s.onPort c (h (g (f (s.portAt c)))) s.cmd.attn := by
    rw [State.modPort_modPort, State.modPort_modPort]
    rfl
  have raised (p : RadioPort) (a : BitVec 9) : (s.onPort c p a).raise .cell = s.onPort c p (a ||| 32) := rfl
  obtain ⟨reason, channel, rate, tries, tuning⟩ := probe
  unfold State.probeEnd
  rw [own]
  simp only [probing]
  rcases reason with _ | before | adopted
  · dsimp only
    rw [sets]
    rfl
  · cases ok with
    | false =>
      simp only [Bool.false_eq_true, if_false]
      rw [sets]
      rfl
    | true =>
      simp only [if_true]
      rw [sets, raised]
      cases before <;> rfl
  · cases adopted with
    | true =>
      cases ok with
      | false =>
        simp only [Bool.false_eq_true, if_false]
        rw [sets]
        rfl
      | true =>
        simp only [if_true]
        rw [sets, raised]
        rfl
    | false =>
      cases ok with
      | true =>
        simp only [if_true]
        rw [sets, raised]
        rfl
      | false =>
        simp only [Bool.false_eq_true, if_false]
        rw [sets, sets, raised]
        have more : (f (s.portAt c)).restartCount + 1 < Config.restartLimit ↔ ¬7 ≤ (f (s.portAt c)).restartCount := by
          simp only [Config.restartLimit]
          omega
        have few : (f (s.portAt c)).restartCount + 1 < 8 ↔ ¬7 ≤ (f (s.portAt c)).restartCount := by omega
        simp only [RadioPort.probed, ProbeReason.raises, Bool.false_or, decide_eq_true_eq, Bool.false_eq_true, if_false]
        by_cases last : 7 ≤ (f (s.portAt c)).restartCount
        · simp only [more, few, last, not_true_eq_false, if_false, if_true]
          rfl
        · simp only [more, few, last, not_false_eq_true, if_false, if_true]
          rfl

/-- CELL_ON of cell c has completed between s and t with the status of its probe (R157, R183). -/
def State.cellOnCompletes (s t : State) (code : ResultCode) (status : ProbeStatus) (causes : BitVec 9) : Prop :=
  t = { s with cmd := t.cmd, port := t.port, night := t.night, bus := t.bus } ∧
  t.cmd = { s.cmd with inProgress := none, resultCode := code, resultValue := BitVec.ofNat 24 status.code,
                       attn := s.cmd.attn ||| causes } ∧
  (s.cmd.controller = .loaded → s.recordDue t) ∧
  (s.cmd.controller ≠ .loaded → t.night = s.night ∧ t.bus = s.bus)

/-- A probe of LOAD in cell c has ended between s and t: LOAD waits for the others, or puts its settings into force (R180). -/
def State.loadGoesOn (s t : State) (c : CellId) : Prop :=
  ∀ before aside clamps saved, s.cmd.inProgress = some (.load before (.probing aside clamps saved)) →
    ((∃ d : CellId, d ≠ c ∧ (s.portAt d).loadProbing = true) → t = { s with port := t.port }) ∧
    ((∀ d : CellId, d ≠ c → (s.portAt d).loadProbing = false) →
      t = { s with cmd := t.cmd, settings := aside, inForce := true, port := t.port, night := t.night, bus := t.bus } ∧
      t.cmd = { s.cmd with controller := .loaded, inProgress := some (.load before (.recording clamps)) } ∧
      s.recordDue t ∧ t.night.awaited = true)

section
variable {s : State} {c : CellId}

theorem State.onPort_portAt (s : State) (c d : CellId) (p : RadioPort) (a : BitVec 9) :
    (s.onPort c p a).portAt d = if d = c then p else s.portAt d := cellAt_cellPut s.port c d p

theorem State.onPort_step (s : State) (c : CellId) (p : RadioPort) (a : BitVec 9) : s.CellStep (s.onPort c p a) c :=
  ⟨rfl, rfl, rfl, fun d other => (s.onPort_portAt c d p a).trans (if_neg other)⟩

theorem State.onPort_conclude (settled : s.settled = true) (p : RadioPort) (a : BitVec 9) :
    (s.onPort c p a).conclude = s.onPort c p.goOn a := by
  obtain ⟨_, drain, _⟩ := s.settled_iff.1 settled
  have same : (s.onPort c p a).drainDue = s.drainDue := rfl
  rw [(s.onPort_step c p a).conclude_kick settled (same.trans drain), State.kick]
  unfold State.modPort
  rw [State.onPort_portAt, if_pos rfl]
  unfold State.onPort State.setPort
  rw [cellPut_cellPut]

theorem State.finishCellOn_told (settled : s.settled = true) (waiting : s.cmd.waiting = none)
    (running : s.cmd.inProgress = some (.cellOn c)) (p : RadioPort) (a : BitVec 9) (ok : Bool) :
    let t := ((s.onPort c p (s.cmd.attn ||| a)).finishCellOn c ok).conclude
    (t.portAt c = p.goOn ∧ ∀ d, d ≠ c → t.portAt d = s.portAt d) ∧
      s.cellOnCompletes t (if ok then .ok else .probeFailed) p.status (a ||| 1) := by
  intro t
  have own : (s.onPort c p (s.cmd.attn ||| a)).portAt c = p := (s.onPort_portAt c c p _).trans (if_pos rfl)
  obtain ⟨u, isU⟩ : ∃ u, u = (s.onPort c p (s.cmd.attn ||| a)).finish (if ok then .ok else .probeFailed) p.status.code := ⟨_, rfl⟩
  have told : (s.onPort c p (s.cmd.attn ||| a)).finishCellOn c ok = u.nightIfLoaded := by
    rw [State.finishCellOn_eq, own, isU]
    exact if_pos running
  have step := s.onPort_step c p (s.cmd.attn ||| a)
  have others (d : CellId) (other : d ≠ c) : u.portAt d = s.portAt d := by
    rw [isU]
    exact step.others d other
  have ports (d : CellId) (other : d ≠ c) : (u.portAt d).settled = true := by
    rw [isU]
    exact step.othersSettled settled d other
  obtain ⟨n, b, q, frame, loaded, notLoaded, link, rest⟩ := State.conclude_nightIfLoaded (u := u) (c := c)
    (by rw [isU]; exact waiting) (by rw [isU]; rfl) ports (by rw [isU]; exact step.busSettled settled)
  have same : t = u.nightIfLoaded.conclude := congrArg State.conclude told
  have made : t = { u with night := n, bus := b, port := q } := same.trans frame
  have port (d : CellId) : t.portAt d = cellAt q d := by
    rw [made]
    rfl
  have ownU : u.portAt c = p := by
    rw [isU]
    exact own
  refine ⟨⟨?_, fun d other => ?_⟩, ?_, ?_, fun isLoaded => ?_, fun notLoaded' => ?_⟩
  · rw [port, link, ownU]
  · rw [port, rest d other, others d other]
  · rw [made, isU]
    rfl
  · rw [made, isU, ← BitVec.or_assoc]
    rfl
  · rw [same]
    exact (State.recordDue_congr (by rw [isU]; rfl) rfl).1 (loaded (by rw [isU]; exact isLoaded))
  · obtain ⟨night, bus⟩ := notLoaded (by rw [isU]; exact notLoaded')
    rw [made]
    refine ⟨night.trans ?_, bus.trans ?_⟩
    all_goals
      rw [isU]
      rfl

theorem State.checkLoadProbes_told (settled : s.settled = true) {p : RadioPort} (noProbe : p.probe = none) :
    let t := ((s.onPort c p s.cmd.attn).checkLoadProbes).conclude
    (t.portAt c = p.goOn ∧ ∀ d, d ≠ c → t.portAt d = s.portAt d) ∧ s.loadGoesOn t c := by
  intro t
  obtain ⟨u, isU⟩ : ∃ u, u = s.onPort c p s.cmd.attn := ⟨_, rfl⟩
  have uPort (d : CellId) : u.portAt d = if d = c then p else s.portAt d := by
    rw [isU]
    exact s.onPort_portAt c d p _
  have uFrame : u = { s with port := cellPut s.port c p } := isU
  have concludes : u.conclude = { s with port := cellPut s.port c p.goOn } := by
    rw [isU]
    exact State.onPort_conclude settled p s.cmd.attn
  have isT : t = u.checkLoadProbes.conclude := by rw [isU]
  have waits (same : u.checkLoadProbes = u) :
      (t.portAt c = p.goOn ∧ ∀ d, d ≠ c → t.portAt d = s.portAt d) ∧ t = { s with port := t.port } := by
    rw [isT, same, concludes]
    exact ⟨⟨cellAt_cellPut_same _ _ _, fun d other => cellAt_cellPut_other _ _ _ _ other⟩, rfl⟩
  by_cases others : ∃ d : CellId, d ≠ c ∧ (s.portAt d).loadProbing = true
  · obtain ⟨d, other, probing⟩ := others
    have probes : (u.portAt d).loadProbing = true := by
      rw [uPort, if_neg other]
      exact probing
    have same : u.checkLoadProbes = u := by
      unfold State.checkLoadProbes
      split
      · exact if_pos (List.any_eq_true.2 ⟨d, mem_allCells d, probes⟩)
      · rfl
    obtain ⟨ports, frame⟩ := waits same
    exact ⟨ports, fun _ _ _ _ _ => ⟨fun _ => frame, fun none_ => absurd probing (by simp [none_ d other])⟩⟩
  have ended (d : CellId) : (u.portAt d).loadProbing = false := by
    rw [uPort]
    split_ifs with own
    · simp [RadioPort.loadProbing, noProbe]
    · simpa using fun h => others ⟨d, own, h⟩
  by_cases loading : ∃ before aside clamps saved, s.cmd.inProgress = some (.load before (.probing aside clamps saved))
  · obtain ⟨before, aside, clamps, saved, running⟩ := loading
    have uRunning : u.cmd.inProgress = some (.load before (.probing aside clamps saved)) := by
      rw [uFrame]
      exact running
    obtain ⟨v, isV⟩ : ∃ v : State, v = { u with
      settings := aside, inForce := true,
      cmd := { u.cmd with controller := .loaded, inProgress := some (.load before (.recording clamps)) } } := ⟨_, rfl⟩
    have told : t = (v.nightDue true).conclude := by
      rw [isT, isV, State.checkLoadProbes_of_ended uRunning ended]
    obtain ⟨n, b, due⟩ := v.nightDue_frame true
    have recorded := v.nightDue_recordDue true
    have dueRunning : (v.nightDue true).cmd.inProgress = some (.load before (.recording clamps)) := by
      rw [due, isV]
    obtain ⟨q, b', frame⟩ := State.conclude_running dueRunning nofun
    rw [← told] at frame
    have night : t.night = (v.nightDue true).night := by rw [frame]
    have port (d : CellId) : t.portAt d = (u.portAt d).goOn := by
      rw [told, State.conclude_portAt _ d (.inr (by rw [dueRunning]; rfl)), due, isV]
      rfl
    refine ⟨⟨?_, fun d other => ?_⟩, ?_⟩
    · rw [port, uPort, if_pos rfl]
    · rw [port, uPort, if_neg other]
      exact RadioPort.goOn_settled _ ((s.settled_iff.1 settled).2.2.1 d)
    · intro before' aside' clamps' saved' running'
      rw [running] at running'
      obtain ⟨rfl, rfl, rfl, rfl⟩ : before = before' ∧ aside = aside' ∧ clamps = clamps' ∧ saved = saved' := by simpa using running'
      refine ⟨fun h => absurd h others, fun _ => ⟨?_, ?_, ?_, ?_⟩⟩
      · rw [frame, due, isV, isU]
        rfl
      · rw [frame, due, isV, isU]
        rfl
      · refine (State.recordDue_congr ?_ night).2 recorded
        rw [isV, isU]
        rfl
      · rw [night]
        exact v.nightDue_awaited
  · have same : u.checkLoadProbes = u := by
      have notLoading (before aside clamps saved) : u.cmd.inProgress ≠ some (.load before (.probing aside clamps saved)) := by
        rw [uFrame]
        exact fun h => loading ⟨before, aside, clamps, saved, h⟩
      unfold State.checkLoadProbes
      split
      · next before aside clamps saved running => exact absurd running (notLoading before aside clamps saved)
      · rfl
    exact ⟨(waits same).1, fun before aside clamps saved running => absurd ⟨before, aside, clamps, saved, running⟩ loading⟩

/-- The end of a probe, and of the step that ended it. -/
theorem State.probeTold_concludes (settled : s.settled = true)
    (waits : s.cmd.inProgress = some (.cellOn c) → s.cmd.waiting = none) {p : RadioPort} (noProbe : p.probe = none)
    (reason : ProbeReason) (ok : Bool) (n : Nat) :
    let attn := if reason.raises ok n = true then s.cmd.attn ||| 32 else s.cmd.attn
    let t := ((s.onPort c p attn).probeTold reason ok c).conclude
    (t.portAt c = p.goOn ∧ ∀ d, d ≠ c → t.portAt d = s.portAt d) ∧
      (reason = .restart false → t = s.onPort c p.goOn attn) ∧ (reason = .load → s.loadGoesOn t c) ∧
      (reason ≠ .load → reason ≠ .restart false → s.cmd.inProgress = some (.cellOn c) →
        s.cellOnCompletes t (if ok then .ok else .probeFailed) p.status (if reason.raises ok n = true then 33 else 1)) := by
  intro attn t
  have untold (same : (s.onPort c p attn).probeTold reason ok c = s.onPort c p attn) : t = s.onPort c p.goOn attn :=
    (congrArg State.conclude same).trans (State.onPort_conclude settled p attn)
  have ports (h : t = s.onPort c p.goOn attn) : t.portAt c = p.goOn ∧ ∀ d, d ≠ c → t.portAt d = s.portAt d := by
    rw [h]
    exact ⟨(s.onPort_portAt c c _ _).trans (if_pos rfl), fun d other => (s.onPort_portAt c d _ _).trans (if_neg other)⟩
  have asked (told : (s.onPort c p attn).probeTold reason ok c = (s.onPort c p attn).finishCellOn c ok) :
      (t.portAt c = p.goOn ∧ ∀ d, d ≠ c → t.portAt d = s.portAt d) ∧ (s.cmd.inProgress = some (.cellOn c) →
        s.cellOnCompletes t (if ok then .ok else .probeFailed) p.status (if reason.raises ok n = true then 33 else 1)) := by
    by_cases running : s.cmd.inProgress = some (.cellOn c)
    · have causes : attn = s.cmd.attn ||| (if reason.raises ok n = true then 32 else 0) := by
        by_cases raises : reason.raises ok n = true
        · simp only [attn, if_pos raises]
        · simp [attn, if_neg raises]
      obtain ⟨cells, completes⟩ := State.finishCellOn_told settled (waits running) running p
        (if reason.raises ok n = true then 32 else 0) ok
      have made : t = ((s.onPort c p (s.cmd.attn ||| (if reason.raises ok n = true then 32 else 0))).finishCellOn c ok).conclude := by
        rw [← causes]
        exact congrArg State.conclude told
      rw [made]
      refine ⟨cells, fun _ => ?_⟩
      by_cases raises : reason.raises ok n = true
      · simp only [if_pos raises] at completes ⊢
        exact completes
      · simp only [if_neg raises] at completes ⊢
        exact completes
    · have same : (s.onPort c p attn).finishCellOn c ok = s.onPort c p attn := if_neg running
      exact ⟨ports (untold (told.trans same)), fun h => absurd h running⟩
  rcases reason with _ | before | adopted
  · have plain : attn = s.cmd.attn := rfl
    obtain ⟨cells, goesOn⟩ := State.checkLoadProbes_told (c := c) settled noProbe
    exact ⟨cells, nofun, fun _ => goesOn, fun h => absurd rfl h⟩
  · obtain ⟨cells, completes⟩ := asked rfl
    exact ⟨cells, nofun, nofun, fun _ _ => completes⟩
  · cases adopted with
    | true =>
      obtain ⟨cells, completes⟩ := asked rfl
      exact ⟨cells, nofun, nofun, fun _ _ => completes⟩
    | false =>
      have same := untold rfl
      exact ⟨ports same, fun _ => same, nofun, fun _ h => absurd rfl h⟩

end


/-! ### The events of a probe (R152, R155) -/

section
variable {s : State} {c : CellId} {k : LinkCommand} {probe : Probe} {second last : Bool}

/-- The port after a command that ended with no answer. -/
def RadioPort.afterSilence (p : RadioPort) : RadioPort := { p with exchange := none }

theorem State.takeAnswer_of {purpose : Purpose} {answer : Word} (out : (s.portAt c).exchange = some (.command k purpose second last))
    (answered : answers k answer = true) :
    s.takeAnswer c answer = (s.modPort c (RadioPort.afterAnswer k)).answered c k purpose (answerKind answer) := by
  unfold State.takeAnswer
  simp only [out, answered, if_true]
  rfl

theorem State.takeTimeout_of {purpose : Purpose} {seen : DataIn} (out : (s.portAt c).exchange = some (.command k purpose second last)) :
    s.takeTimeout c seen = s.unanswered c k purpose second last seen := by
  unfold State.takeTimeout
  simp only [out]

theorem exec_linkAnswer_ident {answer : Word} (probing : (s.portAt c).probe = some probe)
    (out : (s.portAt c).exchange = some (.command .ident .probe second last)) (answered : answers .ident answer = true) :
    (answer.extractLsb' 8 8 = 0x5C → exec (.linkAnswer c answer) s = .next ((s.modPort c fun p =>
      { p.afterAnswer .ident with probe := some { probe with tuning := true } }.issue (.tune probe.channel probe.rate) .probe)).conclude) ∧
    (answer.extractLsb' 8 8 ≠ 0x5C → exec (.linkAnswer c answer) s =
      .next ((s.modPort c (RadioPort.afterAnswer .ident)).probeEnd c .wrongKind false).conclude) := by
  have own : ((s.modPort c (RadioPort.afterAnswer .ident)).portAt c).probe = some probe := by
    rw [State.modPort_portAt, RadioPort.afterAnswer_eq]
    exact probing
  have taken : s.takeAnswer c answer = (s.modPort c (RadioPort.afterAnswer .ident)).identAnswered c (answerKind answer) :=
    State.takeAnswer_of out answered
  have event : exec (.linkAnswer c answer) s = .next (s.takeAnswer c answer).conclude := rfl
  rw [event, taken]
  unfold State.identAnswered
  simp only [own]
  refine ⟨fun kind => ?_, fun kind => ?_⟩
  · have same : answerKind answer = Config.transceiverKind := kind
    rw [if_pos same, State.modPort_modPort]
  · have other : answerKind answer ≠ Config.transceiverKind := kind
    rw [if_neg other]

theorem exec_linkTimeout_ident {seen : DataIn} (probing : (s.portAt c).probe = some probe)
    (out : (s.portAt c).exchange = some (.command .ident .probe second last)) :
    (probe.tries.length < 2 → exec (.linkTimeout c seen) s = .next ((s.modPort c fun p =>
      { p.afterSilence with probe := some { probe with tries := probe.tries ++ [seen] } }.issue .ident .probe)).conclude) ∧
    (probe.tries.length = 2 → exec (.linkTimeout c seen) s =
      .next ((s.modPort c RadioPort.afterSilence).probeEnd c (silentStatus (probe.tries ++ [seen])) false).conclude) := by
  have own : ((s.endExchange c).portAt c).probe = some probe := by
    unfold State.endExchange
    rw [State.modPort_portAt]
    exact probing
  have taken : s.takeTimeout c seen = (s.endExchange c).identSilent c seen := by
    rw [State.takeTimeout_of out]
    rfl
  have event : exec (.linkTimeout c seen) s = .next (s.takeTimeout c seen).conclude := rfl
  rw [event, taken]
  unfold State.identSilent
  simp only [own, List.length_append, List.length_cons, List.length_nil]
  refine ⟨fun few => ?_, fun all => ?_⟩
  · rw [if_pos (by omega)]
    unfold State.endExchange
    rw [State.modPort_modPort]
    rfl
  · rw [if_neg (by omega)]
    rfl

theorem State.probeTold_portAt (u : State) (reason : ProbeReason) (ok : Bool) (d : CellId) :
    (u.probeTold reason ok c).portAt d = u.portAt d := by
  have asked : (u.finishCellOn c ok).portAt d = u.portAt d := by
    rw [State.finishCellOn_eq]
    split_ifs
    · exact State.nightIfLoaded_portAt _ d
    · exact State.nightIfLoaded_portAt _ d
    · rfl
  rcases reason with _ | before | adopted
  · change u.checkLoadProbes.portAt d = u.portAt d
    unfold State.checkLoadProbes
    split
    · split_ifs
      · rfl
      · dsimp only
        obtain ⟨n, b, due⟩ := State.nightDue_frame _ true
        rw [due]
        rfl
    · rfl
  · exact asked
  · cases adopted
    · rfl
    · exact asked

theorem exec_linkAnswer_tune {channel : BitVec 6} {rate : Rate} {answer : Word}
    (out : (s.portAt c).exchange = some (.command (.tune channel rate) .probe second last))
    (answered : answers (.tune channel rate) answer = true) : exec (.linkAnswer c answer) s =
      .next ((s.modPort c (RadioPort.afterAnswer (.tune channel rate))).probeEnd c .present true).conclude :=
  congrArg (fun u : State => Host.Outcome.next u.conclude) (State.takeAnswer_of out answered)

/-- The port after a TUNE that was not answered at its second issue. -/
def RadioPort.afterNoTune (p : RadioPort) : RadioPort := { p.dropFaulted .probe with exchange := none }

theorem exec_linkTimeout_tune {channel : BitVec 6} {rate : Rate} {seen : DataIn} (probing : (s.portAt c).probe = some probe)
    (out : (s.portAt c).exchange = some (.command (.tune channel rate) .probe true last)) : exec (.linkTimeout c seen) s =
      .next ((s.modPort c RadioPort.afterNoTune).probeEnd c .noAnswer false).conclude := by
  have taken : s.takeTimeout c seen = ((s.modPort c RadioPort.afterNoTune).probeEnd c .noAnswer false).quietCheck c := by
    rw [State.takeTimeout_of out]
    rfl
  have inactive : (((s.modPort c RadioPort.afterNoTune).probeEnd c .noAnswer false).portAt c).state ≠ .active := by
    have still : (RadioPort.afterNoTune (s.portAt c)).probe = some probe := probing
    rw [State.probeEnd_eq s c RadioPort.afterNoTune .noAnswer false still, State.probeTold_portAt, State.onPort_portAt, if_pos rfl]
    obtain ⟨n, made, _⟩ := RadioPort.probed_failure .noAnswer probe.reason (RadioPort.afterNoTune (s.portAt c))
    rw [made, RadioPort.leave_eq]
    dsimp only [ProbeReason.leaves]
    split
    · nofun
    · nofun
    · nofun
    · split_ifs <;> nofun
  have event : exec (.linkTimeout c seen) s = .next (s.takeTimeout c seen).conclude := rfl
  rw [event, taken, State.quietCheck_of_inactive inactive]

end

theorem silentStatus_eq (tries : List DataIn) (seen : DataIn) : silentStatus (tries ++ [seen]) =
    if seen ≠ .varied ∧ ∀ x ∈ tries, x = seen then .lineStuck else .noAnswer := by
  have all (v : DataIn) : (tries ++ [seen]).all (· == v) = true ↔ (∀ x ∈ tries, x = v) ∧ seen = v := by
    simp
  unfold silentStatus
  refine if_congr ?_ rfl rfl
  rw [Bool.or_eq_true, all, all]
  cases seen <;> simp

section
variable {s : State} {c : CellId} {probe : Probe}

/-- An event whose end of a probe is all it brings: every case of R152 to R157, R180 and R183. -/
theorem State.probeEnds (settled : s.settled = true) (waits : s.cmd.inProgress = some (.cellOn c) → s.cmd.waiting = none)
    (f : RadioPort → RadioPort) (probing : (f (s.portAt c)).probe = some probe)
    (count : (f (s.portAt c)).restartCount = (s.portAt c).restartCount) (status : ProbeStatus) (ok : Bool) :
    let p := (f (s.portAt c)).probed status ok probe.reason
    let raises := probe.reason.raises ok (s.portAt c).restartCount = true
    let t := ((s.modPort c f).probeEnd c status ok).conclude
    (t.portAt c = p.goOn ∧ ∀ d, d ≠ c → t.portAt d = s.portAt d) ∧
      (probe.reason = .restart false → t = s.onPort c p.goOn (if raises then s.cmd.attn ||| 32 else s.cmd.attn)) ∧
      (probe.reason = .load → s.loadGoesOn t c) ∧
      (probe.reason ≠ .load → probe.reason ≠ .restart false → s.cmd.inProgress = some (.cellOn c) →
        s.cellOnCompletes t (if ok then .ok else .probeFailed) status (if raises then 33 else 1)) := by
  intro p raises t
  have noProbe : p.probe = none ∧ p.status = status := by
    cases ok with
    | true =>
      have made := RadioPort.probed_success status probe.reason (f (s.portAt c))
      exact ⟨congrArg RadioPort.probe made, congrArg RadioPort.status made⟩
    | false =>
      obtain ⟨n, made, _⟩ := RadioPort.probed_failure status probe.reason (f (s.portAt c))
      rw [RadioPort.leave_eq] at made
      exact ⟨congrArg RadioPort.probe made, congrArg RadioPort.status made⟩
  have made := State.probeEnd_eq s c f status ok probing
  rw [count] at made
  have concludes := State.probeTold_concludes settled waits noProbe.1 probe.reason ok (s.portAt c).restartCount
  dsimp only at concludes
  rw [noProbe.2, ← made] at concludes
  exact concludes

/-- A probe that fails, by the event that ends it. -/
theorem State.probeFails_ends {event : Instr} {status : ProbeStatus} (fails : s.probeFails c probe event status) :
    ∃ f : RadioPort → RadioPort, exec event s = .next ((s.modPort c f).probeEnd c status false).conclude ∧
      (f (s.portAt c)).probe = some probe ∧ (f (s.portAt c)).restartCount = (s.portAt c).restartCount ∧
      (f (s.portAt c)).state = (s.portAt c).state := by
  obtain ⟨probing, ⟨answer, second, last, rfl, out, answered, kind, rfl⟩ | ⟨seen, second, last, rfl, out, all, rfl⟩ |
    ⟨seen, channel, rate, last, rfl, out, rfl⟩⟩ := fails
  · refine ⟨_, (exec_linkAnswer_ident probing out answered).2 kind, ?_⟩
    rw [RadioPort.afterAnswer_eq]
    exact ⟨probing, rfl, rfl⟩
  · rw [← silentStatus_eq]
    exact ⟨_, (exec_linkTimeout_ident probing out).2 all, probing, rfl, rfl⟩
  · exact ⟨_, exec_linkTimeout_tune probing out, probing, rfl, rfl⟩

/-- An event that changes the port of one cell. -/
theorem State.portChange (settled : s.settled = true) {event : Instr} {g : RadioPort → RadioPort}
    (step : exec event s = .next (s.modPort c g).conclude) : ∃ t, exec event s = .next t ∧ t = { s with port := t.port } ∧
      (∀ d, d ≠ c → t.portAt d = s.portAt d) ∧ t.portAt c = (g (s.portAt c)).goOn := by
  rw [step, State.conclude_cellPort settled]
  exact ⟨_, rfl, rfl, fun d other => cellAt_cellPut_other _ c d _ other, cellAt_cellPut_same _ c _⟩

/-- The port at which a command of the probe falls due. -/
theorem RadioPort.issue_goOn (p : RadioPort) (k : LinkCommand) : (p.issue k .probe).goOn.issued k .probe ∧
    (p.issue k .probe).goOn.state = p.state ∧ (p.issue k .probe).goOn.restartCount = p.restartCount ∧
    (p.issue k .probe).goOn.status = p.status ∧ (p.issue k .probe).goOn.probe = p.probe := by
  obtain ⟨_, _, _, _, _, _, went⟩ := (p.issue k .probe).goOn_frame
  refine ⟨RadioPort.goOn_issued _ _ _ (.inr (by simp [RadioPort.issue])), ?_⟩
  rw [went]
  exact ⟨rfl, rfl, rfl, rfl⟩

end

/-- Settles O35: every end of a probe is one lemma, over its reason and its success. -/
theorem probes : Obligations.Probes := by
  unfold Obligations.Probes
  refine ⟨fun s c settled => ⟨fun quiet zero => ?begins, fun other => ?waits⟩, ?_, by decide⟩
  case begins =>
    have begins : s.countdownOver c = s.modPort c fun q => q.beginProbe (.restart false) (s.cellSettings c) := if_pos ⟨quiet, zero⟩
    obtain ⟨t, step, frame, others, own⟩ := State.portChange (c := c) settled (event := .restartCountdownExpiry c)
      (congrArg (fun u : State => Host.Outcome.next u.conclude) begins)
    obtain ⟨issued, state, count, status, probe⟩ := RadioPort.issue_goOn
      { (s.portAt c).dropAll with
        state := .probing,
        probe := some { reason := .restart false, channel := (s.cellSettings c).channel, rate := (s.cellSettings c).rate,
                        tries := [], tuning := false } } .ident
    refine ⟨t, step, frame, others, ?_⟩
    rw [own]
    exact ⟨state, issued, count, status, probe⟩
  case waits =>
    have same : s.countdownOver c = s := if_neg fun ⟨quiet, zero⟩ => other.elim (fun h => h quiet) fun h => h zero
    have event : exec (.restartCountdownExpiry c) s = .next (s.countdownOver c).conclude := rfl
    rw [event, same, State.conclude_settled s settled]
  intro s c probe settled probing waits others completes loadGoesOn
  refine ⟨fun second last answer out answered kind => ?kindAnswered, fun second last seen out few => ?silent,
    fun channel rate seen out => ?again, fun channel rate second last answer out answered => ?tuned, fun event status fails => ?failed⟩
  case kindAnswered =>
    obtain ⟨t, step, frame, others, own⟩ := State.portChange settled ((exec_linkAnswer_ident probing out answered).1 kind)
    obtain ⟨issued, state, _⟩ := RadioPort.issue_goOn
      { (s.portAt c).afterAnswer .ident with probe := some { probe with tuning := true } } (.tune probe.channel probe.rate)
    refine ⟨t, step, frame, others, ?_, ?_⟩
    · rw [own, state, RadioPort.afterAnswer_eq]
    · rw [own]
      exact issued
  case silent =>
    obtain ⟨t, step, frame, others, own⟩ := State.portChange settled ((exec_linkTimeout_ident (seen := seen) probing out).1 few)
    obtain ⟨issued, state, _, _, tries⟩ := RadioPort.issue_goOn
      { (s.portAt c).afterSilence with probe := some { probe with tries := probe.tries ++ [seen] } } .ident
    refine ⟨t, step, frame, others, ?_, ?_, ?_⟩
    · rw [own]
      exact issued
    · rw [own, state]
      rfl
    · rw [own, tries]
  case again =>
    have taken : s.takeTimeout c seen = s.modPort c fun p => { p with exchange := some (.command (.tune channel rate) .probe true false) } := by
      rw [State.takeTimeout_of out]
      rfl
    have still : ({ s.portAt c with exchange := some (.command (.tune channel rate) .probe true false) } : RadioPort).settled = true := by
      have port := (s.settled_iff.1 settled).2.2.1 c
      unfold RadioPort.settled at port ⊢
      rw [out] at port
      exact port
    have event : exec (.linkTimeout c seen) s = .next (s.takeTimeout c seen).conclude := rfl
    rw [event, taken, State.conclude_cellPort settled, RadioPort.goOn_settled _ still]
  case tuned =>
    have same : (RadioPort.afterAnswer (.tune channel rate) (s.portAt c)).probe = some probe ∧
        (RadioPort.afterAnswer (.tune channel rate) (s.portAt c)).restartCount = (s.portAt c).restartCount := by
      rw [RadioPort.afterAnswer_eq]
      exact ⟨probing, rfl⟩
    obtain ⟨⟨own, rest⟩, restart, load, asked⟩ := State.probeEnds settled waits _ same.1 same.2 .present true
    obtain ⟨state, status, runs, noProbe, restarts⟩ := RadioPort.probed_success_goOn .present probe.reason
      ((s.portAt c).afterAnswer (.tune channel rate))
    have step := exec_linkAnswer_tune out answered
    rw [← own] at state status runs noProbe restarts
    rw [same.2] at restarts
    generalize ((s.modPort c (RadioPort.afterAnswer (.tune channel rate))).probeEnd c .present true).conclude = t at *
    refine ⟨t, step, rest, state, status, runs, noProbe, fun isRestart => ?_, fun isLoad => ⟨?_, load isLoad⟩, fun adopted => ?_,
      fun running => ⟨fun before isCellOn => ?_, fun adopted => ?_⟩⟩
    · have made := restart isRestart
      rw [if_pos (by rw [isRestart]; rfl)] at made
      rw [made]
      rfl
    · rw [restarts, isLoad]
      rfl
    · rw [restarts, adopted]
      rfl
    · have done := asked (by rw [isCellOn]; nofun) (by rw [isCellOn]; nofun) running
      rw [isCellOn] at done
      cases before <;> exact done
    · have done := asked (by rw [adopted]; nofun) (by rw [adopted]; nofun) running
      rw [adopted] at done
      exact done
  case failed =>
    obtain ⟨f, step, still, count, kept⟩ := State.probeFails_ends fails
    obtain ⟨⟨own, rest⟩, restart, load, asked⟩ := State.probeEnds settled waits f still count status false
    obtain ⟨state, leftStatus, noProbe, restarts, counts, idles⟩ := RadioPort.probed_failure_goOn status probe.reason (f (s.portAt c))
    rw [← own] at state leftStatus noProbe restarts counts idles
    rw [kept] at idles
    rw [count] at state restarts counts
    generalize ((s.modPort c f).probeEnd c status false).conclude = t at *
    refine ⟨t, step, rest, leftStatus, noProbe, idles, fun isLoad => ?_, fun before isCellOn => ?_, fun adopted => ?_, fun isRestart => ?_⟩
    · refine ⟨?_, ?_, load isLoad⟩
      · rw [state, isLoad]
        rfl
      · rw [restarts, isLoad]
        rfl
    · refine ⟨by rw [state, isCellOn]; rfl, fun running => ?_⟩
      have done := asked (by rw [isCellOn]; nofun) (by rw [isCellOn]; nofun) running
      rw [isCellOn] at done
      exact done
    · refine ⟨by rw [state, adopted]; rfl, by rw [restarts, adopted]; rfl, fun running => ?_⟩
      have done := asked (by rw [adopted]; nofun) (by rw [adopted]; nofun) running
      rw [adopted] at done
      exact done
    · have made := restart isRestart
      refine ⟨by rw [restarts, isRestart]; rfl, fun few => ⟨?_, counts isRestart few, ?_⟩, fun last => ⟨?_, ?_⟩⟩
      · rw [state, isRestart]
        exact if_pos few
      · rw [if_neg (by simp [isRestart, ProbeReason.raises, few])] at made
        rw [made]
        rfl
      · rw [state, isRestart]
        exact if_neg (by omega)
      · rw [if_pos (by simp [isRestart, ProbeReason.raises, last])] at made
        rw [made]
        rfl

end Sys2Proof.Machine
end

section
/-! PROOFS. The beacon event: the cells that miss it, the cells that send it, and the night record write beside them (R106 to R109, R133,
R134, R155, R172). -/

namespace Sys2Proof.Machine

/-! ### The end of a cell's plan looks at no other cell's sequencer, at no port and at no night record write (R86, R107, R109) -/

/-- The sequencers, each as o makes it. -/
def seqBeside (o : CellId → Sequencer → Sequencer) (v : PerCell Sequencer) : PerCell Sequencer :=
  Vector.ofFn fun d => o d (cellAt v d)

theorem cellAt_seqBeside (o : CellId → Sequencer → Sequencer) (v : PerCell Sequencer) (d : CellId) :
    cellAt (seqBeside o v) d = o d (cellAt v d) := by
  simp [cellAt, seqBeside]

theorem seqBeside_cellPut (o : CellId → Sequencer → Sequencer) (c : CellId) (v : PerCell Sequencer) (x : Sequencer) :
    seqBeside o (cellPut v c x) = cellPut (seqBeside o v) c (o c x) := by
  refine cell_ext fun d => ?_
  rw [cellAt_seqBeside, cellAt_cellPut, cellAt_cellPut, cellAt_seqBeside]
  split_ifs with same
  · rw [same]
  · rfl

/-- The same state with other sequencers, ports and night record write, and more causes. -/
def State.apart (s : State) (o : CellId → Sequencer → Sequencer) (p : PerCell RadioPort) (n : NightWriter) (r : Option Action)
    (a : BitVec 9) : State := s.beside (seqBeside o s.seq) p n r a

/-- A change of a sequencer that leaves its plans alone. -/
def Sequencer.LeavesPlans (f : Sequencer → Sequencer) : Prop :=
  ∀ (q : Sequencer) (x y : Option Plan), f { q with coming := x, standing := y } = { f q with coming := x, standing := y }

theorem Sequencer.LeavesPlans.plans {f : Sequencer → Sequencer} (leaves : Sequencer.LeavesPlans f) (q : Sequencer) :
    (f q).coming = q.coming ∧ (f q).standing = q.standing := by
  have own : f q = { f q with coming := q.coming, standing := q.standing } := leaves q q.coming q.standing
  exact ⟨by rw [own], by rw [own]⟩

section
variable (s : State) {o : CellId → Sequencer → Sequencer} (p : PerCell RadioPort) (n : NightWriter) (r : Option Action) (a : BitVec 9)
  {c : CellId}

theorem State.apart_seqAt (o : CellId → Sequencer → Sequencer) (d : CellId) : (s.apart o p n r a).seqAt d = o d (s.seqAt d) :=
  cellAt_seqBeside o s.seq d

theorem State.settleResult_apart (o : CellId → Sequencer → Sequencer) (after : DueRecord) :
    (s.apart o p n r a).settleResult c after = (s.settleResult c after).apart o p n r a := by
  obtain ⟨d, w, m, x, f, frame⟩ := s.settleResult_frame c after
  unfold State.apart
  rw [State.settleResult_beside, frame]

theorem State.itemResult_apart (o : CellId → Sequencer → Sequencer) (index : Nat) (b : BeaconNo) (res : ItemResult) :
    (s.apart o p n r a).itemResult c index b res = (s.itemResult c index b res).apart o p n r a := by
  have record : (s.apart o p n r a).recordIn c index = s.recordIn c index := rfl
  unfold State.itemResult
  rw [record]
  cases s.recordIn c index with
  | none => rfl
  | some x =>
    dsimp only
    split_ifs
    · exact s.settleResult_apart p n r a o _
    · rfl

theorem State.reportBeacon_apart (o : CellId → Sequencer → Sequencer) (b : BeaconNo) (sent : Bool) :
    (s.apart o p n r a).reportBeacon c b sent = (s.reportBeacon c b sent).apart o p n r a := by
  obtain ⟨_, k, d, w, m, x, frame⟩ := s.reportBeacon_frame c b sent
  unfold State.apart
  rw [State.reportBeacon_beside, frame]

theorem State.abandonFetch_apart (o : CellId → Sequencer → Sequencer) (b : BeaconNo) (place : Nat) :
    (s.apart o p n r a).abandonFetch c b place = (s.abandonFetch c b place).apart o p n r a := by
  have fetch : (s.apart o p n r a).fetch = s.fetch := rfl
  unfold State.abandonFetch
  rw [fetch]
  cases s.fetch.current with
  | none => rfl
  | some f =>
    dsimp only
    split_ifs <;> rfl

theorem State.modSeq_apart {f : Sequencer → Sequencer} (moves : ∀ q, f (o c q) = o c (f q)) :
    (s.apart o p n r a).modSeq c f = (s.modSeq c f).apart o p n r a := by
  have put := seqBeside_cellPut o c s.seq (f (s.seqAt c))
  unfold State.modSeq
  rw [State.apart_seqAt, moves]
  unfold State.apart State.setSeq
  dsimp only
  rw [put]
  rfl

variable (leaves : Sequencer.LeavesPlans (o c))
include leaves

theorem State.itemAt_apart (b : BeaconNo) (place : Nat) : (s.apart o p n r a).itemAt c b place = s.itemAt c b place := by
  obtain ⟨coming, standing⟩ := leaves.plans (s.seqAt c)
  unfold State.itemAt Sequencer.planOf
  rw [State.apart_seqAt, coming, standing]

theorem State.modItem_apart (b : BeaconNo) (place : Nat) (f : PlanItem → PlanItem) :
    (s.apart o p n r a).modItem c b place f = (s.modItem c b place f).apart o p n r a := by
  refine State.modSeq_apart s p n r a fun q => ?_
  obtain ⟨coming, standing⟩ := leaves.plans q
  rw [coming, standing]
  exact (leaves q _ _).symm

theorem State.dropItem_apart (b : BeaconNo) (place : Nat) :
    (s.apart o p n r a).dropItem c b place = (s.dropItem c b place).apart o p n r a := by
  unfold State.dropItem
  rw [State.itemAt_apart s p n r a leaves, State.abandonFetch_apart s p n r a]
  cases s.itemAt c b place with
  | none => rfl
  | some i => exact State.modItem_apart ((s.abandonFetch c b place).releaseBuffers c i.buffers) p n r a leaves b place _

theorem State.notSent_apart (b : BeaconNo) (place : Nat) :
    (s.apart o p n r a).notSent c b place = (s.notSent c b place).apart o p n r a := by
  unfold State.notSent
  rw [State.itemAt_apart s p n r a leaves, State.dropItem_apart s p n r a leaves]
  cases s.itemAt c b place with
  | none => rfl
  | some i =>
    dsimp only
    split_ifs
    · exact (s.dropItem c b place).itemResult_apart p n r a o _ b _
    · rfl

theorem State.notSentAll_apart (plan : Plan) : (s.apart o p n r a).notSentAll c plan = (s.notSentAll c plan).apart o p n r a :=
  List.foldl_hom (fun u : State => u.apart o p n r a) fun u place => u.notSent_apart p n r a leaves plan.beacon place

theorem State.beaconMissed_apart (b : BeaconNo) :
    (s.apart o p n r a).beaconMissed c b = (s.beaconMissed c b).apart o p n r a := by
  obtain ⟨coming, _⟩ := leaves.plans (s.seqAt c)
  unfold State.beaconMissed
  rw [State.apart_seqAt, coming, State.reportBeacon_apart]
  cases (s.seqAt c).coming with
  | none => rfl
  | some plan =>
    dsimp only
    rw [State.notSentAll_apart _ p n r a leaves]
    refine State.modSeq_apart _ p n r a fun q => ?_
    obtain ⟨_, standing⟩ := leaves.plans q
    have cleared : o c { q with coming := none } = { o c q with coming := none, standing := q.standing } := leaves q none q.standing
    rw [cleared, ← standing]

end

/-! ### The four cells at a beacon event (R107) -/

section
variable {s v : State} {o : CellId → Sequencer → Sequencer} {p : PerCell RadioPort} {n : NightWriter} {r : Option Action} {c : CellId}
  {b : BeaconNo} {notices : List FlipNotice}

/-- A cell that sends no beacon. -/
def State.missesOut (s : State) (c : CellId) : Bool := !(s.nightOn && decide ((s.portAt c).state = .active))

/-- The plan a cell takes up with beacon b. -/
def State.planUp (s : State) (b : BeaconNo) (c : CellId) : Plan := (s.seqAt c).coming.getD (emptyPlan c b)

/-- The beacon of cell c. -/
def State.beaconOf (s : State) (b : BeaconNo) (notices : List FlipNotice) (c : CellId) : Frame :=
  beaconFrame s.settings c b (decide (s.cmd.controller = .paused)) (s.planUp b c) notices

/-- A cell that sends its beacon. -/
theorem State.cellBeacon_takes (own : o c = id) (night : v.nightOn = true) (active : (cellAt p c).state = .active) :
    State.cellBeacon b notices (v.apart o p n r 0) c =
      v.apart (fun d => if d = c then fun _ => (v.seqAt c).takeUp (v.planUp b c) else o d)
        (cellPut p c ((cellAt p c).issue (.send (v.beaconOf b notices c)) (.beacon b))) n r 0 := by
  have seq : (v.apart o p n r 0).seqAt c = v.seqAt c := by
    rw [State.apart_seqAt, own]
    rfl
  have takes : State.cellBeacon b notices (v.apart o p n r 0) c =
      ((v.apart o p n r 0).modSeq c fun q => q.takeUp (v.planUp b c)).modPort c fun p =>
        p.issue (.send (v.beaconOf b notices c)) (.beacon b) := by
    refine (if_pos ⟨night, active⟩).trans ?_
    rw [seq]
    rfl
  have seqs : cellPut (seqBeside o v.seq) c ((v.seqAt c).takeUp (v.planUp b c)) =
      seqBeside (fun d => if d = c then fun _ => (v.seqAt c).takeUp (v.planUp b c) else o d) v.seq := by
    refine cell_ext fun d => ?_
    rw [cellAt_cellPut, cellAt_seqBeside, cellAt_seqBeside]
    split_ifs <;> rfl
  rw [takes]
  unfold State.apart State.modSeq
  rw [← seqs, ← seq]
  rfl

/-- A cell that sends none. -/
theorem State.cellBeacon_misses (own : o c = id) (misses : ¬(v.nightOn = true ∧ (cellAt p c).state = .active)) :
    State.cellBeacon b notices (v.apart o p n r 0) c = (v.beaconMissed c b).apart o p n r 0 :=
  (if_neg misses).trans (v.beaconMissed_apart p n r 0 (by rw [own]; exact fun _ _ _ => rfl) b)

theorem State.beaconMissed_seqAt (s : State) (c : CellId) (b : BeaconNo) :
    (∀ d, d ≠ c → (s.beaconMissed c b).seqAt d = s.seqAt d) ∧ ((s.beaconMissed c b).seqAt c).coming = none ∧
      ((s.beaconMissed c b).seqAt c).standing.isSome = (s.seqAt c).standing.isSome := by
  obtain ⟨a, k, d, w, m, x, frame⟩ := s.reportBeacon_frame c b false
  obtain ⟨u, isU⟩ : ∃ u, u = s.reportBeacon c b false := ⟨_, rfl⟩
  have same (d : CellId) : u.seqAt d = s.seqAt d := by
    rw [isU, frame]
    rfl
  unfold State.beaconMissed
  rw [← isU]
  cases coming : (s.seqAt c).coming with
  | none =>
    dsimp only
    exact ⟨fun d _ => same d, by rw [same, coming], by rw [same]⟩
  | some plan =>
    dsimp only
    have items := State.notSentAll_items (s := u) (c := c) plan
    refine ⟨fun d other => ?_, by rw [State.modSeq_seqAt], ?_⟩
    · rw [State.modSeq_seqAt_other _ c d _ other, items.others d other, same]
    · rw [State.modSeq_seqAt]
      exact items.standing.trans (by rw [same])

/-- What the cells of a list have made of a state: those that send have taken up their plans, and the others have missed the beacon. -/
structure State.CellsTaken (s : State) (b : BeaconNo) (notices : List FlipNotice) (l : List CellId) (o o' : CellId → Sequencer → Sequencer)
    (p p' : PerCell RadioPort) : Prop where
  apart : ∀ c, c ∉ l ∨ s.missesOut c = true → o' c = o c ∧ cellAt p' c = cellAt p c
  taken : ∀ c ∈ l, s.missesOut c = false → o' c = (fun _ => (s.seqAt c).takeUp (s.planUp b c)) ∧
    cellAt p' c = (cellAt p c).issue (.send (s.beaconOf b notices c)) (.beacon b)

/-- What of a state the cells that are still to come look at. -/
structure State.Untaken (s v : State) (l : List CellId) (o : CellId → Sequencer → Sequencer) (p : PerCell RadioPort) : Prop where
  cmd : v.cmd.controller = s.cmd.controller
  settings : v.settings = s.settings
  seqAt : ∀ c ∈ l, v.seqAt c = s.seqAt c
  own : ∀ c ∈ l, o c = id
  port : ∀ c ∈ l, (cellAt p c).state = (s.portAt c).state

theorem State.cellBeacons_apart (l : List CellId) (nodup : l.Nodup) (untaken : s.Untaken v l o p) : ∃ o' p',
    l.foldl (State.cellBeacon b notices) (v.apart o p n r 0) =
      ((l.filter s.missesOut).foldl (fun t c => t.beaconMissed c b) v).apart o' p' n r 0 ∧ s.CellsTaken b notices l o o' p p' := by
  induction l generalizing v o p with
  | nil => exact ⟨o, p, rfl, ⟨fun _ _ => ⟨rfl, rfl⟩, nofun⟩⟩
  | cons c rest ih =>
    obtain ⟨new, nodup⟩ := List.nodup_cons.1 nodup
    obtain ⟨cmd, settings, seqs, owns, ports⟩ := untaken
    have own := owns c (List.mem_cons_self ..)
    have seq := seqs c (List.mem_cons_self ..)
    have port := ports c (List.mem_cons_self ..)
    have night : v.nightOn = s.nightOn := by simp only [State.nightOn, cmd]
    have away (d : CellId) (isIn : d ∈ rest) : d ≠ c := fun same => new (same ▸ isIn)
    rw [List.foldl_cons]
    by_cases misses : s.missesOut c = true
    · have not : ¬(v.nightOn = true ∧ (cellAt p c).state = .active) := by
        rw [night, port]
        rintro ⟨on, active⟩
        simp [State.missesOut, on, active] at misses
      obtain ⟨a, k, e, y, t, q, d, w, m, x, f, frame⟩ := v.beaconMissed_frame c b
      obtain ⟨others, _⟩ := v.beaconMissed_seqAt c b
      obtain ⟨o', p', made, taken⟩ := ih (v := v.beaconMissed c b) (o := o) (p := p) nodup
        { cmd := by rw [frame]; exact cmd
          settings := by rw [frame]; exact settings
          seqAt := fun d isIn => (others d (away d isIn)).trans (seqs d (List.mem_cons_of_mem c isIn))
          own := fun d isIn => owns d (List.mem_cons_of_mem c isIn)
          port := fun d isIn => ports d (List.mem_cons_of_mem c isIn) }
      refine ⟨o', p', ?_, ?_, ?_⟩
      · rw [State.cellBeacon_misses own not, made, List.filter_cons_of_pos misses, List.foldl_cons]
      · rintro d (out | missed)
        · exact taken.apart d (.inl fun isIn => out (List.mem_cons_of_mem c isIn))
        · exact taken.apart d (.inr missed)
      · intro d isIn sends
        rcases List.mem_cons.1 isIn with rfl | isIn
        · simp [misses] at sends
        · exact taken.taken d isIn sends
    · have sends : v.nightOn = true ∧ (cellAt p c).state = .active := by
        rw [night, port]
        simpa [State.missesOut] using misses
      have plan : v.planUp b c = s.planUp b c := by simp only [State.planUp, seq]
      have frame : v.beaconOf b notices c = s.beaconOf b notices c := by
        simp only [State.beaconOf, plan, settings, cmd]
      obtain ⟨o', p', made, taken⟩ := ih (v := v)
        (o := fun d => if d = c then fun _ => (v.seqAt c).takeUp (v.planUp b c) else o d)
        (p := cellPut p c ((cellAt p c).issue (.send (v.beaconOf b notices c)) (.beacon b))) nodup
        { cmd, settings
          seqAt := fun d isIn => seqs d (List.mem_cons_of_mem c isIn)
          own := fun d isIn => (if_neg (away d isIn)).trans (owns d (List.mem_cons_of_mem c isIn))
          port := fun d isIn => by
            rw [cellAt_cellPut_other _ _ _ _ (away d isIn)]
            exact ports d (List.mem_cons_of_mem c isIn) }
      refine ⟨o', p', ?_, ?_, ?_⟩
      · rw [State.cellBeacon_takes own sends.1 sends.2, made, List.filter_cons_of_neg misses]
      · intro d out
        have other : d ≠ c := by
          rintro rfl
          exact out.elim (fun h => h (List.mem_cons_self ..)) misses
        obtain ⟨isO, isP⟩ := taken.apart d (out.imp_left fun h isIn => h (List.mem_cons_of_mem c isIn))
        exact ⟨isO.trans (if_neg other), isP.trans (cellAt_cellPut_other _ _ _ _ other)⟩
      · intro d isIn sends
        rcases List.mem_cons.1 isIn with rfl | isIn
        · obtain ⟨isO, isP⟩ := taken.apart d (.inl new)
          rw [seq, plan] at isO
          rw [frame] at isP
          exact ⟨isO.trans (if_pos rfl), isP.trans (cellAt_cellPut_same _ _ _)⟩
        · obtain ⟨isO, isP⟩ := taken.taken d isIn sends
          exact ⟨isO, isP.trans (by rw [cellAt_cellPut_other _ _ _ _ (away d isIn)])⟩

end

/-! ### The cells that miss a beacon (R133, R134) -/

/-- The reports of the cells of a list. -/
def bitsOf (l : List CellId) : BitVec 4 := l.foldl (fun x c => x ||| cellBit c) 0

theorem cellBit_getLsbD (c d : CellId) : (cellBit c).getLsbD d.val = decide (d = c) := by
  rcases CellId.cases c with rfl | rfl | rfl | rfl <;> rcases CellId.cases d with rfl | rfl | rfl | rfl <;> rfl

theorem bitsOf_append (l : List CellId) (c : CellId) : bitsOf (l ++ [c]) = bitsOf l ||| cellBit c := by
  simp [bitsOf]

theorem bitsOf_getLsbD (l : List CellId) (d : CellId) : (bitsOf l).getLsbD d.val = decide (d ∈ l) := by
  induction l using List.reverseRecOn with
  | nil => simp [bitsOf]
  | append_singleton l c ih =>
    rw [bitsOf_append, BitVec.getLsbD_or, ih, cellBit_getLsbD]
    simp

theorem bitsOf_eq_all (l : List CellId) : bitsOf l = 0xF ↔ ∀ c : CellId, c ∈ l := by
  refine ⟨fun all c => ?_, fun all => ?_⟩
  · have bit := bitsOf_getLsbD l c
    have set : (0xF : BitVec 4).getLsbD c.val = true := by rcases CellId.cases c with rfl | rfl | rfl | rfl <;> rfl
    rw [all, set] at bit
    simpa using bit.symm
  · refine BitVec.eq_of_getLsbD_eq fun i small => ?_
    have bit := bitsOf_getLsbD l ⟨i, small⟩
    have set : (0xF : BitVec 4).getLsbD i = true := by
      rcases CellId.cases ⟨i, small⟩ with h | h | h | h <;> (rw [← Fin.val_mk small, h]; rfl)
    rw [set]
    simpa [all] using bit

/-- The record of a group whose cells of a list have missed beacon b. -/
def GroupRecord.missedIn (l : List CellId) (b : BeaconNo) (r : GroupRecord) : GroupRecord :=
  if (r.state.pending && afterBeacon b r.announce && atOrAfter r.flipBeacon b) = true then { r with gap := r.gap ||| bitsOf l } else r

theorem GroupRecord.missedIn_append (l : List CellId) (c : CellId) (b : BeaconNo) (r : GroupRecord) :
    (r.missedIn l b).missed c b = r.missedIn (l ++ [c]) b := by
  unfold GroupRecord.missedIn GroupRecord.missed
  by_cases spans : (r.state.pending && afterBeacon b r.announce && atOrAfter r.flipBeacon b) = true
  · rw [if_pos spans, if_pos spans, if_pos spans, bitsOf_append, BitVec.or_assoc]
  · rw [if_neg spans, if_neg spans, if_neg spans]

theorem State.beaconMissed_flip (s : State) (c : CellId) (b : BeaconNo) :
    (s.beaconMissed c b).flip = (s.reportBeacon c b false).flip ∧ (s.beaconMissed c b).cmd = (s.reportBeacon c b false).cmd ∧
      (s.beaconMissed c b).timer = s.timer := by
  obtain ⟨a, k, d, w, m, x, report⟩ := s.reportBeacon_frame c b false
  unfold State.beaconMissed
  cases (s.seqAt c).coming with
  | none =>
    rw [report]
    exact ⟨rfl, rfl, rfl⟩
  | some plan =>
    obtain ⟨e, p, t, q, d, w, n, x, f, frame⟩ := (s.reportBeacon c b false).notSentAll_frame c plan
    dsimp only
    rw [frame, report]
    exact ⟨rfl, rfl, rfl⟩

/-- The missed beacons of a list of cells, with no report taken before: the fourth is the flip. -/
theorem State.missBeacons_flip {v : State} {b : BeaconNo} (now : v.timer.now = b) (fresh : v.flip.reported = 0) (l : List CellId)
    (nodup : l.Nodup) : let u := l.foldl (fun t c => t.beaconMissed c b) v
    u.timer = v.timer ∧ u.flip.reported = bitsOf l ∧
      (∀ g, u.groupRec g = if ∀ c : CellId, c ∈ l then ((v.groupRec g).missedIn l b).flipped b else (v.groupRec g).missedIn l b) ∧
      ((∃ c : CellId, c ∉ l) → u.cmd.attn = v.cmd.attn) := by
  induction l using List.reverseRecOn with
  | nil =>
    refine ⟨rfl, fresh, fun g => ?_, fun _ => rfl⟩
    rw [if_neg fun all => nomatch all 0]
    simp [GroupRecord.missedIn, bitsOf]
  | append_singleton l c ih =>
    intro u
    obtain ⟨nodup, _, apart⟩ := List.nodup_append.1 nodup
    have new : c ∉ l := fun isIn => apart c isIn c (List.mem_singleton_self c) rfl
    obtain ⟨timer, reported, groups, attn⟩ := ih nodup
    obtain ⟨t, isT⟩ : ∃ t, t = l.foldl (fun t c => t.beaconMissed c b) v := ⟨_, rfl⟩
    have isU : u = t.beaconMissed c b := by
      rw [isT]
      exact List.foldl_concat ..
    rw [← isT] at timer reported groups attn
    obtain ⟨flip, cmd, still⟩ := t.beaconMissed_flip c b
    have tNow : b = t.timer.now := by rw [timer, now]
    have all : t.reportsOf c b = bitsOf (l ++ [c]) := by
      rw [State.reportsOf, if_pos tNow, reported, bitsOf_append]
    have last : (b = t.timer.now ∧ t.reportsOf c b = 0xF) ↔ ∀ d : CellId, d ∈ l ++ [c] := by
      rw [all, bitsOf_eq_all]
      exact ⟨fun h => h.2, fun h => ⟨tNow, h⟩⟩
    rw [isU]
    refine ⟨still.trans timer, ?_, fun g => ?_, fun notAll => ?_⟩
    · rw [flip, State.reportBeacon_reported, all]
    · have group : (t.groupRec g).reported c b false = (v.groupRec g).missedIn (l ++ [c]) b := by
        rw [groups g, if_neg fun h => new (h c)]
        exact GroupRecord.missedIn_append l c b _
      rw [State.groupRec, flip]
      refine (t.reportBeacon_groupRec c b false g).trans ?_
      rw [group]
      exact if_congr last rfl rfl
    · obtain ⟨k, made, _⟩ := State.reportBeacon_unflipped (s := t) (b := b) c false fun h =>
        notAll.elim fun d out => out (last.1 h d)
      rw [cmd, made]
      exact attn ⟨c, new⟩

/-! ### A missed beacon ends no drain (R65, R184) -/

section
variable {s : State} {c : CellId} {b : BeaconNo}

theorem State.takeFlip_undrained (g : GroupId) (undrained : s.drainDue = false) : (s.takeFlip b g).drainDue = false := by
  rcases s.takeFlip_cases b g with ⟨due, state⟩ | ⟨groups, made⟩
  · obtain ⟨frame, noNight, _⟩ := (s.takeFlip_flips b g).1 due state
    by_cases stopping : s.stopping = true
    · have off : s.nightOn = false := by
        have isStopping : s.cmd.controller = .stopping := by simpa [State.stopping] using stopping
        simp [State.nightOn, isStopping]
      obtain ⟨lists, _, list, _⟩ := flipChangesRecords s (BitVec.ofNat 4 (g.val + 1))
      rw [frame, ← Bool.not_eq_true, State.drainDue_iff]
      rintro ⟨running, controller, cells, back, hand⟩
      refine absurd (s.drainDue_iff.2 ⟨running, controller, fun d => ⟨?_, (cells d).2⟩, ?_, ?_⟩) (by simp [undrained])
      · have empty : (s.flipRecords (BitVec.ofNat 4 (g.val + 1))).dueAt d = [] := (cells d).1
        rw [lists d] at empty
        exact List.map_eq_nil_iff.1 empty
      · have empty : (s.flipRecords (BitVec.ofNat 4 (g.val + 1))).wb.list = [] := back
        rw [list] at empty
        exact (List.append_eq_nil_iff.1 empty).1
      · rw [← noNight off]
        exact hand
    · obtain ⟨a, k, d, w, n, x, made⟩ := State.takeFlip_frame b s g
      have runs : s.stopping = false := by simpa using stopping
      rw [made]
      exact State.drainDue_of_running runs
  · rw [made]
    exact undrained

theorem State.reportBeacon_undrained (sent : Bool) (undrained : s.drainDue = false) : (s.reportBeacon c b sent).drainDue = false := by
  obtain ⟨k, _, _, _, made⟩ := s.reportBeacon_eq c b sent
  have set : (s.setFlip k).drainDue = false := undrained
  rw [made]
  have flips (l : List GroupId) (u : State) (undrained : u.drainDue = false) : (l.foldl (State.takeFlip b) u).drainDue = false := by
    induction l generalizing u with
    | nil => exact undrained
    | cons g rest ih => exact ih _ (State.takeFlip_undrained g undrained)
  split_ifs
  · exact flips allGroups _ set
  · exact set

theorem State.notSentAll_undrained (plan : Plan) (undrained : s.drainDue = false) : (s.notSentAll c plan).drainDue = false := by
  unfold State.notSentAll
  generalize List.range plan.items.length = places
  induction places generalizing s with
  | nil => exact undrained
  | cons place rest ih => exact ih (State.notSent_undrained plan.beacon place undrained)

theorem State.beaconMissed_undrained (undrained : s.drainDue = false) : (s.beaconMissed c b).drainDue = false := by
  have report := State.reportBeacon_undrained (c := c) (b := b) false undrained
  unfold State.beaconMissed
  cases (s.seqAt c).coming with
  | none => exact report
  | some plan =>
    have ended := State.notSentAll_undrained (c := c) plan report
    have still : (((s.reportBeacon c b false).notSentAll c plan).modSeq c fun q => { q with coming := none }).drainDue =
        ((s.reportBeacon c b false).notSentAll c plan).drainDue :=
      State.drainDue_congr rfl rfl rfl (State.modSeq_standing _ c rfl) rfl rfl
    exact still.trans ended

end

/-! ### The beacon event (R106, R107, R155, R172) -/

section
variable {s : State} {b : BeaconNo}

theorem State.beside_zero (s : State) (q : PerCell Sequencer) (p : PerCell RadioPort) (n : NightWriter) (r : Option Action) :
    s.beside q p n r 0 = { s with seq := q, port := p, night := n, bus := { s.bus with nightReq := r } } := by
  simp [State.beside]

/-- A night record write that falls due changes the night record write and what waits for it alone. -/
theorem State.nightDue_beside (s : State) : ∃ n r, s.nightDue false = s.beside s.seq s.port n r 0 ∧
    (s.night.current = none → r = some (.write s.settings.nightBase.toNat
      ((nightRecordWords (s.night.writeCount + 1) (nightFieldWords s)).take 8)) ∧
      n.current.map (·.snapshot.words) = some (nightRecordWords (s.night.writeCount + 1) (nightFieldWords s))) ∧
    (∀ w, s.night.current = some w → r = s.bus.nightReq ∧ n.waiting.map (·.words) = some (nightFieldWords s)) := by
  unfold State.nightDue
  cases s.night.current with
  | none => exact ⟨_, _, (s.beside_zero _ _ _ _).symm, fun _ => ⟨rfl, rfl⟩, nofun⟩
  | some w => exact ⟨_, s.bus.nightReq, (s.beside_zero _ _ _ _).symm, nofun, fun _ _ => ⟨rfl, rfl⟩⟩

theorem seqBeside_id (v : PerCell Sequencer) : seqBeside (fun _ => id) v = v := cell_ext fun d => cellAt_seqBeside _ v d

theorem State.apart_own (s : State) : s.apart (fun _ => id) s.port s.night s.bus.nightReq 0 = s := by
  unfold State.apart
  rw [seqBeside_id, State.beside_zero]

/-- What the missed beacons of a list of cells leave as it was. -/
theorem State.missBeacons_frame (l : List CellId) (s : State) : let u := l.foldl (fun t c => t.beaconMissed c b) s
    u = { s with cmd := { s.cmd with attn := u.cmd.attn }, flip := u.flip, fetch := u.fetch, bus := u.bus, store := u.store,
                 seq := u.seq, due := u.due, wb := u.wb, drained := u.drained, sweep := u.sweep, deferred := u.deferred } ∧
      u.bus.nightReq = s.bus.nightReq ∧ (s.drainDue = false → u.drainDue = false) ∧
      (∀ d, d ∉ l → u.seqAt d = s.seqAt d) ∧ (∀ d ∈ l, (u.seqAt d).coming = none) ∧
      ∀ d, (u.seqAt d).standing.isSome = (s.seqAt d).standing.isSome := by
  induction l using List.reverseRecOn with
  | nil => exact ⟨rfl, rfl, id, fun _ _ => rfl, nofun, fun _ => rfl⟩
  | append_singleton l c ih =>
    intro u
    obtain ⟨w, isW⟩ : ∃ w, w = l.foldl (fun t c => t.beaconMissed c b) s := ⟨_, rfl⟩
    have isU : u = w.beaconMissed c b := by
      rw [isW]
      exact List.foldl_concat ..
    dsimp only at ih
    rw [← isW] at ih
    obtain ⟨frame, nightReq, undrained, others, coming, standing⟩ := ih
    obtain ⟨a, k, e, p, y, q, d, x, m, z, f, made⟩ := w.beaconMissed_frame c b
    obtain ⟨apart, own, stands⟩ := w.beaconMissed_seqAt c b
    have request : (w.beaconMissed c b).bus.nightReq = w.bus.nightReq := by
      have same := w.beaconMissed_apart (o := fun _ => id) (c := c) w.port w.night w.bus.nightReq 0 (fun _ _ _ => rfl) b
      rw [State.apart_own] at same
      rw [same]
      rfl
    rw [isU]
    refine ⟨?_, request.trans nightReq, fun h => State.beaconMissed_undrained (undrained h), fun d out => ?_, fun d isIn => ?_, fun d => ?_⟩
    · rw [made, frame]
    · obtain ⟨out, other⟩ : d ∉ l ∧ d ≠ c := by simpa using out
      rw [apart d other, others d out]
    · by_cases same : d = c
      · rw [same, own]
      · rw [apart d same]
        exact coming d ((List.mem_append.1 isIn).resolve_right (by simpa using same))
    · by_cases same : d = c
      · rw [same, stands, standing]
      · rw [apart d same, standing]

end

/-- The beacon event in its parts: the missed beacons, and beside them the plans taken up, the ports and the night record write. -/
theorem State.takeBeacon_parts {s : State} (settled : s.settled = true) : ∃ u o p n r t,
    u = (allCells.filter s.missesOut).foldl (fun t c => t.beaconMissed c s.countBeacon.timer.now) s.countBeacon ∧
    s.takeBeacon = (u.apart o p n r 0).arbitrate.setPort t ∧ (∀ c, cellAt t c = (cellAt p c).goOn) ∧
    s.countBeacon.CellsTaken s.countBeacon.timer.now (s.flipNotices s.countBeacon.timer.now) allCells (fun _ => id) o
      (tableMap RadioPort.countDown s.port) p ∧
    s.countBeacon.nightDue false = s.countBeacon.beside s.seq s.port n r 0 ∧
    (s.night.current = none → r = some (.write s.settings.nightBase.toNat
      ((nightRecordWords (s.night.writeCount + 1) (nightFieldWords s.countBeacon)).take 8)) ∧
      n.current.map (·.snapshot.words) = some (nightRecordWords (s.night.writeCount + 1) (nightFieldWords s.countBeacon))) ∧
    (∀ w, s.night.current = some w → r = s.bus.nightReq ∧ n.waiting.map (·.words) = some (nightFieldWords s.countBeacon)) := by
  obtain ⟨n, r, night, begins, waits⟩ := s.countBeacon.nightDue_beside
  have started : (s.countBeacon.nightDue false).setPort (tableMap RadioPort.countDown (s.countBeacon.nightDue false).port) =
      s.countBeacon.apart (fun _ => id) (tableMap RadioPort.countDown s.port) n r 0 := by
    unfold State.apart
    rw [night, seqBeside_id]
    rfl
  have port (c : CellId) : (cellAt (tableMap RadioPort.countDown s.port) c).state = (s.countBeacon.portAt c).state := by
    rw [cellAt_tableMap]
    unfold RadioPort.countDown
    split_ifs <;> rfl
  obtain ⟨o, p, folded, taken⟩ := State.cellBeacons_apart (s := s.countBeacon) (n := n) (r := r) (b := s.countBeacon.timer.now)
    (notices := s.flipNotices s.countBeacon.timer.now) allCells (by decide)
    { cmd := rfl, settings := rfl, seqAt := fun _ _ => rfl, own := fun _ _ => rfl, port := fun c _ => port c }
  obtain ⟨u, isU⟩ : ∃ u, u = (allCells.filter s.missesOut).foldl (fun t c => t.beaconMissed c s.countBeacon.timer.now) s.countBeacon :=
    ⟨_, rfl⟩
  obtain ⟨x, isX⟩ : ∃ x, x = u.apart o p n r 0 := ⟨_, rfl⟩
  have made : s.takeBeacon = x.conclude := by
    have cells : s.takeBeacon = (allCells.foldl (State.cellBeacon s.countBeacon.timer.now (s.flipNotices s.countBeacon.timer.now))
        ((s.countBeacon.nightDue false).setPort (tableMap RadioPort.countDown (s.countBeacon.nightDue false).port))).conclude := rfl
    rw [cells, started, folded, isX, isU]
    rfl
  obtain ⟨frame, _, undrained, _⟩ := State.missBeacons_frame (b := s.countBeacon.timer.now) (allCells.filter s.missesOut) s.countBeacon
  dsimp only at frame undrained
  rw [← isU] at frame undrained
  obtain ⟨commands, drain, _⟩ := s.settled_iff.1 settled
  have xDrain : x.drainDue = false := by
    have drained : s.countBeacon.drainDue = s.drainDue := rfl
    have uDrain := undrained (drained.trans drain)
    rw [← Bool.not_eq_true] at uDrain ⊢
    refine fun isOver => uDrain ?_
    rw [isX, State.drainDue_iff] at isOver
    obtain ⟨running, controller, lists, back, hand⟩ := isOver
    refine u.drainDue_iff.2 ⟨running, controller, fun d => ⟨(lists d).1, ?_⟩, back, hand⟩
    have stands := (lists d).2
    rw [State.apart_seqAt] at stands
    by_cases misses : s.missesOut d = true
    · rw [(taken.apart d (.inr misses)).1] at stands
      exact stands
    · have sends : s.missesOut d = false := by simpa using misses
      rw [(taken.taken d (mem_allCells d) sends).1] at stands
      exact nomatch stands
  obtain ⟨t, concludes, links⟩ := State.conclude_acts (u := x)
    (by
      rw [isX, frame]
      exact commands.symm)
    xDrain
  refine ⟨u, o, p, n, r, t, isU, by rw [made, concludes, isX], fun c => ?_, taken, night, begins, waits⟩
  rw [links, isX]
  rfl

/-- The record of a group after the missed beacons, flipped or not. -/
theorem GroupRecord.afterMisses (r : GroupRecord) (b : BeaconNo) (l : List CellId) (all : Prop) [Decidable all] :
    let x := if all then (r.missedIn l b).flipped b else r.missedIn l b
    x.gap = (if (r.state = .announced ∨ r.state = .cancelling) ∧ (b - r.announce).toNat < 2 ^ 31 ∧ b ≠ r.announce ∧
        (r.flipBeacon - b).toNat < 2 ^ 31 then r.gap ||| bitsOf l else r.gap) ∧
      x.flipBeacon = r.flipBeacon ∧ x.announce = r.announce ∧ x.cancel = r.cancel ∧
      x.state = if r.flipBeacon = b ∧ all then
        (if r.state = .announced then .done else if r.state = .cancelling then .opened else r.state) else r.state := by
  have pending : r.state.pending = true ↔ r.state = .announced ∨ r.state = .cancelling := by
    cases r.state <;> simp [GroupState.pending]
  have spans : (r.state.pending && afterBeacon b r.announce && atOrAfter r.flipBeacon b) = true ↔
      (r.state = .announced ∨ r.state = .cancelling) ∧ (b - r.announce).toNat < 2 ^ 31 ∧ b ≠ r.announce ∧
        (r.flipBeacon - b).toNat < 2 ^ 31 := by
    rw [Bool.and_eq_true, Bool.and_eq_true, pending, afterBeacon_iff, atOrAfter_iff]
    tauto
  have missed : r.missedIn l b = { r with gap :=
      if (r.state = .announced ∨ r.state = .cancelling) ∧ (b - r.announce).toNat < 2 ^ 31 ∧ b ≠ r.announce ∧
        (r.flipBeacon - b).toNat < 2 ^ 31 then r.gap ||| bitsOf l else r.gap } := by
    unfold GroupRecord.missedIn
    by_cases h : (r.state.pending && afterBeacon b r.announce && atOrAfter r.flipBeacon b) = true
    · rw [if_pos h, if_pos (spans.1 h)]
    · rw [if_neg h, if_neg fun k => h (spans.2 k)]
  have flips (x : GroupRecord) : x.flipped b = { x with state := if x.flipBeacon = b then
      (if x.state = .announced then .done else if x.state = .cancelling then .opened else x.state) else x.state } := by
    obtain ⟨state, flipBeacon, announce, cancel, gap⟩ := x
    by_cases due : flipBeacon = b
    · cases state <;> simp [GroupRecord.flipped, due]
    · simp [GroupRecord.flipped, due]
  intro x
  by_cases h : all
  · have made : x = (r.missedIn l b).flipped b := if_pos h
    rw [made, flips, missed]
    exact ⟨rfl, rfl, rfl, rfl, if_congr (and_iff_left h).symm rfl rfl⟩
  · have made : x = r.missedIn l b := if_neg h
    rw [made, missed]
    exact ⟨rfl, rfl, rfl, rfl, (if_neg fun k => h k.2).symm⟩

/-! ### The bytes of a beacon (R108) -/

theorem filterBytes_eq (f : Filter) : filterBytes f = airBytes (f.value.setWidth 32) ++ airBytes (f.mask.setWidth 32) := by
  have wide (v : BitVec 28) : v.toNat = (v.setWidth 32).toNat := by
    rw [BitVec.toNat_setWidth]
    omega
  rw [filterBytes, wide f.value, wide f.mask, littleEndian_word, littleEndian_word]

theorem noticeBytes_eq (n : FlipNotice) :
    noticeBytes n = [BitVec.ofNat 8 (n.group.val + 1), if n.cancel then 1 else 0] ++ airBytes n.beacon := by
  have kind : BitVec.ofNat 8 (flagBit n.cancel) = if n.cancel then 1 else 0 := by cases n.cancel <;> rfl
  rw [noticeBytes, littleEndian_byte, littleEndian_byte, littleEndian_word, kind]
  rfl

theorem beaconFrame_eq (t : Settings) (c : CellId) (b : BeaconNo) (paused : Bool) (plan : Plan) (notices : List FlipNotice) :
    let window := decide (plan.items ≠ [])
    let flags : Byte := 0#6 ++ BitVec.ofBool window ++ BitVec.ofBool paused
    beaconFrame t c b paused plan notices = withCrc (
      [0x01, t.network.extractLsb' 0 8, t.network.extractLsb' 8 8, BitVec.ofNat 8 c.val] ++ airBytes b ++
      [flags, BitVec.ofNat 8 (if window then t.window / 10 else 0), BitVec.ofNat 8 (cellAt t.cells c).rate.code,
        BitVec.ofNat 8 plan.filters.length, BitVec.ofNat 8 notices.length] ++
      (plan.filters.flatMap fun f => airBytes (f.value.setWidth 32) ++ airBytes (f.mask.setWidth 32)) ++
      notices.flatMap fun n =>
        [BitVec.ofNat 8 (n.group.val + 1), if n.cancel then 1 else 0] ++ airBytes n.beacon) := by
  intro window flags
  have has : plan.hasWindow = window := by
    unfold Plan.hasWindow
    cases h : plan.items <;> simp [window, h]
  have byte : BitVec.ofNat 8 (flagBit paused + 2 * flagBit window) = flags := by
    cases hp : paused <;> cases hw : window <;> simp [flags, hp, hw] <;> rfl
  have filters : plan.filters.flatMap filterBytes =
      plan.filters.flatMap fun f => airBytes (f.value.setWidth 32) ++ airBytes (f.mask.setWidth 32) :=
    congrArg (plan.filters.flatMap ·) (funext filterBytes_eq)
  have told : notices.flatMap noticeBytes =
      notices.flatMap fun n => [BitVec.ofNat 8 (n.group.val + 1), if n.cancel then 1 else 0] ++ airBytes n.beacon :=
    congrArg (notices.flatMap ·) (funext noticeBytes_eq)
  rw [beaconFrame, sealFrame_eq, has, littleEndian_half, littleEndian_word, filters, told]
  simp only [littleEndian_byte, byte, List.append_assoc, List.cons_append, List.nil_append]
  rfl

/-- Settles O25: the cells that miss the beacon act as if alone, and the rest of the event stands beside them. -/
theorem beaconEvent : Obligations.BeaconEvent := by
  unfold Obligations.BeaconEvent
  refine ⟨fun s e settled due schedule => ?event, fun t c b paused plan notices => ?bytes⟩
  case event =>
    intro b misses record spans
    have exec_ : exec .beaconEvent s = .next s.takeBeacon := congrArg Host.Outcome.next (if_pos due)
    rw [exec_]
    obtain ⟨u, o, p, n, r, ports, isU, made, links, cells, night, begins, waits⟩ := State.takeBeacon_parts settled
    have timer : s.countBeacon.timer =
        ⟨b, some ⟨e.nextBeacon + s.settings.period, some (e.nextBeacon + s.settings.period - s.settings.lead)⟩⟩ := by
      unfold State.countBeacon
      rw [schedule]
      rfl
    have now : s.countBeacon.timer.now = b := rfl
    rw [now] at isU cells
    obtain ⟨frame, nightReq, _, others, coming, standing⟩ := State.missBeacons_frame (b := b) (allCells.filter s.missesOut) s.countBeacon
    obtain ⟨_, reported, groups, attn⟩ := State.missBeacons_flip (v := s.countBeacon) (b := b) rfl rfl (allCells.filter s.missesOut)
      (List.Nodup.filter _ (by decide))
    have isMissing (c : CellId) : c ∈ allCells.filter s.missesOut ↔ misses c = true := by
      rw [List.mem_filter]
      exact and_iff_right (mem_allCells c)
    dsimp only at frame nightReq others coming standing reported groups attn
    rw [← isU] at frame nightReq others coming standing reported groups attn
    obtain ⟨x, isX⟩ : ∃ x, x = u.apart o p n r 0 := ⟨_, rfl⟩
    obtain ⟨t, isT⟩ : ∃ t, t = s.takeBeacon := ⟨_, rfl⟩
    rw [← isX] at made
    rw [← isT] at made ⊢
    obtain ⟨chosen, arbitrated⟩ := x.arbitrate_frame
    have tFrame : t = { u with seq := seqBeside o u.seq, port := ports, night := n, bus := t.bus } := by
      have bus : t.bus = chosen := by
        rw [made, arbitrated]
        rfl
      rw [bus, made, arbitrated, isX, State.apart, State.beside_zero]
      rfl
    have seqAt (c : CellId) : t.seqAt c = o c (u.seqAt c) := by
      rw [tFrame]
      exact cellAt_seqBeside o u.seq c
    have portAt (c : CellId) : t.portAt c = (cellAt p c).goOn := by
      rw [tFrame]
      exact links c
    have missed (c : CellId) (h : misses c = true) : t.seqAt c = u.seqAt c ∧
        cellAt p c = RadioPort.countDown (s.portAt c) := by
      obtain ⟨none_, port⟩ := cells.apart c (.inr h)
      rw [seqAt, none_, port, cellAt_tableMap]
      exact ⟨rfl, rfl⟩
    refine ⟨t, u, rfl, ?frame, ?misses, ?rest, fun c h => (missed c h).1, ?bus, ?timer, ?due, ?begins, ?waits, ?reported, ?groups, ?attn,
      fun c => ?cell⟩
    case frame =>
      rw [tFrame, frame]
      rfl
    case misses =>
      have start : ({ s with timer := t.timer, flip := { s.flip with reported := 0 } } : State) = s.countBeacon := by
        rw [tFrame, frame]
        rfl
      rw [start, isU]
      exact State.missBeacons_fold b _ s.countBeacon
    case rest =>
      rw [tFrame]
    case bus =>
      have chooses : (x.bus.bus = .idle → x.bus.current = none → x.bus.chooses t.bus x.settings.parity) ∧
          (x.bus.bus ≠ .idle ∨ x.bus.current ≠ none → t.bus = x.bus) := by
        have bus : t.bus = x.arbitrate.bus := by
          rw [made]
          rfl
        rw [bus]
        refine ⟨fun idle noCurrent => (State.arbitrate_chooses idle noCurrent).2, fun busy => ?_⟩
        have still : x.arbitrate = x := if_neg fun h => busy.elim (fun b => b h.1) fun k => k (by simpa using h.2)
        rw [still]
      have settings : x.settings.parity = s.settings.parity := by
        rw [isX, frame]
        rfl
      have uNight : u.bus.nightReq = s.bus.nightReq := nightReq
      have xBus : x.bus = if s.night.current = none then
          { u.bus with nightReq := some (.write s.settings.nightBase.toNat (record.take 8)) } else u.bus := by
        have own : x.bus = { u.bus with nightReq := r } := by
          rw [isX]
          rfl
        rw [own]
        split_ifs with none_
        · rw [(begins none_).1]
        · obtain ⟨w, isW⟩ := Option.ne_none_iff_exists'.1 none_
          rw [(waits w isW).1, ← uNight]
      rw [settings, xBus] at chooses
      exact chooses
    case timer =>
      rw [tFrame, frame]
      exact timer
    case due =>
      have fallen := s.countBeacon.nightDue_recordDue false
      rw [night, State.beside_zero] at fallen
      refine (State.recordDue_congr rfl ?_).1 fallen
      rw [tFrame]
    case begins =>
      intro none_
      rw [tFrame]
      exact (begins none_).2
    case waits =>
      intro w isW
      rw [tFrame]
      exact (waits w isW).2
    case reported =>
      intro c
      rw [tFrame, reported, bitsOf_getLsbD]
      rw [Bool.eq_iff_iff, decide_eq_true_eq]
      exact isMissing c
    case groups =>
      intro g r
      have group : t.groupRec g = if ∀ c : CellId, misses c = true then (r.missedIn (allCells.filter s.missesOut) b).flipped b
          else r.missedIn (allCells.filter s.missesOut) b := by
        rw [tFrame]
        refine (groups g).trans ?_
        exact if_congr (forall_congr' isMissing) rfl rfl
      obtain ⟨gap, flipBeacon, announce, cancel, state⟩ := r.afterMisses b (allCells.filter s.missesOut) (∀ c : CellId, misses c = true)
      rw [group, gap, flipBeacon, announce, cancel, state]
      refine ⟨fun c inSpan => ?_, fun outside => if_neg outside, rfl, rfl, rfl, rfl⟩
      rw [if_pos inSpan, BitVec.getLsbD_or, bitsOf_getLsbD]
      congr 1
      rw [Bool.eq_iff_iff, decide_eq_true_eq]
      exact isMissing c
    case attn =>
      rintro ⟨c, sends⟩
      rw [tFrame]
      exact attn ⟨c, fun h => by simp [(isMissing c).1 h] at sends⟩
    case cell =>
      have port : ∃ d, cellAt p c = { (s.portAt c).countDown with due := d } := by
        by_cases h : misses c = true
        · exact ⟨(s.portAt c).countDown.due, (missed c h).2⟩
        · have sends : misses c = false := by simpa using h
          obtain ⟨_, port⟩ := cells.taken c (mem_allCells c) sends
          rw [cellAt_tableMap] at port
          exact ⟨_, port⟩
      obtain ⟨d, port⟩ := port
      obtain ⟨_, _, _, _, _, _, went⟩ := (cellAt p c).goOn_frame
      have kept : (t.portAt c).state = (s.portAt c).countDown.state ∧ (t.portAt c).countdown = (s.portAt c).countDown.countdown := by
        rw [portAt, went, port]
        exact ⟨rfl, rfl⟩
      have taken (sends : misses c = false) := cells.taken c (mem_allCells c) sends
      have up (sends : misses c = false) : t.seqAt c = (s.seqAt c).takeUp (s.countBeacon.planUp b c) := by
        rw [seqAt, (taken sends).1]
        rfl
      have none_ (h : misses c = true) : (t.seqAt c).coming = none ∧ (t.seqAt c).standing = none := by
        rw [(missed c h).1]
        have ended : (s.seqAt c).standing.isNone = true := by
          simp only [State.beaconDue, Bool.and_eq_true, List.all_eq_true] at due
          exact due.2 c (mem_allCells c)
        have still : (u.seqAt c).standing.isSome = (s.seqAt c).standing.isSome := standing c
        refine ⟨coming c ((isMissing c).2 h), ?_⟩
        rw [← Option.isNone_iff_eq_none, ← Option.not_isSome, still, Option.not_isSome, ended]
      refine ⟨?_, ?_, fun quiet => ?_, fun other => ?_, fun sends => ⟨up sends, ?_⟩, fun h => (none_ h).2⟩
      · by_cases h : misses c = true
        · exact (none_ h).1
        · rw [up (by simpa using h)]
          rfl
      · rw [kept.1]
        unfold RadioPort.countDown
        split_ifs <;> rfl
      · rw [kept.2, RadioPort.countDown, if_pos quiet]
      · rw [kept.2, RadioPort.countDown, if_neg other]
      · rw [portAt, (taken sends).2]
        exact RadioPort.goOn_issued _ _ _ (.inr (List.mem_append_right _ (List.mem_singleton_self _)))
  case bytes => exact beaconFrame_eq t c b paused plan notices

end Sys2Proof.Machine
end

section
/-! PROOFS. A plan whose items all end as NOT_SENT: its items, their buffers, fetches and records (R52, R60, R86, R100, R101). -/

namespace Sys2Proof.Machine

section
variable {s : State} {c : CellId} {b : BeaconNo}

/-- The items of cell c at the places of a list end as NOT_SENT, in that order. -/
def State.notSents (c : CellId) (b : BeaconNo) (l : List Nat) (s : State) : State := l.foldl (fun t place => t.notSent c b place) s

theorem State.notSentAll_eq (s : State) (c : CellId) (plan : Plan) :
    s.notSentAll c plan = s.notSents c plan.beacon (List.range plan.items.length) := rfl

theorem State.itemAt_of_standing {plan : Plan} (standing : (s.seqAt c).standing = some plan) (own : plan.beacon = b) (place : Nat) :
    s.itemAt c b place = plan.items[place]? := by
  simp [State.itemAt, Sequencer.planOf, standing, own]

/-! ### The items -/

/-- An item after its plan has ended. -/
def PlanItem.unsent (i : PlanItem) : PlanItem := if i.live = true then { i with status := .dropped } else i

theorem PlanItem.unsent_live (i : PlanItem) : i.unsent.live = false := by
  unfold PlanItem.unsent
  split_ifs with live
  · rfl
  · simpa using live

theorem PlanItem.unsent_unsent (i : PlanItem) : i.unsent.unsent = i.unsent := if_neg (by simp [i.unsent_live])

theorem State.itemResult_itemAt (s : State) (index : Nat) (res : ItemResult) (place : Nat) :
    (s.itemResult c index b res).itemAt c b place = s.itemAt c b place := by
  unfold State.itemResult
  split
  · rfl
  · split_ifs
    · obtain ⟨d, w, n, x, f, frame⟩ := s.settleResult_frame c _
      rw [frame]
      rfl
    · rfl

theorem State.dropItem_itemAt_other {place other : Nat} (apart : other ≠ place) :
    (s.dropItem c b place).itemAt c b other = s.itemAt c b other := by
  unfold State.dropItem
  cases s.itemAt c b place with
  | none => rfl
  | some i =>
    obtain ⟨e, p, frame⟩ := s.abandonFetch_frame c b place
    dsimp only
    rw [State.modItem_itemAt_other _ c b _ apart, frame]
    rfl

theorem State.notSent_itemAt (s : State) (c : CellId) (b : BeaconNo) (place other : Nat) : (s.notSent c b place).itemAt c b other =
    if other = place then (s.itemAt c b place).map PlanItem.unsent else s.itemAt c b other := by
  cases item : s.itemAt c b place with
  | none =>
    have same : s.notSent c b place = s := by simp only [State.notSent, item]
    rw [same]
    split_ifs with h
    · rw [h, item]
      rfl
    · rfl
  | some i =>
    by_cases live : i.live = true
    · have made : s.notSent c b place = (s.dropItem c b place).itemResult c i.index b .notSent := by
        simp only [State.notSent, item, live, if_true]
      rw [made, State.itemResult_itemAt]
      split_ifs with h
      · rw [h, s.dropItem_itemAt item, Option.map_some, PlanItem.unsent, if_pos live]
      · exact State.dropItem_itemAt_other h
    · have same : s.notSent c b place = s := by simp only [State.notSent, item, if_neg live]
      rw [same]
      split_ifs with h
      · rw [h, item, Option.map_some, PlanItem.unsent, if_neg live]
      · rfl

theorem State.notSents_itemAt (l : List Nat) (s : State) (place : Nat) : (s.notSents c b l).itemAt c b place =
    if place ∈ l then (s.itemAt c b place).map PlanItem.unsent else s.itemAt c b place := by
  induction l generalizing s with
  | nil => rfl
  | cons first rest ih =>
    have step : s.notSents c b (first :: rest) = (s.notSent c b first).notSents c b rest := rfl
    rw [step, ih, State.notSent_itemAt]
    by_cases own : place = first
    · rw [if_pos own, own, if_pos (List.mem_cons_self ..), Option.map_map]
      split_ifs
      · exact congrArg (fun f => (s.itemAt c b first).map f) (funext PlanItem.unsent_unsent)
      · rfl
    · rw [if_neg own]
      simp [own]

/-- No item of the plan lives once all have ended. -/
theorem State.notSentAll_dead {plan : Plan} (standing : (s.seqAt c).standing = some plan) (own : plan.beacon = b) {place : Nat}
    {i : PlanItem} (item : (s.notSentAll c plan).itemAt c b place = some i) : i.live = false := by
  rw [State.notSentAll_eq, own, State.notSents_itemAt, State.itemAt_of_standing standing own] at item
  split_ifs at item with inPlan
  · obtain ⟨j, _, made⟩ := Option.map_eq_some_iff.1 item
    rw [← made]
    exact j.unsent_live
  · rw [List.mem_range, Nat.not_lt] at inPlan
    rw [List.getElem?_eq_none inPlan] at item
    exact nomatch item

/-! ### Their buffers and fetches (R100, R101) -/

/-- An item of the plan has no buffer and no fetch any more. -/
def State.releasedItem (s : State) (c : CellId) (b : BeaconNo) (place : Nat) (i : PlanItem) : Prop :=
  (∀ x ∈ s.storeAt c, x.number ∉ i.buffers) ∧ ∀ x ∈ s.fetch.list, ¬(x.cell = c ∧ x.beacon = b ∧ x.place = place)

/-- The end of an item claims no buffer and fetches nothing. -/
theorem State.notSent_shrinks (s : State) (c : CellId) (b : BeaconNo) (place : Nat) :
    (∀ x ∈ (s.notSent c b place).storeAt c, x ∈ s.storeAt c) ∧ (∀ x ∈ (s.notSent c b place).fetch.list, x ∈ s.fetch.list) ∧
      ∀ i, s.itemAt c b place = some i → i.live = true → (s.notSent c b place).releasedItem c b place i := by
  cases item : s.itemAt c b place with
  | none =>
    have same : s.notSent c b place = s := by simp only [State.notSent, item]
    rw [same]
    exact ⟨fun _ => id, fun _ => id, nofun⟩
  | some i =>
    by_cases live : i.live = true
    · obtain ⟨dropped, _, _⟩ := s.dropItem_drops c b place i item
      obtain ⟨u, isU⟩ : ∃ u, u = s.dropItem c b place := ⟨_, rfl⟩
      have made : s.notSent c b place = u.itemResult c i.index b .notSent := by
        rw [isU]
        simp only [State.notSent, item, live, if_true]
      obtain ⟨d, w, n, x, f, frame⟩ := u.itemResult_frame c i.index b .notSent
      have store : (s.notSent c b place).storeAt c = (s.storeAt c).filter fun x => !i.buffers.contains x.number := by
        rw [made, frame]
        change u.storeAt c = _
        rw [isU, dropped]
        exact cellAt_cellPut_same _ _ _
      have list : (s.notSent c b place).fetch.list =
          s.fetch.list.filter fun x => !decide (x.cell = c ∧ x.beacon = b ∧ x.place = place) := by
        rw [made, frame]
        change u.fetch.list = _
        rw [isU, dropped]
      unfold State.releasedItem
      rw [store, list]
      refine ⟨fun x isIn => (List.mem_filter.1 isIn).1, fun x isIn => (List.mem_filter.1 isIn).1, fun j isJ _ => ?_⟩
      obtain rfl : i = j := Option.some.inj isJ
      refine ⟨fun x isIn => ?_, fun x isIn => ?_⟩
      · simpa using (List.mem_filter.1 isIn).2
      · have apart := (List.mem_filter.1 isIn).2
        exact of_decide_eq_false (Bool.not_eq_true' _ ▸ apart)
    · have same : s.notSent c b place = s := by simp only [State.notSent, item, if_neg live]
      rw [same]
      refine ⟨fun _ => id, fun _ => id, fun j isJ isLive => ?_⟩
      obtain rfl : i = j := Option.some.inj isJ
      exact absurd isLive live

theorem State.notSents_released (l : List Nat) (s : State) {place : Nat} {i : PlanItem}
    (ends : s.releasedItem c b place i ∨ (place ∈ l ∧ s.itemAt c b place = some i ∧ i.live = true)) :
    (s.notSents c b l).releasedItem c b place i := by
  induction l generalizing s with
  | nil => exact ends.resolve_right fun h => nomatch h.1
  | cons first rest ih =>
    obtain ⟨store, list, released⟩ := s.notSent_shrinks c b first
    refine ih (s.notSent c b first) ?_
    rcases ends with ⟨buffers, fetches⟩ | ⟨isIn, item, live⟩
    · exact .inl ⟨fun x h => buffers x (store x h), fun x h => fetches x (list x h)⟩
    · by_cases own : place = first
      · rw [own] at item ⊢
        exact .inl (released i item live)
      · refine .inr ⟨(List.mem_cons.1 isIn).resolve_left own, ?_, live⟩
        rw [State.notSent_itemAt, if_neg own, item]

theorem State.notSentAll_released {plan : Plan} (standing : (s.seqAt c).standing = some plan) (own : plan.beacon = b) {place : Nat}
    {i : PlanItem} (item : plan.items[place]? = some i) (live : i.live = true) : (s.notSentAll c plan).releasedItem c b place i := by
  obtain ⟨inPlan, _⟩ := List.getElem?_eq_some_iff.1 item
  rw [State.notSentAll_eq, own]
  exact State.notSents_released _ s (.inr ⟨List.mem_range.2 inPlan, (State.itemAt_of_standing standing own place).trans item, live⟩)

/-! ### Their records (R52, R55, R60) -/

/-- No record of cell c has been read again by a refresh. -/
def State.unread (s : State) (c : CellId) : Prop := ∀ x ∈ s.dueAt c, x.refreshPending = false

theorem DueRecord.afterResult_notSent_kept (t : Settings) (done : Bool) (b : BeaconNo) (r : DueRecord) :
    (r.afterResult t done b .notSent).index = r.index ∧ (r.afterResult t done b .notSent).refreshPending = r.refreshPending := by
  have judged : r.judged t done b .notSent = (r.threshold t .notSent).applyLate t.policy := rfl
  have plain : r.threshold t .notSent = r := DueRecord.threshold_of_not (by simp [ItemResult.charged])
  have kept : (r.judged t done b .notSent).index = r.index ∧ (r.judged t done b .notSent).refreshPending = r.refreshPending := by
    rw [judged, plain]
    rcases r.applyLate_cases t.policy with e | e | e | e | e
    all_goals
      rw [e]
      exact ⟨rfl, rfl⟩
  rw [DueRecord.afterResult_eq_judged]
  split_ifs
  · exact kept
  · exact kept

/-- A result with no refresh pending changes the record of its index alone. -/
theorem State.settleResult_list {q : DueRecord} (unread : q.refreshPending = false) : ∃ q' : DueRecord,
    (s.settleResult c q).dueAt c = (s.dueAt c).map (fun r => if r.index = q.index then q' else r) ∧ q'.refreshPending = false ∧
      q'.index = q.index := by
  obtain ⟨stops, retires, works⟩ := s.settleResult_settles c q
  by_cases stopping : s.stopping = true
  · rw [stops stopping]
    exact ⟨_, cellAt_cellPut_same _ _ _, rfl, rfl⟩
  · have running : s.stopping = false := by simpa using stopping
    cases outcome : q.outcome with
    | some o =>
      rw [retires running o outcome]
      exact ⟨_, cellAt_cellPut_same _ _ _, rfl, rfl⟩
    | none =>
      rw [(works running outcome).1 unread]
      exact ⟨_, cellAt_cellPut_same _ _ _, rfl, rfl⟩

/-- The record of a planned item that has ended as NOT_SENT. -/
def DueRecord.unsent (stopping : Bool) (b : BeaconNo) (r : DueRecord) : DueRecord :=
  let eligible := b + BitVec.ofNat 32 (2 ^ r.k.toNat)
  if stopping = true then { r with state := .retiring, outcome := some .deferred, eligible := eligible }
  else { r with state := .waiting, eligible := eligible }

theorem DueRecord.unsent_settled (stopping : Bool) (r : DueRecord) :
    (r.unsent stopping b).state ≠ .planned ∧ (r.unsent stopping b).state ≠ .inAir := by
  unfold DueRecord.unsent
  split_ifs <;> exact ⟨nofun, nofun⟩

/-- The end of an item with no refresh pending touches its own record alone, and that only while it is PLANNED or IN_AIR. -/
theorem State.itemResult_records (unread : s.unread c) (index : Nat) : let t := s.itemResult c index b .notSent
    t.unread c ∧ (∀ j, j ≠ index → t.recordIn c j = s.recordIn c j) ∧
      (∀ r, s.recordIn c index = some r → r.state ≠ .planned ∧ r.state ≠ .inAir → t.recordIn c index = some r) ∧
      (∀ r, s.recordIn c index = some r → r.state = .planned → r.outcome = none → r.lateAtFlip = false →
        t.recordIn c index = some (r.unsent s.stopping b)) := by
  intro t
  cases found : s.recordIn c index with
  | none =>
    have same : t = s := by simp only [t, State.itemResult, found]
    rw [same]
    exact ⟨unread, fun _ _ => rfl, (fun _ h => nomatch h), (fun _ h => nomatch h)⟩
  | some x =>
    have isIndex := State.index_of_recordIn found
    have fresh : x.refreshPending = false := unread x (List.mem_of_find?_eq_some found)
    by_cases active : x.state = .planned ∨ x.state = .inAir
    · obtain ⟨after, isAfter⟩ : ∃ after, after = x.afterResult s.settings (s.groupDone x.group) b .notSent := ⟨_, rfl⟩
      have made : t = s.settleResult c after := by
        rw [isAfter]
        simp only [t, State.itemResult, found, if_pos active]
      obtain ⟨kept, still⟩ := x.afterResult_notSent_kept s.settings (s.groupDone x.group) b
      rw [← isAfter, isIndex] at kept
      rw [← isAfter, fresh] at still
      obtain ⟨q, list, noRefresh, qIndex⟩ := State.settleResult_list (s := s) (c := c) still
      rw [← made, kept] at list
      rw [kept] at qIndex
      refine ⟨fun y isIn => ?_, fun j other => ?_, fun r isR settled => ?_, fun r isR planned works noFlag => ?_⟩
      · rw [list] at isIn
        obtain ⟨z, inList, rfl⟩ := List.mem_map.1 isIn
        split_ifs
        · exact noRefresh
        · exact unread z inList
      · rw [State.recordIn, list, List.find?_map]
        have same : ((fun r : DueRecord => r.index == j) ∘ fun r => if r.index = index then q else r) = fun r => r.index == j := by
          funext r
          by_cases own : r.index = index
          · simp [own, qIndex]
          · simp [own]
        rw [same]
        cases isJ : (s.dueAt c).find? fun r => r.index == j with
        | none => exact isJ.symm
        | some y =>
          have yIndex : y.index = j := State.index_of_recordIn isJ
          rw [Option.map_some, if_neg (by rw [yIndex]; exact other)]
          exact isJ.symm
      · obtain rfl := Option.some.inj isR
        exact absurd active (not_or.2 settled)
      · obtain rfl := Option.some.inj isR
        have value := isAfter.trans (DueRecord.afterResult_notSent s.settings (s.groupDone x.group) b works noFlag)
        have record : s.recordIn c after.index = some x := by rw [kept, found]
        obtain ⟨waits, retires⟩ := State.settleResult_works s record (by rw [value]; exact works) still
        rw [← made, kept] at waits retires
        unfold DueRecord.unsent
        by_cases stopping : s.stopping = true
        · rw [if_pos stopping, (retires stopping).2, value]
          simp [DueRecord.retire, noFlag]
        · rw [if_neg stopping, waits (by simpa using stopping), value, ← isIndex]
    · have same : t = s := by simp only [t, State.itemResult, found, if_neg active]
      rw [same]
      refine ⟨unread, fun _ _ => rfl, fun r isR _ => found.trans isR, fun r isR planned => ?_⟩
      obtain rfl := Option.some.inj isR
      exact absurd (.inl planned) active

theorem State.notSent_records (unread : s.unread c) (place : Nat) : let t := s.notSent c b place
    t.unread c ∧ t.stopping = s.stopping ∧ ∀ index r, s.recordIn c index = some r →
      (r.state ≠ .planned ∧ r.state ≠ .inAir → t.recordIn c index = some r) ∧
      (r.state = .planned → r.outcome = none → r.lateAtFlip = false →
        t.recordIn c index = if ((s.itemAt c b place).any fun i => i.live && i.index == index) = true
          then some (r.unsent s.stopping b) else some r) := by
  intro t
  cases item : s.itemAt c b place with
  | none =>
    have same : t = s := by simp only [t, State.notSent, item]
    rw [same]
    exact ⟨unread, rfl, fun index r isR => ⟨fun _ => isR, fun _ _ _ => isR⟩⟩
  | some i =>
    by_cases live : i.live = true
    · obtain ⟨d, isD⟩ : ∃ d, d = s.dropItem c b place := ⟨_, rfl⟩
      obtain ⟨e, p, m, q, frame⟩ := s.dropItem_frame c b place
      rw [← isD] at frame
      have made : t = d.itemResult c i.index b .notSent := by
        rw [isD]
        simp only [t, State.notSent, item, live, if_true]
      have due (j : Nat) : d.recordIn c j = s.recordIn c j := by rw [frame]; rfl
      have stopping : d.stopping = s.stopping := by rw [frame]; rfl
      have stillUnread : d.unread c := by rw [frame]; exact unread
      obtain ⟨kept, others, settled, ends⟩ := State.itemResult_records (b := b) stillUnread i.index
      rw [← made] at kept others settled ends
      obtain ⟨d', w, n, x, f, result⟩ := d.itemResult_frame c i.index b .notSent
      refine ⟨kept, by rw [made, result]; exact stopping, fun index r isR => ?_⟩
      by_cases own : index = i.index
      · rw [own] at isR ⊢
        refine ⟨settled r ((due _).trans isR), fun planned works noFlag => ?_⟩
        rw [ends r ((due _).trans isR) planned works noFlag, if_pos (by simp [live]), stopping]
      · rw [others index own, due, isR]
        exact ⟨fun _ => rfl, fun _ _ _ => (if_neg (by simp [Ne.symm own])).symm⟩
    · have same : t = s := by simp only [t, State.notSent, item, if_neg live]
      rw [same]
      exact ⟨unread, rfl, fun index r isR => ⟨fun _ => isR, fun _ _ _ => isR.trans (if_neg (by simp [live])).symm⟩⟩

/-- What the ends of the items of a list leave of a planned record: one of them, at least, is its own. -/
theorem State.notSents_record (l : List Nat) (s : State) (unread : s.unread c) {index : Nat} {r : DueRecord}
    (ends : s.recordIn c index = some (r.unsent s.stopping b) ∨ (s.recordIn c index = some r ∧ r.state = .planned ∧ r.outcome = none ∧
      r.lateAtFlip = false ∧ ∃ place ∈ l, ∃ i, s.itemAt c b place = some i ∧ i.live = true ∧ i.index = index)) :
    (s.notSents c b l).recordIn c index = some (r.unsent s.stopping b) := by
  induction l generalizing s with
  | nil =>
    rcases ends with done | ⟨_, _, _, _, place, isIn, _⟩
    · exact done
    · exact nomatch isIn
  | cons first rest ih =>
    obtain ⟨kept, stopping, records⟩ := State.notSent_records (b := b) unread first
    have goal := ih (s.notSent c b first) kept
    rw [stopping] at goal
    refine goal ?_
    rcases ends with done | ⟨found, planned, works, noFlag, place, isIn, i, item, live, own⟩
    · exact .inl ((records index _ done).1 (r.unsent_settled s.stopping))
    · have result := (records index r found).2 planned works noFlag
      by_cases hit : ((s.itemAt c b first).any fun i => i.live && i.index == index) = true
      · exact .inl (result.trans (if_pos hit))
      · have other : place ≠ first := by
          rintro rfl
          simp [item, live, own] at hit
        refine .inr ⟨result.trans (if_neg hit), planned, works, noFlag, place, (List.mem_cons.1 isIn).resolve_left other, i, ?_, live, own⟩
        rw [State.notSent_itemAt, if_neg other, item]

theorem State.notSentAll_record {plan : Plan} (standing : (s.seqAt c).standing = some plan) (own : plan.beacon = b) (unread : s.unread c)
    {i : PlanItem} (isIn : i ∈ plan.items) (live : i.live = true) {r : DueRecord} (found : s.recordIn c i.index = some r)
    (planned : r.state = .planned) (works : r.outcome = none) (noFlag : r.lateAtFlip = false) :
    (s.notSentAll c plan).recordIn c i.index = some (r.unsent s.stopping b) := by
  obtain ⟨place, inPlan, item⟩ := List.getElem_of_mem isIn
  rw [State.notSentAll_eq, own]
  refine State.notSents_record _ s unread (.inr ⟨found, planned, works, noFlag, place, List.mem_range.2 inPlan, i, ?_, live, rfl⟩)
  rw [State.itemAt_of_standing standing own, List.getElem?_eq_getElem inPlan, item]

end

end Sys2Proof.Machine
end

section
/-! PROOFS. Answers and link faults of the commands of windows and beacons (R109, R125, R146 to R149, R154, R155). -/

namespace Sys2Proof.Machine

/-! ### The port at a link fault (R148, R149, R155) -/

/-- The port of a cell whose command has ended in a link fault, before the block is told. -/
def RadioPort.atFault (k : LinkCommand) (purpose : Purpose) (p : RadioPort) : RadioPort :=
  { (p.dropFaulted purpose).faulted k with exchange := none }

theorem RadioPort.atFault_eq (k : LinkCommand) (purpose : Purpose) (p : RadioPort) : p.atFault k purpose = { p with
    holding := none, behind := [], due := p.due.filter fun d => !d.endsWith purpose, exchange := none,
    runCount := if k.moves = true ∧ p.state = .active then p.runCount + 1 else p.runCount } := by
  unfold RadioPort.atFault RadioPort.faulted RadioPort.dropFaulted
  split_ifs <;> rfl

/-- The port of a cell that goes OFF, QUIET, or neither. -/
def RadioPort.leftBy (off quiet : Prop) [Decidable off] [Decidable quiet] (p : RadioPort) : RadioPort :=
  if off then p.leave .off else if quiet then { p.leave .quiet with restartCount := 0, countdown := 16 } else p

section
variable {off quiet : Prop} [Decidable off] [Decidable quiet]

theorem RadioPort.atFault_notHeld (k : LinkCommand) (purpose : Purpose) (p : RadioPort) : Due.held ∉ (p.atFault k purpose).due := by
  rw [RadioPort.atFault_eq]
  exact fun isIn => absurd (List.mem_filter.1 isIn).2 (by simp [Due.endsWith])

/-- What a link fault leaves of the holding buffer and of the frames behind it. -/
theorem RadioPort.faulted_held (k : LinkCommand) (purpose : Purpose) (p : RadioPort) :
    let q := ((p.atFault k purpose).leftBy off quiet).goOn
    q.holding = none ∧ q.behind = [] := by
  intro q
  have left : Due.held ∉ ((p.atFault k purpose).leftBy off quiet).due ∧ ((p.atFault k purpose).leftBy off quiet).holding = none ∧
      ((p.atFault k purpose).leftBy off quiet).behind = [] := by
    unfold RadioPort.leftBy
    split_ifs
    · exact ⟨(p.atFault k purpose).leave_held .off, by rw [RadioPort.leave_eq], by rw [RadioPort.leave_eq]⟩
    · exact ⟨(p.atFault k purpose).leave_held .quiet, by rw [RadioPort.leave_eq], by rw [RadioPort.leave_eq]⟩
    · exact ⟨p.atFault_notHeld k purpose, by rw [RadioPort.atFault_eq], by rw [RadioPort.atFault_eq]⟩
  obtain ⟨noHeld, holding, behind⟩ := left
  obtain ⟨sameHolding, sameBehind⟩ := RadioPort.goOn_held _ noHeld
  exact ⟨sameHolding.trans holding, sameBehind.trans behind⟩

/-- A cell that goes OFF or QUIET. -/
theorem RadioPort.leftBy_goOn (p : RadioPort) : let q := (p.leftBy off quiet).goOn
    (off → q.state = .off) ∧ (quiet → ¬off → q.state = .quiet ∧ q.countdown = 16 ∧ q.restartCount = 0) ∧
      (off ∨ quiet → q.fifo = [] ∧ (p.state = .active → q.issued .rest .port)) ∧
      (¬off → ¬quiet → q.state = p.state ∧ q.runCount = p.runCount) := by
  intro q
  obtain ⟨e, d, h, b, k, n, went⟩ := (p.leftBy off quiet).goOn_frame
  have own : q = _ := went
  have idles (st : CellState) (active : p.state = .active) : Due.command .rest .port ∈ (p.leave st).due := by
    rw [RadioPort.leave_eq, active]
    exact List.mem_append_right _ (List.mem_singleton_self _)
  by_cases isOff : off
  · have left : p.leftBy off quiet = p.leave .off := if_pos isOff
    rw [left] at own
    refine ⟨fun _ => ?_, fun _ h => absurd isOff h, fun _ => ⟨?_, fun active => ?_⟩, fun h => absurd isOff h⟩
    · rw [own, RadioPort.leave_eq]
    · rw [own, RadioPort.leave_eq]
    · refine RadioPort.goOn_issued _ _ _ (.inr ?_)
      rw [left]
      exact idles .off active
  · by_cases isQuiet : quiet
    · have left : p.leftBy off quiet = { p.leave .quiet with restartCount := 0, countdown := 16 } :=
        (if_neg isOff).trans (if_pos isQuiet)
      rw [left] at own
      refine ⟨fun h => absurd h isOff, fun _ _ => ⟨?_, ?_, ?_⟩, fun _ => ⟨?_, fun active => ?_⟩, fun _ h => absurd isQuiet h⟩
      · rw [own, RadioPort.leave_eq]
      · rw [own]
      · rw [own]
      · rw [own, RadioPort.leave_eq]
      · refine RadioPort.goOn_issued _ _ _ (.inr ?_)
        rw [left]
        exact idles .quiet active
    · have left : p.leftBy off quiet = p := (if_neg isOff).trans (if_neg isQuiet)
      rw [left] at own
      refine ⟨fun h => absurd h isOff, fun h => absurd h isQuiet, fun h => absurd h (not_or.2 ⟨isOff, isQuiet⟩), fun _ _ => ?_⟩
      rw [own]
      exact ⟨rfl, rfl⟩

/-- A free link stays free. -/
theorem RadioPort.leftBy_free {p : RadioPort} (free : p.exchange = none) : (p.leftBy off quiet).exchange = none := by
  have left (st : CellState) : (p.leave st).exchange = none := by
    rw [RadioPort.leave_eq, free]
    rfl
  unfold RadioPort.leftBy
  split_ifs
  · exact left .off
  · exact left .quiet
  · exact free

/-- A beacon of another window that waits for the link waits on (R146). -/
theorem RadioPort.faulted_waits {k : LinkCommand} {b next : BeaconNo} {frame : Frame} {p : RadioPort} (notOff : ¬off) (notQuiet : ¬quiet)
    (waits : Due.command (.send frame) (.beacon next) ∈ p.due) :
    (((p.atFault k (.window b)).leftBy off quiet).goOn).issued (.send frame) (.beacon next) := by
  refine RadioPort.goOn_issued _ _ _ (.inr ?_)
  have left : (p.atFault k (.window b)).leftBy off quiet = p.atFault k (.window b) := (if_neg notOff).trans (if_neg notQuiet)
  rw [left, RadioPort.atFault_eq]
  exact List.mem_filter.2 ⟨waits, by simp [Due.endsWith]⟩

/-! ### The state beside the port (R122, R155) -/

/-- A state whose cell c has taken port q: OFF, its pending CELL_OFF is done; QUIET, CELL attention is raised. -/
def State.withFault (s : State) (c : CellId) (q : RadioPort) (off quiet : Prop) [Decidable off] [Decidable quiet] : State :=
  { s with
    cmd := { s.cmd with attn := if quiet then s.cmd.attn ||| 32 else s.cmd.attn },
    seq := cellPut s.seq c (if off then { s.seqAt c with offPending := false } else s.seqAt c),
    port := cellPut s.port c q }

/-- The pending CELL_OFF of cell c, done or not. -/
def clears (off : Prop) [Decidable off] (c d : CellId) (q : Sequencer) : Sequencer :=
  if off ∧ d = c then { q with offPending := false } else q

theorem clears_leaves (c d : CellId) : Sequencer.LeavesPlans (clears off c d) := by
  intro q x y
  unfold clears
  split_ifs <;> rfl

/-- A change of a state that looks at no port, at no pending CELL_OFF, at no cause and at no night record write. -/
def State.Beside (G : State → State) (c : CellId) : Prop :=
  ∀ (s : State) (off : Prop) [Decidable off] (p : PerCell RadioPort) (n : NightWriter) (r : Option Action) (a : BitVec 9),
    G (s.apart (clears off c) p n r a) = (G s).apart (clears off c) p n r a

section
variable {s : State} {c : CellId} {q : RadioPort}

theorem State.withFault_apart (s : State) (c : CellId) (q : RadioPort) : s.withFault c q off quiet =
    s.apart (clears off c) (cellPut s.port c q) s.night s.bus.nightReq (if quiet then 32 else 0) := by
  have seq : cellPut s.seq c (if off then { s.seqAt c with offPending := false } else s.seqAt c) = seqBeside (clears off c) s.seq := by
    refine cell_ext fun d => ?_
    rw [cellAt_cellPut, cellAt_seqBeside, clears]
    by_cases same : d = c
    · rw [if_pos same, same]
      exact if_congr (and_iff_left rfl).symm rfl rfl
    · rw [if_neg same, if_neg fun h => same h.2]
  have attn : (if quiet then s.cmd.attn ||| 32 else s.cmd.attn) = s.cmd.attn ||| (if quiet then 32 else 0) := by
    split_ifs
    · rfl
    · exact BitVec.or_zero.symm
  unfold State.withFault
  rw [seq, attn]
  rfl

theorem State.apart_none (s : State) (c : CellId) : s.apart (clears False c) s.port s.night s.bus.nightReq 0 = s := by
  have same : clears False c = fun _ => id := by
    funext d q
    exact if_neg fun h => h.1
  rw [same, State.apart_own]

/-- Such a change leaves ports, night record write and its request as they were. -/
theorem State.Beside.keeps {G : State → State} (beside : State.Beside G c) (s : State) :
    (G s).port = s.port ∧ (G s).night = s.night ∧ (G s).bus.nightReq = s.bus.nightReq := by
  have own := beside s False s.port s.night s.bus.nightReq 0
  rw [State.apart_none] at own
  rw [own]
  exact ⟨rfl, rfl, rfl⟩

theorem State.Beside.withFault {G : State → State} (beside : State.Beside G c) (s : State) :
    G (s.withFault c q off quiet) = (G s).withFault c q off quiet := by
  obtain ⟨port, night, request⟩ := beside.keeps s
  rw [State.withFault_apart, State.withFault_apart, beside, port, night, request]

theorem State.Beside.comp {F G : State → State} (hF : State.Beside F c) (hG : State.Beside G c) : State.Beside (fun s => F (G s)) c :=
  fun s off _ p n r a => (congrArg F (hG s off p n r a)).trans (hF _ off p n r a)

theorem State.beside_notSentAll (c : CellId) (plan : Plan) : State.Beside (fun s => s.notSentAll c plan) c :=
  fun s _ _ p n r a => s.notSentAll_apart p n r a (clears_leaves c c) plan

theorem State.beside_reportBeacon (c : CellId) (b : BeaconNo) (sent : Bool) : State.Beside (fun s => s.reportBeacon c b sent) c :=
  fun s _ _ p n r a => s.reportBeacon_apart p n r a _ b sent

theorem State.beside_modSeq (c : CellId) {f : Sequencer → Sequencer}
    (moves : ∀ q : Sequencer, f { q with offPending := false } = { f q with offPending := false }) :
    State.Beside (fun s => s.modSeq c f) c := by
  intro s off _ p n r a
  refine s.modSeq_apart p n r a fun q => ?_
  unfold clears
  split_ifs
  · exact moves q
  · rfl

/-! ### What the block is told -/

/-- The sequencer of a window that a port fault has ended (R125). -/
def Sequencer.idleFrom (plan : Plan) (q : Sequencer) : Sequencer :=
  { q with position := .between, upNext := plan.items.length, slotsLeft := 0, obs := noObservations }

/-- The rest of a window ends with a port fault (R125). -/
def State.cutWindow (c : CellId) (plan : Plan) (s : State) : State := (s.notSentAll c plan).modSeq c (Sequencer.idleFrom plan)

/-- A beacon that was taken up goes unsent (R109). -/
def State.unsentBeacon (c : CellId) (b : BeaconNo) (plan : Plan) (s : State) : State :=
  ((s.reportBeacon c b false).notSentAll c plan).modSeq c Sequencer.noPlan

theorem State.beside_cutWindow (c : CellId) (plan : Plan) : State.Beside (State.cutWindow c plan) c :=
  (State.beside_modSeq c fun _ => rfl).comp (State.beside_notSentAll c plan)

theorem State.beside_unsentBeacon (c : CellId) (b : BeaconNo) (plan : Plan) : State.Beside (State.unsentBeacon c b plan) c :=
  (State.beside_modSeq c fun _ => rfl).comp ((State.beside_notSentAll c plan).comp (State.beside_reportBeacon c b false))

theorem State.modPort_withFault (s : State) (c : CellId) (f : RadioPort → RadioPort) :
    s.modPort c f = s.withFault c (f (s.portAt c)) False False := by
  unfold State.withFault
  rw [if_neg not_false, if_neg not_false, State.seqAt, cellPut_cellAt]
  rfl

theorem State.withFault_portAt (s : State) (c : CellId) (q : RadioPort) (d : CellId) :
    (s.withFault c q off quiet).portAt d = if d = c then q else s.portAt d := cellAt_cellPut s.port c d q

theorem State.withFault_seqAt (s : State) (c : CellId) (q : RadioPort) (d : CellId) : (s.withFault c q off quiet).seqAt d =
    if d = c then (if off then { s.seqAt c with offPending := false } else s.seqAt c) else s.seqAt d := cellAt_cellPut s.seq c d _

theorem State.withFault_congr {off' quiet' : Prop} [Decidable off'] [Decidable quiet'] (hOff : off ↔ off') (hQuiet : quiet ↔ quiet')
    (s : State) (c : CellId) (p : RadioPort) :
    s.withFault c (p.leftBy off quiet) off quiet = s.withFault c (p.leftBy off' quiet') off' quiet' := by
  unfold State.withFault RadioPort.leftBy
  simp only [hOff, hQuiet]

theorem State.withFault_cellOff (s : State) (c : CellId) (p : RadioPort) :
    (s.withFault c p False False).cellOff c = s.withFault c (p.leftBy True False) True False := by
  have seq : ((s.withFault c p False False).modPort c fun p => p.leave .off).seqAt c = s.seqAt c :=
    (s.withFault_seqAt (off := False) (quiet := False) c p c).trans ((if_pos rfl).trans (if_neg not_false))
  unfold State.cellOff State.modSeq
  rw [seq]
  unfold State.modPort
  rw [State.withFault_portAt, if_pos rfl]
  unfold State.withFault State.setPort State.setSeq RadioPort.leftBy
  dsimp only
  rw [cellPut_cellPut, cellPut_cellPut, if_neg not_false, if_pos trivial, if_pos trivial]

/-- The cell of a third fault goes QUIET, or OFF when it is off-pending (R155). -/
theorem State.withFault_goQuiet (s : State) (c : CellId) (p : RadioPort) : (s.withFault c p False False).goQuiet c =
    s.withFault c (p.leftBy ((s.seqAt c).offPending = true) ((s.seqAt c).offPending = false))
      ((s.seqAt c).offPending = true) ((s.seqAt c).offPending = false) := by
  have seq : (s.withFault c p False False).seqAt c = s.seqAt c := by rw [State.withFault_seqAt, if_pos rfl, if_neg not_false]
  unfold State.goQuiet
  rw [seq]
  cases pending : (s.seqAt c).offPending with
  | true =>
    rw [if_pos rfl, State.withFault_cellOff]
    exact State.withFault_congr (by simp) (by simp) s c p
  | false =>
    rw [if_neg (by nofun)]
    unfold State.modPort State.raise
    rw [State.withFault_portAt, if_pos rfl]
    unfold State.withFault State.setPort State.setCmd RadioPort.leftBy
    dsimp only
    rw [cellPut_cellPut]
    rfl

/-- A beacon that does not wait for the link is not missed. -/
theorem State.missWaiting_of_sent {u : State} (notWaiting : ∀ plan, (u.seqAt c).standing = some plan → (u.seqAt c).position ≠ .beaconSend) :
    u.missWaiting c = u := by
  unfold State.missWaiting
  split
  · rfl
  · next plan standing => exact if_neg fun h => notWaiting plan standing h.1

/-- The cell's third fault in a row, when no beacon waits for its link (R155). -/
theorem State.withFault_quietCheck {u : State} {third : Prop} [Decidable third] {p : RadioPort}
    (notWaiting : third → ∀ plan, (u.seqAt c).standing = some plan → (u.seqAt c).position ≠ .beaconSend)
    (counts : (p.state = .active ∧ 3 ≤ p.runCount) ↔ third) : (u.withFault c p False False).quietCheck c =
      u.withFault c (p.leftBy ((u.seqAt c).offPending = true ∧ third) ((u.seqAt c).offPending = false ∧ third))
        ((u.seqAt c).offPending = true ∧ third) ((u.seqAt c).offPending = false ∧ third) := by
  have port : (u.withFault c p False False).portAt c = p := by rw [State.withFault_portAt, if_pos rfl]
  by_cases isThird : third
  · have quiets : (u.withFault c p False False).quietCheck c = ((u.withFault c p False False).goQuiet c).missWaiting c := by
      refine if_pos ?_
      rw [port]
      exact counts.2 isThird
    have waits := notWaiting isThird
    rw [quiets, State.withFault_goQuiet, State.missWaiting_of_sent]
    · exact State.withFault_congr (by simp [isThird]) (by simp [isThird]) u c p
    · intro plan
      rw [State.withFault_seqAt, if_pos rfl]
      split_ifs <;> exact waits plan
  · have stays : (u.withFault c p False False).quietCheck c = u.withFault c p False False := by
      refine if_neg ?_
      rw [port]
      exact fun h => isThird (counts.1 h)
    have same : p = p.leftBy False False := (if_neg not_false).trans (if_neg not_false) |>.symm
    rw [stays]
    conv_lhs => rw [same]
    exact State.withFault_congr (by simp [isThird]) (by simp [isThird]) u c p

variable {k : LinkCommand} {b : BeaconNo} {plan : Plan} {second last : Bool}

theorem State.linkFault_eq (s : State) (c : CellId) (k : LinkCommand) (purpose : Purpose) : s.linkFault c k purpose =
    ((s.withFault c ((s.portAt c).atFault k purpose) False False).reportFault c k purpose).quietCheck c := by
  rw [← s.modPort_withFault c (RadioPort.atFault k purpose)]
  rfl

/-- The third fault in a row, counted before or after this one. -/
theorem RadioPort.atFault_third (moves : k.moves = true) (purpose : Purpose) (p : RadioPort) :
    ((p.atFault k purpose).state = .active ∧ 3 ≤ (p.atFault k purpose).runCount) ↔ (p.state = .active ∧ 3 ≤ p.runCount + 1) := by
  rw [RadioPort.atFault_eq]
  dsimp only
  refine and_congr_right fun active => ?_
  rw [if_pos ⟨moves, active⟩]

/-- A link fault of the window whose plan stands (R125). -/
theorem State.linkFault_own (moves : k.moves = true) (standing : (s.seqAt c).standing = some plan) (own : plan.beacon = b) :
    let third := (s.portAt c).state = .active ∧ 3 ≤ (s.portAt c).runCount + 1
    let off := (s.seqAt c).offPending = true ∧ third
    let quiet := (s.seqAt c).offPending = false ∧ third
    s.linkFault c k (.window b) =
      (s.cutWindow c plan).withFault c (((s.portAt c).atFault k (.window b)).leftBy off quiet) off quiet := by
  intro third off quiet
  have beside := State.beside_cutWindow c plan
  have told (q : RadioPort) : (s.withFault c q False False).reportFault c k (.window b) = (s.cutWindow c plan).withFault c q False False := by
    have seq : (s.withFault c q False False).seqAt c = s.seqAt c := by rw [State.withFault_seqAt, if_pos rfl, if_neg not_false]
    have cuts : (s.withFault c q False False).reportFault c k (.window b) = (s.withFault c q False False).cutWindow c plan := by
      change State.portFault _ c b = _
      unfold State.portFault
      rw [seq, standing]
      exact if_pos own
    rw [cuts, beside.withFault]
  have seq : (s.cutWindow c plan).seqAt c = Sequencer.idleFrom plan ((s.notSentAll c plan).seqAt c) := by
    rw [State.cutWindow, State.modSeq_seqAt]
  have pending : ((s.cutWindow c plan).seqAt c).offPending = (s.seqAt c).offPending := by
    have plans := (State.notSentAll_items (s := s) (c := c) plan).plans
    rw [seq, plans]
    rfl
  have result := State.withFault_quietCheck (u := s.cutWindow c plan) (third := third)
    (fun _ _ _ => by rw [seq]; nofun) (RadioPort.atFault_third moves (.window b) (s.portAt c))
  rw [State.linkFault_eq, told, result, pending]

/-- A link fault of an earlier window tells the sequencer nothing (R125). -/
theorem State.reportFault_other (other : ∀ plan, (s.seqAt c).standing = some plan → plan.beacon ≠ b) (q : RadioPort) :
    (s.withFault c q False False).reportFault c k (.window b) = s.withFault c q False False := by
  have seq : (s.withFault c q False False).seqAt c = s.seqAt c := by rw [State.withFault_seqAt, if_pos rfl, if_neg not_false]
  change State.portFault _ c b = _
  unfold State.portFault
  rw [seq]
  split
  · rfl
  · next plan standing => exact if_neg (other plan standing)

theorem State.linkFault_other (moves : k.moves = true) (other : ∀ plan, (s.seqAt c).standing = some plan → plan.beacon ≠ b)
    (notMissed : (s.portAt c).state = .active ∧ 3 ≤ (s.portAt c).runCount + 1 → ∀ plan, (s.seqAt c).standing = some plan →
      (s.seqAt c).position ≠ .beaconSend) :
    let third := (s.portAt c).state = .active ∧ 3 ≤ (s.portAt c).runCount + 1
    let off := (s.seqAt c).offPending = true ∧ third
    let quiet := (s.seqAt c).offPending = false ∧ third
    s.linkFault c k (.window b) = s.withFault c (((s.portAt c).atFault k (.window b)).leftBy off quiet) off quiet := by
  intro third off quiet
  rw [State.linkFault_eq, State.reportFault_other other,
    State.withFault_quietCheck (third := third) notMissed (RadioPort.atFault_third moves (.window b) (s.portAt c))]

/-! ### A beacon that goes unsent (R107, R109) -/

theorem State.unsentBeacon_seqAt (s : State) (c : CellId) (b : BeaconNo) (plan : Plan) : let v := s.unsentBeacon c b plan
    (∀ d, d ≠ c → v.seqAt d = s.seqAt d) ∧ v.seqAt c = { (s.seqAt c).noPlan with coming := (v.seqAt c).coming } := by
  intro v
  obtain ⟨a, k, d, w, m, x, report⟩ := s.reportBeacon_frame c b false
  have same (d : CellId) : (s.reportBeacon c b false).seqAt d = s.seqAt d := by
    rw [report]
    rfl
  have items := State.notSentAll_items (s := s.reportBeacon c b false) (c := c) plan
  have own : v.seqAt c = (((s.reportBeacon c b false).notSentAll c plan).seqAt c).noPlan := State.modSeq_seqAt _ c _
  refine ⟨fun d other => ?_, ?_⟩
  · have moved : v.seqAt d = ((s.reportBeacon c b false).notSentAll c plan).seqAt d := State.modSeq_seqAt_other _ c d _ other
    rw [moved, items.others d other, same]
  · rw [own, items.plans, same]
    rfl

theorem State.unsentBeacon_frame (s : State) (c : CellId) (b : BeaconNo) (plan : Plan) : let v := s.unsentBeacon c b plan
    v = { s with
      cmd := { s.cmd with attn := v.cmd.attn }, flip := v.flip, fetch := v.fetch, bus := v.bus, store := v.store, seq := v.seq,
      due := v.due, wb := v.wb, drained := v.drained, sweep := v.sweep, deferred := v.deferred } := by
  intro v
  obtain ⟨a, k, d, w, m, x, report⟩ := s.reportBeacon_frame c b false
  obtain ⟨e, p, y, q, d', w', n, x', f, frame⟩ := (s.reportBeacon c b false).notSentAll_frame c plan
  have made : v = ((s.reportBeacon c b false).notSentAll c plan).modSeq c Sequencer.noPlan := rfl
  rw [made, frame, report]
  rfl

theorem State.unsentBeacon_flip (s : State) (c : CellId) (b : BeaconNo) (plan : Plan) : let v := s.unsentBeacon c b plan
    v.flip = (s.reportBeacon c b false).flip ∧ v.cmd = (s.reportBeacon c b false).cmd := by
  intro v
  obtain ⟨e, p, y, q, d', w', n, x', f, frame⟩ := (s.reportBeacon c b false).notSentAll_frame c plan
  have made : v = ((s.reportBeacon c b false).notSentAll c plan).modSeq c Sequencer.noPlan := rfl
  rw [made, frame]
  exact ⟨rfl, rfl⟩

theorem State.unsentBeacon_loses (s : State) (c : CellId) (b : BeaconNo) (plan : Plan) : s.losesBeacon (s.unsentBeacon c b plan) c b plan :=
  ⟨_, _, s.reportBeacon_takes c b false, State.notSentAll_ends _ c plan, rfl⟩

theorem State.beaconFault_of (standing : (s.seqAt c).standing = some plan) : s.beaconFault c b =
    if (s.unsentBeacon c b plan).stopping then (s.unsentBeacon c b plan).takeOffPending c else s.unsentBeacon c b plan := by
  unfold State.beaconFault
  rw [standing]
  rfl

theorem State.unsentBeacon_pending : ((s.unsentBeacon c b plan).seqAt c).offPending = (s.seqAt c).offPending := by
  obtain ⟨_, own⟩ := s.unsentBeacon_seqAt c b plan
  rw [own]
  rfl

theorem State.takeOffPending_of_none {u : State} (noFlag : (u.seqAt c).offPending = false) : u.takeOffPending c = u :=
  if_neg (by simp [noFlag])

/-- The next window's beacon, still waiting for the link, is missed with the third fault (R107, R155). -/
theorem State.linkFault_misses (moves : k.moves = true) (other : plan.beacon ≠ b) (standing : (s.seqAt c).standing = some plan)
    (waits : (s.seqAt c).position = .beaconSend) (isThird : (s.portAt c).state = .active ∧ 3 ≤ (s.portAt c).runCount + 1) :
    let third := (s.portAt c).state = .active ∧ 3 ≤ (s.portAt c).runCount + 1
    let off := (s.seqAt c).offPending = true ∧ third
    let quiet := (s.seqAt c).offPending = false ∧ third
    s.linkFault c k (.window b) = (s.unsentBeacon c plan.beacon plan).withFault c
      (((s.portAt c).atFault k (.window b)).leftBy off quiet) off quiet := by
  intro third off quiet
  have others : ∀ x, (s.seqAt c).standing = some x → x.beacon ≠ b := by
    intro x isX
    rw [standing] at isX
    obtain rfl := Option.some.inj isX
    exact other
  obtain ⟨p, isP⟩ : ∃ p, p = (s.portAt c).atFault k (.window b) := ⟨_, rfl⟩
  have port : (s.withFault c p False False).portAt c = p := by rw [State.withFault_portAt, if_pos rfl]
  have quiets : (s.withFault c p False False).quietCheck c = ((s.withFault c p False False).goQuiet c).missWaiting c := by
    refine if_pos ?_
    rw [port, isP]
    exact (RadioPort.atFault_third moves _ _).2 isThird
  have same : (s.withFault c p False False).goQuiet c = s.withFault c (p.leftBy off quiet) off quiet := by
    rw [State.withFault_goQuiet]
    exact State.withFault_congr (and_iff_left isThird).symm (and_iff_left isThird).symm s c p
  obtain ⟨g, isG⟩ : ∃ g, g = s.withFault c (p.leftBy off quiet) off quiet := ⟨_, rfl⟩
  have seq : g.seqAt c = { s.seqAt c with offPending := false } := by
    rw [isG, State.withFault_seqAt, if_pos rfl]
    split_ifs with isOff
    · rfl
    · have noFlag : (s.seqAt c).offPending = false := by simpa [off, show third from isThird] using isOff
      rw [← noFlag]
  have free : (g.portAt c).beaconOut = false := by
    have noExchange : (g.portAt c).exchange = none := by
      rw [isG, State.withFault_portAt, if_pos rfl, isP]
      exact RadioPort.leftBy_free rfl
    unfold RadioPort.beaconOut
    rw [noExchange]
  have gStanding : (g.seqAt c).standing = some plan := by
    rw [seq]
    exact standing
  have missed : g.missWaiting c = g.beaconFault c plan.beacon := by
    unfold State.missWaiting
    rw [gStanding]
    refine if_pos ⟨?_, free⟩
    rw [seq]
    exact waits
  have cleared : ((g.unsentBeacon c plan.beacon plan).seqAt c).offPending = false := by
    rw [State.unsentBeacon_pending, seq]
  rw [State.linkFault_eq, State.reportFault_other others, ← isP, quiets, same, ← isG, missed, State.beaconFault_of gStanding,
    State.takeOffPending_of_none cleared, ite_self, isG, (State.beside_unsentBeacon c plan.beacon plan).withFault]

/-- The SEND of a beacon ends in a link fault (R109). -/
theorem State.linkFault_beacon (moves : k.moves = true) (standing : (s.seqAt c).standing = some plan) :
    let third := (s.portAt c).state = .active ∧ 3 ≤ (s.portAt c).runCount + 1
    let off := (s.seqAt c).offPending = true ∧ (s.stopping = true ∨ third)
    let quiet := (s.seqAt c).offPending = false ∧ third
    s.linkFault c k (.beacon b) = (s.unsentBeacon c b plan).withFault c
      (((s.portAt c).atFault k (.beacon b)).leftBy off quiet) off quiet := by
  intro third off quiet
  obtain ⟨p, isP⟩ : ∃ p, p = (s.portAt c).atFault k (.beacon b) := ⟨_, rfl⟩
  obtain ⟨v, isV⟩ : ∃ v, v = s.unsentBeacon c b plan := ⟨_, rfl⟩
  have pending : (v.seqAt c).offPending = (s.seqAt c).offPending := by rw [isV, State.unsentBeacon_pending]
  have stopping : (v.withFault c p False False).stopping = s.stopping := by
    rw [isV, s.unsentBeacon_frame c b plan]
    rfl
  have lost : (s.withFault c p False False).unsentBeacon c b plan = v.withFault c p False False := by
    rw [isV]
    exact (State.beside_unsentBeacon c b plan).withFault s
  have told : (s.withFault c p False False).reportFault c k (.beacon b) =
      if s.stopping = true then (v.withFault c p False False).takeOffPending c else v.withFault c p False False := by
    have own : ((s.withFault c p False False).seqAt c).standing = some plan := by
      rw [State.withFault_seqAt, if_pos rfl, if_neg not_false]
      exact standing
    have fault : (s.withFault c p False False).reportFault c k (.beacon b) = (s.withFault c p False False).beaconFault c b := rfl
    rw [fault, State.beaconFault_of own, lost, stopping]
  have seq : (v.withFault c p False False).seqAt c = v.seqAt c := by rw [State.withFault_seqAt, if_pos rfl, if_neg not_false]
  rw [State.linkFault_eq, ← isP, told, ← isV]
  by_cases goesOff : s.stopping = true ∧ (s.seqAt c).offPending = true
  · obtain ⟨stops, isPending⟩ := goesOff
    have isOff : off := ⟨isPending, .inl stops⟩
    have notQuiet : ¬quiet := fun ⟨noFlag, _⟩ => by simp [isPending] at noFlag
    have takes : (v.withFault c p False False).takeOffPending c = v.withFault c (p.leftBy True False) True False := by
      unfold State.takeOffPending
      rw [seq, pending, if_pos isPending, State.withFault_cellOff]
    have inactive : ((v.withFault c (p.leftBy True False) True False).portAt c).state ≠ .active := by
      rw [State.withFault_portAt, if_pos rfl]
      unfold RadioPort.leftBy
      rw [if_pos trivial, RadioPort.leave_eq]
      nofun
    rw [if_pos stops, takes, State.quietCheck_of_inactive inactive]
    exact State.withFault_congr (by simp [isOff]) (by simp [notQuiet]) v c p
  · have stays : (if s.stopping = true then (v.withFault c p False False).takeOffPending c else v.withFault c p False False) =
        v.withFault c p False False := by
      split_ifs with stops
      · refine State.takeOffPending_of_none ?_
        rw [seq, pending]
        simpa [stops] using goesOff
      · rfl
    have counts : (p.state = .active ∧ 3 ≤ p.runCount) ↔ third := by
      rw [isP]
      exact RadioPort.atFault_third moves _ _
    have noPlan : (v.seqAt c).standing = none := by
      obtain ⟨_, own⟩ := s.unsentBeacon_seqAt c b plan
      rw [isV, own]
      rfl
    rw [stays, State.withFault_quietCheck (third := third) (fun _ plan h => by simp [noPlan] at h) counts, pending]
    refine State.withFault_congr ?_ Iff.rfl v c p
    refine and_congr_right fun isPending => (or_iff_right ?_).symm
    exact fun stops => goesOff ⟨stops, isPending⟩

/-! ### The end of the step -/

theorem exec_linkTimeout_fault {purpose : Purpose} {seen : DataIn} (moves : k.moves = true)
    (out : (s.portAt c).exchange = some (.command k purpose true last)) :
    exec (.linkTimeout c seen) s = .next (s.linkFault c k purpose).conclude := by
  have event : exec (.linkTimeout c seen) s = .next (s.takeTimeout c seen).conclude := rfl
  have fault : s.unanswered c k purpose true last seen = s.linkFault c k purpose := by
    unfold State.unanswered
    rw [if_neg (by rintro rfl; nomatch moves), if_neg (by rintro ⟨rfl, _⟩; nomatch moves)]
    exact if_pos rfl
  rw [event, State.takeTimeout_of out, fault]

/-- Once the link has gone on, what is left is the end of a drain. -/
theorem State.withFault_concludes (settled : s.settled = true) {v : State} (inProgress : v.cmd.inProgress = s.cmd.inProgress)
    (waiting : v.cmd.waiting = s.cmd.waiting) (bus : v.bus.settled = true) (port : v.port = s.port) :
    (v.withFault c q.goOn off quiet).drainedInto (v.withFault c q off quiet).conclude := by
  obtain ⟨commands, _, ports, _⟩ := s.settled_iff.1 settled
  obtain ⟨p', each, drains⟩ := State.conclude_drainsLinks (u := v.withFault c q off quiet)
    (by
      change v.cmd.waiting = none ∨ v.cmd.inProgress.isSome = true
      rw [inProgress, waiting]
      exact commands.symm)
    bus
  have links : p' = cellPut v.port c q.goOn := by
    refine cell_ext fun d => ?_
    rw [each d, State.withFault_portAt, cellAt_cellPut]
    split_ifs
    · rfl
    · rw [State.portAt, port]
      exact RadioPort.goOn_settled _ (ports d)
  rw [links] at drains
  have same : (v.withFault c q off quiet).setPort (cellPut v.port c q.goOn) = v.withFault c q.goOn off quiet := rfl
  rwa [same] at drains

/-- What a link fault leaves of its cell (R148, R149, R154, R155). -/
theorem State.withFault_leaves {v : State} (port : v.port = s.port) (pending : (v.seqAt c).offPending = (s.seqAt c).offPending)
    (moves : k.moves = true) (purpose : Purpose) (isPending : off → (s.seqAt c).offPending = true)
    (noFlag : quiet → (s.seqAt c).offPending = false) :
    s.faultLeaves (v.withFault c (((s.portAt c).atFault k purpose).leftBy off quiet).goOn off quiet) c off quiet := by
  obtain ⟨p, isP⟩ : ∃ p, p = (s.portAt c).atFault k purpose := ⟨_, rfl⟩
  obtain ⟨holding, behind⟩ := RadioPort.faulted_held (off := off) (quiet := quiet) k purpose (s.portAt c)
  obtain ⟨goesOff, goesQuiet, leaves, stays⟩ := RadioPort.leftBy_goOn (off := off) (quiet := quiet) p
  have same : p.state = (s.portAt c).state ∧
      p.runCount = if (s.portAt c).state = .active then (s.portAt c).runCount + 1 else (s.portAt c).runCount := by
    rw [isP, RadioPort.atFault_eq]
    refine ⟨rfl, if_congr ?_ rfl rfl⟩
    simp [moves]
  obtain ⟨state, runs⟩ := same
  have seq : ((v.withFault c (p.leftBy off quiet).goOn off quiet).seqAt c).offPending =
      if off then false else (s.seqAt c).offPending := by
    rw [State.withFault_seqAt, if_pos rfl]
    split_ifs
    · rfl
    · exact pending
  rw [← isP] at holding behind ⊢
  rw [state] at leaves stays
  rw [runs] at stays
  unfold State.faultLeaves
  dsimp only
  rw [State.withFault_portAt, if_pos rfl, seq]
  refine ⟨fun d other => ?_, holding, behind, fun isOff => ⟨goesOff isOff, if_pos isOff⟩, fun isQuiet => ?_, leaves,
    fun notOff notQuiet => ?_⟩
  · rw [State.withFault_portAt, if_neg other, State.portAt, port]
    rfl
  · have notOff : ¬off := fun isOff => by simp [noFlag isQuiet] at isPending; exact isPending isOff
    obtain ⟨isState, countdown, restarts⟩ := goesQuiet isQuiet notOff
    exact ⟨isState, countdown, restarts, (if_neg notOff).trans (noFlag isQuiet)⟩
  · obtain ⟨isState, isRuns⟩ := stays notOff notQuiet
    exact ⟨isState, isRuns, if_neg notOff⟩

theorem State.cutWindow_bus (settled : s.bus.settled = true) : (s.cutWindow c plan).bus.settled = true :=
  (State.notSentAll_items (s := s) (c := c) plan).bus settled

theorem State.unsentBeacon_bus (settled : s.bus.settled = true) : (s.unsentBeacon c b plan).bus.settled = true := by
  obtain ⟨a, k, d, w, m, x, report⟩ := s.reportBeacon_frame c b false
  refine (State.notSentAll_items (s := s.reportBeacon c b false) (c := c) plan).bus ?_
  rw [report]
  exact settled

end

/-! ### An IDLE (R146, R154) -/

/-- What a free link begins first. -/
theorem RadioPort.serveDue_rest (l : List Due) (p : RadioPort) {again final : Bool}
    (out : (p.serveDue l).exchange = some (.command .rest .port again final)) : Due.command .rest .port ∈ l := by
  induction l generalizing p with
  | nil =>
    unfold RadioPort.serveDue at out
    dsimp only at out
    split_ifs at out
    cases out
  | cons d rest ih =>
    cases d with
    | command k u =>
      cases out
      exact List.mem_cons_self ..
    | held =>
      unfold RadioPort.serveDue at out
      split at out
      · unfold RadioPort.refill at out
        split at out
        · cases out
        · cases out
      · exact List.mem_cons_of_mem _ (ih p out)
    | pull =>
      unfold RadioPort.serveDue at out
      split_ifs at out
      · cases out
      · exact List.mem_cons_of_mem _ (ih p out)
    | overrunPull => cases out

/-- A link whose IDLE has ended goes on with what waits for it, first come first served. -/
theorem RadioPort.afterRest (p : RadioPort) {k : LinkCommand} {purpose : Purpose} {second last : Bool}
    (out : p.exchange = some (.command k purpose second last)) (settled : p.settled = true) :
    let q := ({ p with exchange := none } : RadioPort).goOn
    q.state = p.state ∧ q.runCount = p.runCount ∧
      (∀ again final, q.exchange = some (.command .rest .port again final) → Due.command .rest .port ∈ p.due) ∧
      (∀ next purpose rest, p.due = .command next purpose :: rest →
        q.exchange = some (.command next purpose false false) ∧ ∀ x ∈ rest, x ∈ q.due) ∧
      (p.due = [] → q.due = [] ∧ q.exchange = none) := by
  intro q
  obtain ⟨free, isFree⟩ : ∃ free : RadioPort, free = { p with exchange := none } := ⟨_, rfl⟩
  have noExchange : free.exchange = none := by rw [isFree]
  have due : free.due = p.due := by rw [isFree]
  have isQ : q = free.goOn := by rw [isFree]
  obtain ⟨e, d, h, b, k, n, went⟩ := free.goOn_frame
  obtain ⟨m, x, clock⟩ := (free.serveDue free.due).takeClock_frame
  have exchange : q.exchange = (free.serveDue p.due).exchange := by
    rw [isQ, free.goOn_free noExchange, RadioPort.notePull_exchange, clock, due]
  have keeps {y : Due} (isIn : y ∈ (free.serveDue p.due).due) : y ∈ q.due := by
    rw [isQ, free.goOn_free noExchange]
    refine RadioPort.notePull_mem _ ?_
    rw [clock, due]
    exact isIn
  refine ⟨by rw [isQ, went, isFree], by rw [isQ, went, isFree], fun again final rests => ?_, fun next purpose rest isDue => ?_,
    fun empty => ?_⟩
  · rw [exchange] at rests
    exact RadioPort.serveDue_rest p.due free rests
  · have served : free.serveDue p.due = { free with exchange := some (.command next purpose false false), due := rest } := by
      rw [isDue]
      rfl
    refine ⟨by rw [exchange, served], fun y isIn => keeps ?_⟩
    rw [served]
    exact isIn
  · have noPull : free.canPull = false := by
      unfold RadioPort.settled at settled
      rw [out, empty] at settled
      have same : free.canPull = p.canPull := by rw [isFree]; rfl
      rw [same]
      simpa using settled
    have served : free.serveDue free.due = { free with exchange := none, due := [] } := by
      rw [due, empty, RadioPort.serveDue, if_neg (by simp [noPull])]
    have rests : q = { free with exchange := none, due := [], clockHigh := m, clockNext := x } := by
      rw [isQ, free.goOn_free noExchange, clock, served]
      rfl
    rw [rests]
    exact ⟨rfl, rfl⟩

end

section
variable {s : State} {c : CellId} {k : LinkCommand} {b : BeaconNo} {second last : Bool} {seen : DataIn} {plan : Plan}

/-- An answer to a window's command (R148). -/
theorem windowAnswered (settled : s.settled = true) {answer : Word} (moves : k.moves = true)
    (out : (s.portAt c).exchange = some (.command k (.window b) second last)) (answered : answers k answer = true) :
    ∃ t, exec (.linkAnswer c answer) s = .next t ∧ t = { s with port := t.port } ∧ (∀ d : CellId, d ≠ c → t.portAt d = s.portAt d) ∧
      (t.portAt c).runCount = (if (s.portAt c).state = .active then 0 else (s.portAt c).runCount) ∧
      (t.portAt c).state = (s.portAt c).state ∧ (t.portAt c).fifo = (s.portAt c).fifo := by
  have event : exec (.linkAnswer c answer) s = .next (s.modPort c (RadioPort.afterAnswer k)).conclude :=
    congrArg (fun u : State => Host.Outcome.next u.conclude) (State.takeAnswer_of out answered)
  obtain ⟨t, step, frame, others, own⟩ := State.portChange settled event
  obtain ⟨_, _, _, _, _, _, went⟩ := ((s.portAt c).afterAnswer k).goOn_frame
  refine ⟨t, step, frame, others, ?_⟩
  rw [own, went, RadioPort.afterAnswer_eq]
  exact ⟨if_congr (by simp [moves]) rfl rfl, rfl, rfl⟩

/-- A link fault of the window whose plan stands (R125). -/
theorem windowFault_own (settled : s.settled = true) (moves : k.moves = true)
    (out : (s.portAt c).exchange = some (.command k (.window b) true last)) (standing : (s.seqAt c).standing = some plan)
    (own : plan.beacon = b) :
    let third := (s.portAt c).state = .active ∧ 3 ≤ (s.portAt c).runCount + 1
    let off := (s.seqAt c).offPending = true ∧ third
    let quiet := (s.seqAt c).offPending = false ∧ third
    ∃ t u : State, exec (.linkTimeout c seen) s = .next t ∧ s.endsPlan u c plan ∧ s.faultLeaves t c off quiet ∧
      t = { u with cmd := t.cmd, seq := t.seq, port := t.port } ∧
      t.cmd = { s.cmd with attn := if quiet then s.cmd.attn ||| 32 else s.cmd.attn } ∧
      (∀ d : CellId, d ≠ c → t.seqAt d = s.seqAt d) ∧
      t.seqAt c = { u.seqAt c with
        position := .between, upNext := plan.items.length, slotsLeft := 0, offPending := (t.seqAt c).offPending,
        obs := { good := none, damaged := false, overrun := false } } ∧
      t = { s with cmd := t.cmd, sweep := t.sweep, due := t.due, deferred := t.deferred, drained := t.drained,
                   seq := t.seq, fetch := t.fetch, store := t.store, port := t.port, bus := t.bus, wb := t.wb } ∧
      (∀ place i, t.itemAt c b place = some i → i.live = false) ∧
      (¬third → ∀ frame next, Due.command (.send frame) (.beacon next) ∈ (s.portAt c).due →
        (t.portAt c).issued (.send frame) (.beacon next)) := by
  intro third off quiet
  obtain ⟨u, isU⟩ : ∃ u, u = s.notSentAll c plan := ⟨_, rfl⟩
  obtain ⟨v, isV⟩ : ∃ v, v = s.cutWindow c plan := ⟨_, rfl⟩
  have cuts : v = u.modSeq c (Sequencer.idleFrom plan) := by rw [isV, isU]; rfl
  obtain ⟨port, _, _⟩ := (State.beside_cutWindow c plan).keeps s
  rw [← isV] at port
  have items := State.notSentAll_items (s := s) (c := c) plan
  obtain ⟨e, p, y, x, d, w, n, z, f, frame⟩ := s.notSentAll_frame c plan
  rw [← isU] at items frame
  have cmd : v.cmd = s.cmd := by rw [cuts, frame]; rfl
  have seq : v.seqAt c = Sequencer.idleFrom plan (u.seqAt c) := by rw [cuts, State.modSeq_seqAt]
  have stands : (u.seqAt c).standing.isSome = true := by rw [items.standing, standing]; rfl
  have pending : (v.seqAt c).offPending = (s.seqAt c).offPending := by
    have plans := items.plans
    rw [seq, plans]
    rfl
  obtain ⟨q, isQ⟩ : ∃ q, q = (((s.portAt c).atFault k (.window b)).leftBy off quiet).goOn := ⟨_, rfl⟩
  obtain ⟨t, isT⟩ : ∃ t, t = v.withFault c q off quiet := ⟨_, rfl⟩
  have tSeq (d : CellId) : t.seqAt d = if d = c then (if off then { v.seqAt c with offPending := false } else v.seqAt c) else v.seqAt d := by
    rw [isT, State.withFault_seqAt]
  have keeps : (t.seqAt c).coming = (u.seqAt c).coming ∧ (t.seqAt c).standing = (u.seqAt c).standing := by
    rw [tSeq, if_pos rfl, seq]
    split_ifs <;> exact ⟨rfl, rfl⟩
  have busSettled : v.bus.settled = true := by
    rw [isV]
    exact State.cutWindow_bus (s.settled_iff.1 settled).2.2.2
  have step : exec (.linkTimeout c seen) s = .next t := by
    have drains := State.withFault_concludes (c := c) (off := off) (quiet := quiet)
      (q := ((s.portAt c).atFault k (.window b)).leftBy off quiet) settled (v := v) (by rw [cmd]) (by rw [cmd]) busSettled port
    rw [← isQ, ← isT] at drains
    have undrained : t.drainDue = false := State.drainDue_of_window (c := c) (by rw [keeps.2]; exact stands)
    rw [exec_linkTimeout_fault moves out, State.linkFault_own moves standing own, ← isV, State.drainedInto_eq undrained drains]
  refine ⟨t, u, step, ?_, ?_, ?_, ?_, fun d other => ?_, ?_, ?_, fun place i item => ?_, fun notThird frame next waits => ?_⟩
  · rw [isU]
    exact State.notSentAll_ends s c plan
  · rw [isT, isQ]
    exact State.withFault_leaves port pending moves (.window b) (fun h => h.1) (fun h => h.1)
  · rw [isT, cuts]
    rfl
  · rw [isT, ← cmd]
    rfl
  · rw [tSeq, if_neg other, cuts, State.modSeq_seqAt_other _ c d _ other, items.others d other]
  · rw [tSeq, if_pos rfl, seq]
    split_ifs <;> rfl
  · rw [isT, cuts, frame]
    rfl
  · have same : t.itemAt c b place = u.itemAt c b place := by
      unfold State.itemAt Sequencer.planOf
      rw [keeps.1, keeps.2]
    rw [same, isU] at item
    exact State.notSentAll_dead standing own item
  · have portOwn : t.portAt c = q := by rw [isT, State.withFault_portAt, if_pos rfl]
    rw [portOwn, isQ]
    exact RadioPort.faulted_waits (fun h => notThird h.2) (fun h => notThird h.2) waits

/-- A link fault of an earlier window, with no beacon missed (R125, R155). -/
theorem windowFault_other (settled : s.settled = true) (moves : k.moves = true)
    (out : (s.portAt c).exchange = some (.command k (.window b) true last))
    (other : ∀ plan, (s.seqAt c).standing = some plan → plan.beacon ≠ b) :
    let third := (s.portAt c).state = .active ∧ 3 ≤ (s.portAt c).runCount + 1
    let off := (s.seqAt c).offPending = true ∧ third
    let quiet := (s.seqAt c).offPending = false ∧ third
    (∀ plan : Plan, ¬(third ∧ (s.seqAt c).position = .beaconSend ∧ (s.seqAt c).standing = some plan)) →
    ∃ t, exec (.linkTimeout c seen) s = .next t ∧ s.faultLeaves t c off quiet ∧
      t = { s with cmd := { s.cmd with attn := if quiet then s.cmd.attn ||| 32 else s.cmd.attn }, seq := t.seq, port := t.port } ∧
      (∀ d : CellId, d ≠ c → t.seqAt d = s.seqAt d) ∧
      t.seqAt c = { s.seqAt c with offPending := (t.seqAt c).offPending } ∧
      (¬third → ∀ frame next, Due.command (.send frame) (.beacon next) ∈ (s.portAt c).due →
        (t.portAt c).issued (.send frame) (.beacon next)) := by
  intro third off quiet notMissed
  obtain ⟨_, drain, _, bus⟩ := s.settled_iff.1 settled
  obtain ⟨q, isQ⟩ : ∃ q, q = (((s.portAt c).atFault k (.window b)).leftBy off quiet).goOn := ⟨_, rfl⟩
  obtain ⟨t, isT⟩ : ∃ t, t = s.withFault c q off quiet := ⟨_, rfl⟩
  have tSeq (d : CellId) : t.seqAt d = if d = c then (if off then { s.seqAt c with offPending := false } else s.seqAt c) else s.seqAt d := by
    rw [isT, State.withFault_seqAt]
  have step : exec (.linkTimeout c seen) s = .next t := by
    have drains := State.withFault_concludes (c := c) (off := off) (quiet := quiet)
      (q := ((s.portAt c).atFault k (.window b)).leftBy off quiet) settled (v := s) rfl rfl bus rfl
    rw [← isQ, ← isT] at drains
    have undrained : t.drainDue = false := by
      refine Eq.trans (State.drainDue_congr ?_ ?_ ?_ (fun d => ?_) ?_ ?_) drain
      · rw [isT]; rfl
      · rw [isT]; rfl
      · rw [isT]; rfl
      · rw [tSeq]
        split_ifs with same
        · rw [same]
        · rw [same]
        · rfl
      · rw [isT]; rfl
      · rw [isT]; rfl
    rw [exec_linkTimeout_fault moves out, State.linkFault_other moves other fun h plan standing waits => notMissed plan ⟨h, waits, standing⟩,
      State.drainedInto_eq undrained drains]
  refine ⟨t, step, ?_, ?_, fun d other => ?_, ?_, fun notThird frame next waits => ?_⟩
  · rw [isT, isQ]
    exact State.withFault_leaves rfl rfl moves (.window b) (fun h => h.1) (fun h => h.1)
  · rw [isT]
    rfl
  · rw [tSeq, if_neg other]
  · rw [tSeq, if_pos rfl]
    split_ifs <;> rfl
  · have portOwn : t.portAt c = q := by rw [isT, State.withFault_portAt, if_pos rfl]
    rw [portOwn, isQ]
    exact RadioPort.faulted_waits (fun h => notThird h.2) (fun h => notThird h.2) waits

/-- A state in which the beacon of cell c has gone unsent and its port has had a link fault, and what the step then answers. -/
theorem State.unsentBeacon_concludes (settled : s.settled = true) {off quiet : Prop} [Decidable off] [Decidable quiet] (q : RadioPort) :
    ((s.unsentBeacon c b plan).withFault c q.goOn off quiet).drainedInto
      ((s.unsentBeacon c b plan).withFault c q off quiet).conclude := by
  obtain ⟨port, _, _⟩ := (State.beside_unsentBeacon c b plan).keeps s
  have frame := s.unsentBeacon_frame c b plan
  refine State.withFault_concludes settled ?_ ?_ (State.unsentBeacon_bus (s.settled_iff.1 settled).2.2.2) port
  · rw [frame]
  · rw [frame]

/-- A link fault of an earlier window with which the next window's beacon is missed (R107, R155). -/
theorem windowFault_misses (settled : s.settled = true) (moves : k.moves = true)
    (out : (s.portAt c).exchange = some (.command k (.window b) true last)) (other : plan.beacon ≠ b) :
    let third := (s.portAt c).state = .active ∧ 3 ≤ (s.portAt c).runCount + 1
    let off := (s.seqAt c).offPending = true ∧ third
    let quiet := (s.seqAt c).offPending = false ∧ third
    third ∧ (s.seqAt c).position = .beaconSend ∧ (s.seqAt c).standing = some plan →
    ∃ t u v : State, exec (.linkTimeout c seen) s = .next t ∧ u.drainedInto t ∧
      s.losesBeacon v c plan.beacon plan ∧ s.faultLeaves u c off quiet ∧
      u = { v with cmd := { v.cmd with attn := if quiet then v.cmd.attn ||| 32 else v.cmd.attn }, seq := u.seq, port := u.port } ∧
      (∀ d : CellId, d ≠ c → u.seqAt d = s.seqAt d) ∧ u.seqAt c = { v.seqAt c with offPending := false } := by
  rintro third off quiet ⟨isThird, waits, standing⟩
  obtain ⟨v, isV⟩ : ∃ v, v = s.unsentBeacon c plan.beacon plan := ⟨_, rfl⟩
  obtain ⟨p, isP⟩ : ∃ p, p = ((s.portAt c).atFault k (.window b)).leftBy off quiet := ⟨_, rfl⟩
  obtain ⟨port, _, _⟩ := (State.beside_unsentBeacon c plan.beacon plan).keeps s
  obtain ⟨others, _⟩ := s.unsentBeacon_seqAt c plan.beacon plan
  have pending := State.unsentBeacon_pending (s := s) (c := c) (b := plan.beacon) (plan := plan)
  have loses := s.unsentBeacon_loses c plan.beacon plan
  have drains := State.unsentBeacon_concludes (c := c) (b := plan.beacon) (plan := plan) (off := off) (quiet := quiet) settled p
  rw [← isV] at port others pending loses drains
  refine ⟨_, _, v, ?_, drains, loses, ?_, rfl, fun d other => ?_, ?_⟩
  · rw [exec_linkTimeout_fault moves out, State.linkFault_misses moves other standing waits isThird, isV, isP]
  · rw [isP]
    exact State.withFault_leaves port pending moves (.window b) (fun h => h.1) (fun h => h.1)
  · rw [State.withFault_seqAt, if_neg other, others d other]
  · rw [State.withFault_seqAt, if_pos rfl]
    split_ifs with isOff
    · rfl
    · have noFlag : (v.seqAt c).offPending = false := by
        rw [pending]
        simpa [off, show third from isThird] using isOff
      rw [← noFlag]

theorem GroupRecord.missed_eq (c : CellId) (b : BeaconNo) (r : GroupRecord) : r.missed c b = r.missedIn [c] b := by
  have none_ : r.missedIn [] b = r := by simp [GroupRecord.missedIn, bitsOf]
  have one := GroupRecord.missedIn_append [] c b r
  rw [none_] at one
  exact one

/-- The gap sets, once the report of a missed beacon is taken (R133). -/
theorem State.reportBeacon_gap (s : State) (c : CellId) (b : BeaconNo) (g : GroupId) : let r := s.groupRec g
    ((s.reportBeacon c b false).groupRec g).gap =
      if (r.state = .announced ∨ r.state = .cancelling) ∧ (b - r.announce).toNat < 2 ^ 31 ∧ b ≠ r.announce ∧
        (r.flipBeacon - b).toNat < 2 ^ 31 then r.gap ||| cellBit c else r.gap := by
  intro r
  obtain ⟨gap, _⟩ := r.afterMisses b [c] (b = s.timer.now ∧ s.reportsOf c b = 0xF)
  have bit : bitsOf [c] = cellBit c := by simp [bitsOf]
  have reported : r.reported c b false = r.missedIn [c] b := GroupRecord.missed_eq c b r
  rw [bit, ← reported] at gap
  rw [State.reportBeacon_groupRec]
  exact gap

/-- What a beacon that goes unsent leaves, when its report is not the fourth (R52, R60, R133). -/
theorem State.unsentBeacon_unflipped (standing : (s.seqAt c).standing = some plan) (own : plan.beacon = b)
    (notLast : ¬(b = s.timer.now ∧ s.reportsOf c b = 0xF)) : let v := s.unsentBeacon c b plan
    (∀ g, (v.groupRec g).state = (s.groupRec g).state) ∧ v.cmd = s.cmd ∧
      (s.unread c → ∀ i ∈ plan.items, i.live = true → ∀ r, s.recordIn c i.index = some r → r.state = .planned → r.outcome = none →
        r.lateAtFlip = false → v.recordIn c i.index = some (r.unsent s.stopping b)) := by
  intro v
  obtain ⟨flip, cmd⟩ := s.unsentBeacon_flip c b plan
  obtain ⟨u, made, _⟩ := State.reportBeacon_unflipped c false notLast
  refine ⟨fun g => ?_, ?_, fun unread i isIn live r found planned works noFlag => ?_⟩
  · have group : v.groupRec g = (s.reportBeacon c b false).groupRec g := by rw [State.groupRec, flip]; rfl
    rw [group, State.reportBeacon_groupRec, if_neg notLast]
    change ((s.groupRec g).missed c b).state = (s.groupRec g).state
    unfold GroupRecord.missed
    split_ifs <;> rfl
  · rw [cmd, made]
    rfl
  · have result := State.notSentAll_record (s := s.setFlip u) (c := c) standing own unread isIn live found planned works noFlag
    have same : v = ((s.setFlip u).notSentAll c plan).modSeq c Sequencer.noPlan := by
      rw [← made]
      rfl
    rw [same]
    exact result

/-- The SEND of a beacon that ends in a link fault (R109). -/
theorem beaconFault_parts (settled : s.settled = true) {frame : Frame}
    (out : (s.portAt c).exchange = some (.command (.send frame) (.beacon b) true last)) (standing : (s.seqAt c).standing = some plan) :
    let third := (s.portAt c).state = .active ∧ 3 ≤ (s.portAt c).runCount + 1
    let off := (s.seqAt c).offPending = true ∧ (s.stopping = true ∨ third)
    let quiet := (s.seqAt c).offPending = false ∧ third
    ∃ q t, exec (.linkTimeout c seen) s = .next t ∧ ((s.unsentBeacon c b plan).withFault c q off quiet).drainedInto t ∧
      s.faultLeaves ((s.unsentBeacon c b plan).withFault c q off quiet) c off quiet := by
  intro third off quiet
  obtain ⟨port, _, _⟩ := (State.beside_unsentBeacon c b plan).keeps s
  refine ⟨_, _, ?_, State.unsentBeacon_concludes (off := off) (quiet := quiet) settled
    (((s.portAt c).atFault (.send frame) (.beacon b)).leftBy off quiet), ?_⟩
  · rw [exec_linkTimeout_fault rfl out, State.linkFault_beacon rfl standing]
  · exact State.withFault_leaves port State.unsentBeacon_pending rfl (.beacon b) (fun h => h.1) (fun h => h.1)

end

/-- Settles O36: a fault's sequel is made in s as it stands, and the port, the pending CELL_OFF and the attention beside it. -/
theorem linkFaults : Obligations.LinkFaults := by
  unfold Obligations.LinkFaults
  refine ⟨fun s c k b second last answer seen settled => ⟨fun purpose out wrong => ?wrong, fun purpose out moves => ?again, fun out => ?rest,
    fun out moves => ⟨windowAnswered settled moves out, ?fault⟩⟩, ?beacon⟩
  case wrong =>
    have event : exec (.linkAnswer c answer) s = .next (s.takeAnswer c answer).conclude := rfl
    have late : exec (.linkTimeout c .varied) s = .next (s.takeTimeout c .varied).conclude := rfl
    have same : s.takeAnswer c answer = s.takeTimeout c .varied := by
      rw [State.takeTimeout_of out]
      unfold State.takeAnswer
      simp only [out, wrong, Bool.false_eq_true, if_false]
    rw [event, late, same]
  case again =>
    have taken : s.takeTimeout c seen = s.modPort c fun p => { p with exchange := some (.command k purpose true false) } := by
      rw [State.takeTimeout_of out]
      unfold State.unanswered
      rw [if_neg (by rintro rfl; nomatch moves), if_neg (by rintro ⟨rfl, _⟩; nomatch moves), if_neg (by nofun), if_neg (by nofun)]
    have still : ({ s.portAt c with exchange := some (.command k purpose true false) } : RadioPort).settled = true := by
      have port := (s.settled_iff.1 settled).2.2.1 c
      unfold RadioPort.settled at port ⊢
      rw [out] at port
      exact port
    have event : exec (.linkTimeout c seen) s = .next (s.takeTimeout c seen).conclude := rfl
    rw [event, taken, State.conclude_cellPort settled, RadioPort.goOn_settled _ still]
  case rest =>
    have taken : s.takeTimeout c seen = s.endExchange c := by
      rw [State.takeTimeout_of out]
      exact if_pos rfl
    have event : exec (.linkTimeout c seen) s = .next (s.modPort c fun p => { p with exchange := none }).conclude :=
      congrArg (fun u : State => Host.Outcome.next u.conclude) taken
    obtain ⟨t, step, frame, others, own⟩ := State.portChange settled event
    obtain ⟨state, runs, rests, first, empty⟩ := (s.portAt c).afterRest out ((s.settled_iff.1 settled).2.2.1 c)
    rw [← own] at state runs rests first empty
    exact ⟨t, step, frame, state, runs, others, rests, first, empty⟩
  case fault =>
    rintro rfl third off quiet raised misses
    exact ⟨fun plan standing own => windowFault_own settled moves out standing own, fun other =>
      ⟨windowFault_other settled moves out other, fun plan missed => windowFault_misses settled moves out
        (other plan missed.2.2) missed⟩⟩
  case beacon =>
    intro s c frame b plan last seen settled out standing own third off quiet
    obtain ⟨q, t, step, drains, leaves⟩ := beaconFault_parts (seen := seen) settled out standing
    obtain ⟨v, isV⟩ : ∃ v, v = s.unsentBeacon c b plan := ⟨_, rfl⟩
    obtain ⟨u, isU⟩ : ∃ u, u = v.withFault c q off quiet := ⟨_, rfl⟩
    obtain ⟨others, seq⟩ := s.unsentBeacon_seqAt c b plan
    obtain ⟨flip, _⟩ := s.unsentBeacon_flip c b plan
    have loses := s.unsentBeacon_loses c b plan
    have vFrame := s.unsentBeacon_frame c b plan
    have unflipped := State.unsentBeacon_unflipped standing own
    dsimp only at seq vFrame unflipped
    rw [← isV] at drains leaves others seq flip loses vFrame unflipped
    rw [← isU] at drains leaves
    have uSeq (d : CellId) : u.seqAt d = if d = c then (if off then { v.seqAt c with offPending := false } else v.seqAt c) else v.seqAt d := by
      rw [isU, State.withFault_seqAt]
    have uFlip : u.flip = (s.reportBeacon c b false).flip := by
      rw [isU]
      exact flip
    have keepsPlan : u.seqAt c = { v.seqAt c with offPending := (u.seqAt c).offPending } := by
      rw [uSeq, if_pos rfl]
      split_ifs <;> rfl
    refine ⟨t, u, v, step, drains, loses, leaves, ?_, keepsPlan, ?_, fun d other => ?_, ?_, ?_, fun g => ?_, fun place i item live => ?_,
      fun notLast => ?_⟩
    · rw [isU]
      rfl
    · rw [isU, vFrame]
      rfl
    · rw [uSeq, if_neg other, others d other]
    · rw [keepsPlan, seq]
      rfl
    · rw [uFlip, State.reportBeacon_reported]
      rfl
    · have group : u.groupRec g = (s.reportBeacon c b false).groupRec g := by rw [State.groupRec, uFlip]; rfl
      dsimp only
      rw [group]
      exact s.reportBeacon_gap c b g
    · obtain ⟨a, k, d, w, m, x, report⟩ := s.reportBeacon_frame c b false
      have stands : ((s.reportBeacon c b false).seqAt c).standing = some plan := by
        rw [report]
        exact standing
      have released := State.notSentAll_released stands own item live
      rw [isU, isV]
      exact released
    · have notFlip : ¬(b = s.timer.now ∧ s.reportsOf c b = 0xF) := by
        rintro ⟨now, all⟩
        rw [State.reportsOf, if_pos now] at all
        exact notLast.elim (fun h => h now) fun h => h all
      obtain ⟨states, cmd, records⟩ := unflipped notFlip
      have attn : u.cmd.attn = if quiet then s.cmd.attn ||| 32 else s.cmd.attn := by
        rw [isU, ← cmd]
        rfl
      refine ⟨fun g => ?_, fun isQuiet => attn.trans (if_pos isQuiet), fun notQuiet => attn.trans (if_neg notQuiet), fun unread i isIn live r
        found planned works noFlag => ?_⟩
      · rw [isU]
        exact states g
      · rw [isU]
        exact records unread i isIn live r found planned works noFlag

end Sys2Proof.Machine
end

section
/-! PROOFS. The selection of a plan's records, the removals for the spread, and the plan laid out over them (R73, R75, R77, R82, R84,
R97). -/

namespace Sys2Proof.Machine

/-! ### The walk over the due list (R77) -/

section
variable (m : Limits) (b : BeaconNo)

/-- The running values of a walk that has taken some records. -/
def Limits.walkOf (m : Limits) (picked : List DueRecord) : Walk :=
  { picked, airtime := (picked.map (DueRecord.cost m.rate)).sum, buffers := (picked.map DueRecord.claim).sum }

/-- The walk keeps the sums of what it has taken. -/
theorem Walk.visits_eq (l : List DueRecord) :
    l.foldl (Walk.visit m b) { picked := [], airtime := 0, buffers := 0 } = m.walkOf (selection m b l) := by
  induction l using List.reverseRecOn with
  | nil => rfl
  | append_singleton l r ih =>
    unfold selection
    rw [List.foldl_concat, ih]
    unfold Walk.visit
    split_ifs
    · simp [Limits.walkOf]
    · rfl

theorem DueRecord.eligibleAt_iff (r : DueRecord) :
    r.eligibleAt b = true ↔ r.state = .waiting ∧ b.toNat % 2 ^ r.k.toNat = r.phase.toNat ∧ (b - r.eligible).toNat < 2 ^ 31 := by
  rw [DueRecord.eligibleAt, Bool.and_eq_true, Bool.and_eq_true, atOrAfter_iff, decide_eq_true_eq, and_assoc]
  refine and_congr_left' ?_
  rw [DueRecord.isWaiting]
  simp

/-- What a record must meet at its turn. -/
def Limits.takes (m : Limits) (b : BeaconNo) (before : List DueRecord) (r : DueRecord) : Prop :=
  (r.state = .waiting ∧ b.toNat % 2 ^ r.k.toNat = r.phase.toNat ∧ (b - r.eligible).toNat < 2 ^ 31) ∧ before.length < 24 ∧
    (before.map (DueRecord.cost m.rate)).sum + r.cost m.rate ≤ m.budget ∧
    (before.map DueRecord.claim).sum + r.claim ≤ m.buffers ∧ ∀ q ∈ before, q.label ≠ r.label

theorem selection_concat (l : List DueRecord) (r : DueRecord) :
    (m.takes b (selection m b l) r → selection m b (l ++ [r]) = selection m b l ++ [r]) ∧
      (¬m.takes b (selection m b l) r → selection m b (l ++ [r]) = selection m b l) := by
  have walked : selection m b (l ++ [r]) = (Walk.visit m b (m.walkOf (selection m b l)) r).picked := by
    rw [← Walk.visits_eq, selection, List.foldl_concat]
  have fits : (r.eligibleAt b && (m.walkOf (selection m b l)).fits m r) = true ↔ m.takes b (selection m b l) r := by
    rw [Bool.and_eq_true, DueRecord.eligibleAt_iff]
    refine and_congr_right fun _ => ?_
    simp only [Walk.fits, Bool.and_eq_true, decide_eq_true_eq, List.all_eq_true, bne_iff_ne, and_assoc]
    exact Iff.rfl
  rw [walked, Walk.visit]
  refine ⟨fun takes => ?_, fun skips => ?_⟩
  · rw [if_pos (fits.2 takes)]
    rfl
  · rw [if_neg fun isTaken => skips (fits.1 isTaken)]
    rfl

/-- What a selection keeps to. -/
structure Limits.Keeps (m : Limits) (b : BeaconNo) (l picked : List DueRecord) : Prop where
  few : picked.length ≤ 24
  airtime : (picked.map (DueRecord.cost m.rate)).sum ≤ m.budget
  buffers : (picked.map DueRecord.claim).sum ≤ m.buffers
  labels : (picked.map (·.label)).Nodup
  eligible : ∀ r ∈ picked, r ∈ l ∧ r.state = .waiting ∧ b.toNat % 2 ^ r.k.toNat = r.phase.toNat ∧ (b - r.eligible).toNat < 2 ^ 31

theorem selection_keeps (l : List DueRecord) : m.Keeps b l (selection m b l) := by
  induction l using List.reverseRecOn with
  | nil => exact ⟨Nat.zero_le _, Nat.zero_le _, Nat.zero_le _, List.nodup_nil, (fun _ h => nomatch h)⟩
  | append_singleton l r ih =>
    obtain ⟨few, airtime, buffers, labels, eligible⟩ := ih
    obtain ⟨takes, skips⟩ := selection_concat m b l r
    by_cases isTaken : m.takes b (selection m b l) r
    · obtain ⟨own, room, time, claims, new⟩ := isTaken
      rw [takes ⟨own, room, time, claims, new⟩]
      refine ⟨by simpa using room, by simpa using time, by simpa using claims, ?_, fun q isIn => ?_⟩
      · rw [List.map_append, List.nodup_append]
        refine ⟨labels, List.nodup_singleton _, fun x isX y isY => ?_⟩
        obtain ⟨q, isQ, rfl⟩ := List.mem_map.1 isX
        rw [List.map_singleton, List.mem_singleton] at isY
        rw [isY]
        exact new q isQ
      · rcases List.mem_append.1 isIn with isIn | isR
        · obtain ⟨inList, rest⟩ := eligible q isIn
          exact ⟨List.mem_append_left _ inList, rest⟩
        · rw [List.mem_singleton.1 isR]
          exact ⟨List.mem_append_right _ (List.mem_singleton_self r), own⟩
    · rw [skips isTaken]
      exact ⟨few, airtime, buffers, labels, fun q isIn => (eligible q isIn).imp_left (List.mem_append_left _)⟩

/-- The first records of a selection keep to the same limits. -/
theorem Limits.Keeps.take {l picked : List DueRecord} (h : m.Keeps b l picked) (n : Nat) : m.Keeps b l (picked.take n) := by
  obtain ⟨few, airtime, buffers, labels, eligible⟩ := h
  have sub : List.Sublist (picked.take n) picked := List.take_sublist n picked
  refine ⟨sub.length_le.trans few, ?_, ?_, labels.sublist (sub.map _), fun r isIn => eligible r (sub.subset isIn)⟩
  · exact ((sub.map _).sum_le_sum (fun _ _ => Nat.zero_le _)).trans airtime
  · exact ((sub.map _).sum_le_sum (fun _ _ => Nat.zero_le _)).trans buffers

end

/-! ### The removals for the spread (R82) -/

/-- The spread of the plan of some records. -/
def recordsSpread (l : List DueRecord) : Nat := spreadOf (coverGroups (labelIds l)) l.length

/-- The records that stay are the first ones: the longest such list whose spread is within L. -/
theorem withinSpread_take (limit : Nat) (n : Nat) (l : List DueRecord) (fuel : l.length ≤ n) : ∃ k ≤ l.length,
    withinSpread limit n l = l.take k ∧ recordsSpread (l.take k) ≤ limit ∧
      ∀ j, k < j → j ≤ l.length → limit < recordsSpread (l.take j) := by
  induction n generalizing l with
  | zero =>
    obtain rfl : l = [] := List.length_eq_zero_iff.1 (Nat.le_zero.1 fuel)
    exact ⟨0, le_rfl, rfl, Nat.zero_le _, fun j more few => absurd more (by simpa using few)⟩
  | succ n ih =>
    by_cases fits : recordsSpread l ≤ limit
    · refine ⟨l.length, le_rfl, ?_, by rwa [List.take_length], fun j more few => absurd few (by omega)⟩
      rw [List.take_length]
      exact if_pos fits
    · have shorter : l.dropLast.length = l.length - 1 := List.length_dropLast
      obtain ⟨k, few, made, within, longest⟩ := ih l.dropLast (by omega)
      have first (j : Nat) (h : j ≤ l.length - 1) : l.dropLast.take j = l.take j := by
        rw [List.dropLast_eq_take, List.take_take, min_eq_left h]
      rw [first k (by omega)] at made within
      refine ⟨k, by omega, (if_neg fits).trans made, within, fun j more isFew => ?_⟩
      rcases Nat.lt_or_ge (l.length - 1) j with all | fewer
      · rw [List.take_of_length_le (by omega)]
        exact Nat.lt_of_not_le fits
      · rw [← first j fewer]
        exact longest j more (by omega)

/-! ### The plan laid out (R84, R97) -/

section
variable (rate : Rate)

theorem layItems_map {α : Type} (f : PlanItem → α) (g : DueRecord → α)
    (same : ∀ (i : PlanItem) (r : DueRecord), i.index = r.index → i.label = r.label → i.cost = r.cost rate → f i = g r) (offset : Nat)
    (free : List Nat) (l : List DueRecord) : (layItems rate offset free l).map f = l.map g := by
  induction l generalizing offset free with
  | nil => rfl
  | cons r rest ih =>
    rw [layItems, List.map_cons, List.map_cons, ih]
    exact congrArg (· :: rest.map g) (same _ r rfl rfl rfl)

theorem layItems_length (offset : Nat) (free : List Nat) (l : List DueRecord) : (layItems rate offset free l).length = l.length := by
  simpa using congrArg List.length (layItems_map rate (fun i => i.index) (fun r => r.index) (fun _ _ h _ _ => h) offset free l)

/-- An item begins where the items before it end. -/
theorem layItems_offset (offset : Nat) (free : List Nat) (l : List DueRecord) (k : Nat) {i : PlanItem}
    (item : (layItems rate offset free l)[k]? = some i) :
    i.offset = offset + (((layItems rate offset free l).take k).map (·.cost)).sum := by
  induction l generalizing offset free k with
  | nil => exact nomatch item
  | cons r rest ih =>
    rw [layItems] at item ⊢
    cases k with
    | zero =>
      obtain rfl := Option.some.inj item
      rfl
    | succ k =>
      rw [ih _ _ k item, List.take_succ_cons, List.map_cons, List.sum_cons, Nat.add_assoc]

/-- The items claim the first free buffers, each as many as its record needs. -/
theorem layItems_buffers (offset : Nat) (free : List Nat) (l : List DueRecord) :
    (layItems rate offset free l).flatMap (·.buffers) = free.take (l.map DueRecord.claim).sum := by
  induction l generalizing offset free with
  | nil => rfl
  | cons r rest ih =>
    rw [layItems, List.flatMap_cons, ih, List.map_cons, List.sum_cons, List.take_add]

/-- Each item is that of its record, with the buffers that its record needs. -/
theorem layItems_mem (offset : Nat) (free : List Nat) (l : List DueRecord) (enough : (l.map DueRecord.claim).sum ≤ free.length)
    {i : PlanItem} (isIn : i ∈ layItems rate offset free l) : ∃ r ∈ l, i.index = r.index ∧ i.kind = r.kind ∧ i.mode = r.mode ∧
      i.label = r.label ∧ i.target = r.target ∧ i.needed = r.needed ∧ i.cost = r.cost rate ∧ i.buffers.length = r.claim := by
  induction l generalizing offset free with
  | nil => exact nomatch isIn
  | cons r rest ih =>
    rw [List.map_cons, List.sum_cons] at enough
    rw [layItems] at isIn
    rcases List.mem_cons.1 isIn with rfl | isIn
    · refine ⟨r, List.mem_cons_self .., rfl, rfl, rfl, rfl, rfl, rfl, rfl, ?_⟩
      rw [List.length_take]
      omega
    · obtain ⟨q, isQ, own⟩ := ih _ _ (by rw [List.length_drop]; omega) isIn
      exact ⟨q, List.mem_cons_of_mem r isQ, own⟩

end

theorem freeBuffers_nodup (store : List SegBuffer) : (freeBuffers store).Nodup := List.Nodup.filter _ List.nodup_range

theorem mem_freeBuffers (store : List SegBuffer) (n : Nat) : n ∈ freeBuffers store ↔ n < 256 ∧ ∀ x ∈ store, x.number ≠ n := by
  simp [freeBuffers, Config.storeBuffers]

/-! ### The finished plan -/

/-- The limits of a cell's plan. -/
def planLimits (t : Settings) (c : CellId) (store : List SegBuffer) : Limits :=
  { budget := t.window * 1000, buffers := (freeBuffers store).length, rate := (cellAt t.cells c).rate }

/-- A plan is laid out over the first records of its selection, as many as the spread allows. -/
theorem makePlan_eq (t : Settings) (c : CellId) (b : BeaconNo) (l : List DueRecord) (store : List SegBuffer) :
    let picked := selection (planLimits t c store) b l
    ∃ k ≤ picked.length, (makePlan t c b l store).items =
        layItems (cellAt t.cells c).rate 0 (freeBuffers store) (picked.take k) ∧
      (makePlan t c b l store).filters = (coverGroups (labelIds (picked.take k))).map IdGroup.filter ∧
      recordsSpread (picked.take k) ≤ t.spread ∧ ∀ j, k < j → j ≤ picked.length → t.spread < recordsSpread (picked.take j) := by
  intro picked
  obtain ⟨k, few, made, within, longest⟩ := withinSpread_take t.spread picked.length picked le_rfl
  have records : plannedRecords (planLimits t c store) b t.spread l = picked.take k := made
  refine ⟨k, few, ?_, ?_, within, longest⟩
  · rw [← records]
    rfl
  · rw [← records]
    rfl

/-- Settles O29: a plan is laid out over the first records of the walk's selection. -/
theorem planWithinLimits : Obligations.PlanWithinLimits := by
  unfold Obligations.PlanWithinLimits
  refine ⟨fun t c b l store => ?plan, fun m b l r => ?walk⟩
  case plan =>
    intro plan rate
    obtain ⟨k, few, items, _, within, longest⟩ := makePlan_eq t c b l store
    obtain ⟨picked, isPicked⟩ : ∃ picked, picked = selection (planLimits t c store) b l := ⟨_, rfl⟩
    have keeps := (selection_keeps (planLimits t c store) b l).take _ _ k
    rw [← isPicked] at few items within longest keeps
    obtain ⟨count, airtime, buffers, labels, eligible⟩ := keeps
    have isPlan : plan.items = layItems rate 0 (freeBuffers store) (picked.take k) := items
    have length : plan.items.length = k := by rw [isPlan, layItems_length, List.length_take, min_eq_left few]
    have claimed : plan.items.flatMap (·.buffers) = (freeBuffers store).take ((picked.take k).map DueRecord.claim).sum := by
      rw [isPlan, layItems_buffers]
    refine ⟨?_, ?_, ?_, fun j i item => ?_, fun i isIn => ?_, ?_, fun n isIn => ?_, rfl, rfl, rfl, rfl, rfl, rfl, ?_⟩
    · rw [isPlan, layItems_length]
      exact count
    · rw [isPlan, layItems_map rate (·.cost) (DueRecord.cost rate) fun _ _ _ _ h => h]
      exact airtime
    · rw [isPlan, layItems_map rate (·.label) (·.label) fun _ _ _ h _ => h]
      exact labels
    · rw [isPlan] at item ⊢
      rw [layItems_offset rate 0 (freeBuffers store) _ j item, Nat.zero_add]
    · rw [isPlan] at isIn
      obtain ⟨r, isR, index, kind, mode, label, target, needed, cost, claim⟩ := layItems_mem rate 0 _ _ buffers isIn
      obtain ⟨inList, waiting, phase, due⟩ := eligible r isR
      exact ⟨r, inList, waiting, phase, due, index, kind, mode, label, target, needed, cost, claim⟩
    · rw [claimed]
      exact (freeBuffers_nodup store).sublist (List.take_sublist _ _)
    · rw [claimed] at isIn
      exact (mem_freeBuffers store n).1 (List.mem_of_mem_take isIn)
    · intro walk spread
      have isWalk : walk = picked := isPicked.symm
      rw [length, isWalk]
      refine ⟨?_, within, longest⟩
      rw [isPlan, layItems_map rate (·.index) (·.index) fun _ _ h _ _ => h]
  case walk =>
    intro before slots claim cost
    refine ⟨rfl, ?_⟩
    obtain ⟨takes, skips⟩ := selection_concat m b l r
    split_ifs with h
    · obtain ⟨waiting, phase, due, rest⟩ := h
      exact takes ⟨⟨waiting, phase, due⟩, rest⟩
    · exact skips fun ⟨⟨waiting, phase, due⟩, rest⟩ => h ⟨waiting, phase, due, rest⟩

end Sys2Proof.Machine
end

section
/-! PROOFS. The wake filters: blocks of label IDs, the merges that make four of them at most, and the labels they wake (R79 to R83). -/

namespace Sys2Proof.Machine

/-! ### Blocks (R79, R80) -/

/-- An ID lies in the block of a group: it agrees with the group's lowest ID from bit f on. -/
def IdGroup.covers (g : IdGroup) (v : Nat) : Prop := v / 2 ^ g.width = g.low / 2 ^ g.width

theorem IdGroup.covers_low (g : IdGroup) : g.covers g.low := rfl

theorem IdGroup.covers_iff (g : IdGroup) (v : Nat) : g.covers v ↔ g.base ≤ v ∧ v < g.base + 2 ^ g.width := by
  have room : 0 < 2 ^ g.width := Nat.two_pow_pos _
  have split := Nat.div_eq_iff (x := v) (y := g.low / 2 ^ g.width) room
  unfold IdGroup.covers IdGroup.base
  omega

/-- A block that contains another covers all that it covers. -/
theorem IdGroup.covers_of_contains {a b : IdGroup} (h : a.contains b = true) {v : Nat} (inB : b.covers v) : a.covers v := by
  obtain ⟨starts, ends⟩ : a.base ≤ b.base ∧ b.base + 2 ^ b.width ≤ a.base + 2 ^ a.width := by
    simpa [IdGroup.contains] using h
  rw [IdGroup.covers_iff] at inB ⊢
  omega

theorem IdGroup.width_of_contains {a b : IdGroup} (h : a.contains b = true) : b.width ≤ a.width := by
  obtain ⟨starts, ends⟩ : a.base ≤ b.base ∧ b.base + 2 ^ b.width ≤ a.base + 2 ^ a.width := by
    simpa [IdGroup.contains] using h
  exact (Nat.pow_le_pow_iff_right (a := 2) (by decide)).1 (by omega)

/-- Of two blocks with an ID in common the larger contains the other. -/
theorem IdGroup.contains_of_common {a b : IdGroup} (wider : b.width ≤ a.width) {v : Nat} (inA : a.covers v) (inB : b.covers v) :
    a.contains b = true := by
  have inside (u : Nat) (inB' : b.covers u) : a.covers u := by
    have same : u / 2 ^ b.width = v / 2 ^ b.width := inB'.trans inB.symm
    have pow : 2 ^ a.width = 2 ^ b.width * 2 ^ (a.width - b.width) := by rw [← pow_add, Nat.add_sub_cancel' wider]
    have up (x : Nat) : x / 2 ^ a.width = x / 2 ^ b.width / 2 ^ (a.width - b.width) := by rw [pow, Nat.div_div_eq_div_mul]
    unfold IdGroup.covers at inA ⊢
    rw [up u, same, ← up v, inA]
  have room : 0 < 2 ^ b.width := Nat.two_pow_pos _
  have first := inside b.base ((b.covers_iff _).2 ⟨le_rfl, by omega⟩)
  have last := inside (b.base + 2 ^ b.width - 1) ((b.covers_iff _).2 ⟨by omega, by omega⟩)
  rw [IdGroup.covers_iff] at first last
  simp only [IdGroup.contains, Bool.and_eq_true, decide_eq_true_eq]
  omega

/-- Two blocks of which neither contains the other have no ID in common. -/
def IdGroup.Apart (a b : IdGroup) : Prop := ∀ v, a.covers v → ¬b.covers v

theorem IdGroup.apart_of_not_nested {a b : IdGroup} (h : ¬(a.contains b || b.contains a) = true) : a.Apart b := by
  intro v inA inB
  rcases Nat.le_total b.width a.width with wider | wider
  · exact h (by rw [IdGroup.contains_of_common wider inA inB, Bool.true_or])
  · exact h (by rw [IdGroup.contains_of_common wider inB inA, Bool.or_true])

/-- The group that absorbs another covers what either covers. -/
theorem IdGroup.absorb_covers {a b : IdGroup} (nested : (a.contains b || b.contains a) = true) {v : Nat}
    (inEither : a.covers v ∨ b.covers v) : (a.absorb b).covers v := by
  have larger {a b : IdGroup} (h : a.contains b = true) (g : IdGroup) (width : g.width = a.width) (low : g.low = a.low ∨ g.low = b.low)
      (inEither : a.covers v ∨ b.covers v) : g.covers v := by
    have inA : a.covers v := inEither.elim id (IdGroup.covers_of_contains h)
    have same : g.low / 2 ^ a.width = a.low / 2 ^ a.width := by
      rcases low with low | low
      · rw [low]
      · rw [low]
        exact IdGroup.covers_of_contains h b.covers_low
    unfold IdGroup.covers
    rw [width, same]
    exact inA
  rcases (Bool.or_eq_true _ _).mp nested with h | h
  · refine larger h _ (max_eq_left (IdGroup.width_of_contains h)) ?_ inEither
    exact (min_choice a.low b.low)
  · refine larger h _ (max_eq_right (IdGroup.width_of_contains h)) ?_ inEither.symm
    exact (min_choice a.low b.low).symm

/-! ### The merges of nested blocks (R80) -/

/-- The groups of a list cover an ID. -/
def coveredBy (l : List IdGroup) (v : Nat) : Prop := ∃ g ∈ l, g.covers v

theorem coveredBy_cons {a : IdGroup} {l : List IdGroup} {v : Nat} : coveredBy (a :: l) v ↔ a.covers v ∨ coveredBy l v := by
  simp [coveredBy]

/-- A merge of one group with one of a list. -/
theorem absorbInto_some {a : IdGroup} {l m : List IdGroup} (h : absorbInto a l = some m) :
    m.length = l.length ∧ (∀ v, coveredBy (a :: l) v → coveredBy m v) ∧
      ∀ g ∈ m, ∃ x ∈ a :: l, g.low = x.low := by
  induction l generalizing m with
  | nil => exact nomatch h
  | cons b rest ih =>
    unfold absorbInto at h
    by_cases nested : (a.contains b || b.contains a) = true
    · rw [if_pos nested] at h
      obtain rfl := Option.some.inj h
      refine ⟨rfl, fun v covered => ?_, fun g isIn => ?_⟩
      · rw [coveredBy_cons, coveredBy_cons] at covered
        rw [coveredBy_cons]
        rcases covered with inA | inB | inRest
        · exact .inl (IdGroup.absorb_covers nested (.inl inA))
        · exact .inl (IdGroup.absorb_covers nested (.inr inB))
        · exact .inr inRest
      · rcases List.mem_cons.1 isIn with rfl | isIn
        · rcases min_choice a.low b.low with low | low
          · exact ⟨a, by simp, low⟩
          · exact ⟨b, by simp, low⟩
        · exact ⟨g, by simp [isIn], rfl⟩
    · rw [if_neg nested] at h
      obtain ⟨m', made, rfl⟩ := Option.map_eq_some_iff.1 h
      obtain ⟨length, covers, lows⟩ := ih made
      refine ⟨by simp [length], fun v covered => ?_, fun g isIn => ?_⟩
      · rw [coveredBy_cons, coveredBy_cons] at covered
        rw [coveredBy_cons]
        rcases covered with inA | inB | inRest
        · exact .inr (covers v (coveredBy_cons.2 (.inl inA)))
        · exact .inl inB
        · exact .inr (covers v (coveredBy_cons.2 (.inr inRest)))
      · rcases List.mem_cons.1 isIn with rfl | isIn
        · exact ⟨g, by simp, rfl⟩
        · obtain ⟨x, isX, low⟩ := lows g isIn
          refine ⟨x, ?_, low⟩
          rcases List.mem_cons.1 isX with rfl | isX
          · exact List.mem_cons_self ..
          · exact List.mem_cons_of_mem _ (List.mem_cons_of_mem _ isX)

theorem absorbInto_none {a : IdGroup} {l : List IdGroup} (h : absorbInto a l = none) : ∀ b ∈ l, a.Apart b := by
  induction l with
  | nil => exact (fun _ isIn => nomatch isIn)
  | cons b rest ih =>
    unfold absorbInto at h
    by_cases nested : (a.contains b || b.contains a) = true
    · rw [if_pos nested] at h
      exact nomatch h
    · rw [if_neg nested] at h
      refine List.forall_mem_cons.2 ⟨IdGroup.apart_of_not_nested nested, ih ?_⟩
      simpa using h

theorem absorbOnce_some {l m : List IdGroup} (h : absorbOnce l = some m) :
    m.length + 1 = l.length ∧ (∀ v, coveredBy l v → coveredBy m v) ∧ ∀ g ∈ m, ∃ x ∈ l, g.low = x.low := by
  induction l generalizing m with
  | nil => exact nomatch h
  | cons a rest ih =>
    unfold absorbOnce at h
    split at h
    · next m' made =>
      obtain rfl := Option.some.inj h
      obtain ⟨length, covers, lows⟩ := absorbInto_some made
      exact ⟨by simp [length], covers, lows⟩
    · obtain ⟨m', made, rfl⟩ := Option.map_eq_some_iff.1 h
      obtain ⟨length, covers, lows⟩ := ih made
      refine ⟨by simp [length], fun v covered => ?_, fun g isIn => ?_⟩
      · rw [coveredBy_cons] at covered ⊢
        exact covered.imp_right (covers v)
      · rcases List.mem_cons.1 isIn with rfl | isIn
        · exact ⟨g, List.mem_cons_self .., rfl⟩
        · obtain ⟨x, isX, low⟩ := lows g isIn
          exact ⟨x, List.mem_cons_of_mem _ isX, low⟩

theorem absorbOnce_none {l : List IdGroup} (h : absorbOnce l = none) : l.Pairwise IdGroup.Apart := by
  induction l with
  | nil => exact .nil
  | cons a rest ih =>
    unfold absorbOnce at h
    split at h
    · exact nomatch h
    · next none_ => exact .cons (absorbInto_none none_) (ih (by simpa using h))

/-- The merges end with blocks that have no ID in common. -/
theorem absorbMerges_spec (n : Nat) (l : List IdGroup) (fuel : l.length ≤ n) : let m := absorbMerges n l
    m.length ≤ l.length ∧ m.Pairwise IdGroup.Apart ∧ (∀ v, coveredBy l v → coveredBy m v) ∧ ∀ g ∈ m, ∃ x ∈ l, g.low = x.low := by
  induction n generalizing l with
  | zero =>
    obtain rfl : l = [] := List.length_eq_zero_iff.1 (Nat.le_zero.1 fuel)
    exact ⟨le_rfl, .nil, fun _ => id, fun _ isIn => nomatch isIn⟩
  | succ n ih =>
    cases once : absorbOnce l with
    | none =>
      have same : absorbMerges (n + 1) l = l := by simp only [absorbMerges, once]
      rw [same]
      exact ⟨le_rfl, absorbOnce_none once, fun _ => id, fun g isIn => ⟨g, isIn, rfl⟩⟩
    | some m =>
      have next : absorbMerges (n + 1) l = absorbMerges n m := by simp only [absorbMerges, once]
      obtain ⟨length, covers, lows⟩ := absorbOnce_some once
      obtain ⟨shorter, apart, still, from_⟩ := ih m (by omega)
      rw [next]
      refine ⟨by omega, apart, fun v covered => still v (covers v covered), fun g isIn => ?_⟩
      obtain ⟨x, isX, low⟩ := from_ g isIn
      obtain ⟨y, isY, own⟩ := lows x isX
      exact ⟨y, isY, low.trans own⟩

/-! ### The merges of adjacent groups (R79) -/

theorem bitLength_bounds (v : Nat) : bitLength v ≤ 28 ∧ ∀ i < 28, v.testBit i = true → i < bitLength v := by
  unfold bitLength
  generalize 28 = n
  induction n with
  | zero => exact ⟨le_rfl, fun i h => absurd h (Nat.not_lt_zero i)⟩
  | succ n ih =>
    obtain ⟨few, above⟩ := ih
    rw [List.range_succ, List.foldl_concat]
    split_ifs with set
    · exact ⟨le_rfl, fun i small _ => small⟩
    · refine ⟨Nat.le_succ_of_le few, fun i small isSet => above i ?_ isSet⟩
      refine lt_of_le_of_ne (Nat.le_of_lt_succ small) ?_
      rintro rfl
      exact set isSet

theorem lt_two_pow_bitLength {v : Nat} (small : v < 2 ^ 28) : v < 2 ^ bitLength v := by
  refine Nat.lt_pow_two_of_testBit v fun i wide => ?_
  by_cases inWord : i < 28
  · rw [← Bool.not_eq_true]
    exact fun isSet => absurd ((bitLength_bounds v).2 i inWord isSet) (Nat.not_lt.2 wide)
  · exact Nat.testBit_lt_two_pow (lt_of_lt_of_le small (Nat.pow_le_pow_right (by decide) (Nat.not_lt.1 inWord)))

/-- Two IDs agree above the highest bit in which they differ. -/
theorem bitLength_xor {x y : Nat} (hx : x < 2 ^ 28) (hy : y < 2 ^ 28) : x / 2 ^ bitLength (x ^^^ y) = y / 2 ^ bitLength (x ^^^ y) := by
  have small := lt_two_pow_bitLength (Nat.xor_lt_two_pow hx hy)
  rw [← Nat.shiftRight_eq_div_pow, ← Nat.shiftRight_eq_div_pow, ← Nat.xor_eq_zero_iff, ← Nat.shiftRight_xor_distrib,
    Nat.shiftRight_eq_div_pow]
  exact Nat.div_eq_of_lt small

/-- A run of IDs whose lowest and highest lie in one block. -/
structure IdGroup.Runs (g : IdGroup) : Prop where
  ordered : g.low ≤ g.high
  small : g.high < 2 ^ 28
  block : g.low / 2 ^ g.width = g.high / 2 ^ g.width

/-- The runs of a list, in ascending order. -/
def IdGroup.before (a b : IdGroup) : Prop := a.high ≤ b.low

/-- Every ID from the lowest to the highest of a run lies in its block. -/
theorem IdGroup.Runs.covers {g : IdGroup} (h : g.Runs) {v : Nat} (least : g.low ≤ v) (most : v ≤ g.high) : g.covers v := by
  have up := Nat.div_le_div_right (c := 2 ^ g.width) most
  rw [← h.block] at up
  exact le_antisymm up (Nat.div_le_div_right least)

theorem IdGroup.Runs.join {a b : IdGroup} (hA : a.Runs) (hB : b.Runs) (order : a.before b) : (a.join b).Runs where
  ordered := hA.ordered.trans (order.trans hB.ordered)
  small := hB.small
  block := bitLength_xor (lt_of_le_of_lt (hA.ordered.trans (order.trans hB.ordered)) hB.small) hB.small

/-- Runs in ascending order that hold some IDs. -/
structure Cover (ids : List Nat) (l : List IdGroup) : Prop where
  ordered : l.Pairwise IdGroup.before
  runs : ∀ g ∈ l, g.Runs
  holds : ∀ v ∈ ids, ∃ g ∈ l, g.low ≤ v ∧ v ≤ g.high

/-- What a merge of a pair keeps. -/
theorem mergePair_spec (w : Nat) (l : List IdGroup) (ordered : l.Pairwise IdGroup.before) (runs : ∀ g ∈ l, g.Runs) :
    (mergePair w l).Pairwise IdGroup.before ∧ (∀ g ∈ mergePair w l, g.Runs ∧ ∃ x ∈ l, g.low = x.low) ∧
      ∀ x ∈ l, ∃ g ∈ mergePair w l, g.low ≤ x.low ∧ x.high ≤ g.high := by
  induction l with
  | nil => exact ⟨.nil, (fun _ isIn => nomatch isIn), fun _ isIn => nomatch isIn⟩
  | cons a rest ih =>
    cases rest with
    | nil => exact ⟨ordered, fun g isIn => ⟨runs g isIn, g, isIn, rfl⟩, fun x isIn => ⟨x, isIn, le_rfl, le_rfl⟩⟩
    | cons b rest =>
      obtain ⟨first, later⟩ := List.pairwise_cons.1 ordered
      have runA := runs a (List.mem_cons_self ..)
      have runB := runs b (by simp)
      have order := first b (List.mem_cons_self ..)
      unfold mergePair
      by_cases pair : (a.join b).width = w
      · rw [if_pos pair]
        obtain ⟨second, last⟩ := List.pairwise_cons.1 later
        refine ⟨List.pairwise_cons.2 ⟨second, last⟩, fun g isIn => ?_, fun x isIn => ?_⟩
        · rcases List.mem_cons.1 isIn with rfl | isIn
          · exact ⟨runA.join runB order, a, List.mem_cons_self .., rfl⟩
          · exact ⟨runs g (by simp [isIn]), g, by simp [isIn], rfl⟩
        · rcases List.mem_cons.1 isIn with rfl | isIn
          · exact ⟨_, List.mem_cons_self .., le_rfl, order.trans runB.ordered⟩
          rcases List.mem_cons.1 isIn with rfl | isIn
          · exact ⟨_, List.mem_cons_self .., runA.ordered.trans order, le_rfl⟩
          · exact ⟨x, List.mem_cons_of_mem _ isIn, le_rfl, le_rfl⟩
      · rw [if_neg pair]
        obtain ⟨sorted, each, holds⟩ := ih later fun g isIn => runs g (List.mem_cons_of_mem a isIn)
        refine ⟨List.pairwise_cons.2 ⟨fun g isIn => ?_, sorted⟩, fun g isIn => ?_, fun x isIn => ?_⟩
        · obtain ⟨_, x, isX, low⟩ := each g isIn
          have below := first x isX
          unfold IdGroup.before at below ⊢
          rw [low]
          exact below
        · rcases List.mem_cons.1 isIn with rfl | isIn
          · exact ⟨runA, g, List.mem_cons_self .., rfl⟩
          · obtain ⟨run, x, isX, low⟩ := each g isIn
            exact ⟨run, x, List.mem_cons_of_mem a isX, low⟩
        · rcases List.mem_cons.1 isIn with rfl | isIn
          · exact ⟨x, List.mem_cons_self .., le_rfl, le_rfl⟩
          · obtain ⟨g, isG, within⟩ := holds x isIn
            exact ⟨g, List.mem_cons_of_mem a isG, within⟩

theorem Cover.merge {ids : List Nat} {l : List IdGroup} (h : Cover ids l) (w : Nat) : Cover ids (mergePair w l) := by
  obtain ⟨ordered, runs, holds⟩ := h
  obtain ⟨sorted, each, wider⟩ := mergePair_spec w l ordered runs
  refine ⟨sorted, fun g isIn => (each g isIn).1, fun v isIn => ?_⟩
  obtain ⟨x, isX, least, most⟩ := holds v isIn
  obtain ⟨g, isG, low, high⟩ := wider x isX
  exact ⟨g, isG, low.trans least, most.trans high⟩

/-- A smallest f is that of a pair, and its merge leaves one group fewer. -/
theorem mergePair_length {l : List IdGroup} {w : Nat} (smallest : smallestWidth l = some w) : (mergePair w l).length + 1 = l.length := by
  induction l with
  | nil => exact nomatch smallest
  | cons a rest ih =>
    cases rest with
    | nil => exact nomatch smallest
    | cons b rest =>
      unfold mergePair
      by_cases pair : (a.join b).width = w
      · rw [if_pos pair]
        rfl
      · rw [if_neg pair]
        unfold smallestWidth at smallest
        split at smallest
        · exact absurd (Option.some.inj smallest) pair
        · next x found =>
          have least := Option.some.inj smallest
          have isX : x = w := by
            rcases min_choice (a.join b).width x with h | h
            · exact absurd (h.symm.trans least) pair
            · exact h.symm.trans least
          have shorter := ih (by rw [found, isX])
          simp only [List.length_cons] at shorter ⊢
          omega

theorem smallestWidth_of_pair (l : List IdGroup) (many : 2 ≤ l.length) : ∃ w, smallestWidth l = some w := by
  obtain ⟨a, b, rest, rfl⟩ : ∃ a b rest, l = a :: b :: rest := by
    match l, many with
    | a :: b :: rest, _ => exact ⟨a, b, rest, rfl⟩
  unfold smallestWidth
  split
  · exact ⟨_, rfl⟩
  · exact ⟨_, rfl⟩

/-- The merges of pairs end with four groups at most. -/
theorem pairMerges_spec {ids : List Nat} (n : Nat) (l : List IdGroup) (fuel : l.length ≤ n + 4) (h : Cover ids l) :
    (pairMerges n l).length ≤ 4 ∧ (pairMerges n l).length ≤ l.length ∧ Cover ids (pairMerges n l) := by
  induction n generalizing l with
  | zero =>
    have few : l.length ≤ 4 := by simpa using fuel
    exact ⟨few, le_rfl, h⟩
  | succ n ih =>
    by_cases few : l.length ≤ Config.maxFilters
    · have same : pairMerges (n + 1) l = l := if_pos few
      rw [same]
      exact ⟨few, le_rfl, h⟩
    · have many : 4 < l.length := Nat.lt_of_not_le few
      obtain ⟨w, smallest⟩ := smallestWidth_of_pair l (by omega)
      have next : pairMerges (n + 1) l = pairMerges n (mergePair w l) := by
        refine (if_neg few).trans ?_
        rw [smallest]
      have shorter := mergePair_length smallest
      obtain ⟨four, fewer, cover⟩ := ih (mergePair w l) (by omega) (h.merge w)
      rw [next]
      exact ⟨four, by omega, cover⟩

/-! ### The groups of a plan's label IDs -/

theorem sortIds_eq (l : List Nat) : sortIds l = l.insertionSort (· ≤ ·) := by
  have inserts (a : Nat) (l : List Nat) : insertId a l = l.orderedInsert (· ≤ ·) a := by
    induction l with
    | nil => rfl
    | cons b rest ih =>
      rw [insertId, List.orderedInsert, ih]
  induction l with
  | nil => rfl
  | cons a rest ih =>
    have step : sortIds (a :: rest) = insertId a (sortIds rest) := rfl
    rw [step, ih, inserts]
    rfl

/-- At most four blocks, of which no two have an ID in common, cover the given IDs. -/
theorem coverGroups_spec (ids : List Nat) (small : ∀ v ∈ ids, v < 2 ^ 28) : (coverGroups ids).length ≤ 4 ∧
    (coverGroups ids).Pairwise IdGroup.Apart ∧ (∀ v ∈ ids, coveredBy (coverGroups ids) v) ∧ ∀ g ∈ coverGroups ids, g.low < 2 ^ 28 := by
  obtain ⟨singles, isSingles⟩ : ∃ singles, singles = (sortIds ids).map fun a => ({ low := a, high := a, width := 0 } : IdGroup) :=
    ⟨_, rfl⟩
  have perm : (sortIds ids).Perm ids := by
    rw [sortIds_eq]
    exact List.perm_insertionSort _ ids
  have sorted : (sortIds ids).Pairwise (· ≤ ·) := by
    rw [sortIds_eq]
    exact List.pairwise_insertionSort _ ids
  have length : singles.length = ids.length := by rw [isSingles, List.length_map, perm.length_eq]
  have cover : Cover ids singles := by
    rw [isSingles]
    refine ⟨List.pairwise_map.2 sorted, fun g isIn => ?_, fun v isIn => ?_⟩
    · obtain ⟨a, isA, rfl⟩ := List.mem_map.1 isIn
      exact ⟨le_rfl, small a (perm.mem_iff.1 isA), rfl⟩
    · exact ⟨_, List.mem_map_of_mem (perm.mem_iff.2 isIn), le_rfl, le_rfl⟩
  obtain ⟨four, fewer, ordered, runs, holds⟩ := pairMerges_spec ids.length singles (by omega) cover
  obtain ⟨shorter, apart, covers, lows⟩ := absorbMerges_spec ids.length (pairMerges ids.length singles) (by omega)
  have made : coverGroups ids = absorbMerges ids.length (pairMerges ids.length singles) := by
    rw [isSingles]
    rfl
  rw [made]
  refine ⟨shorter.trans four, apart, fun v isIn => covers v ?_, fun g isIn => ?_⟩
  · obtain ⟨g, isG, least, most⟩ := holds v isIn
    exact ⟨g, isG, (runs g isG).covers least most⟩
  · obtain ⟨x, isX, low⟩ := lows g isIn
    rw [low]
    exact lt_of_le_of_lt (runs x isX).ordered (runs x isX).small

/-! ### The filters (R81) -/

/-- The filter of a group wakes the labels of its block. -/
theorem IdGroup.filter_wakes {g : IdGroup} (small : g.low < 2 ^ 28) (v : LabelId) :
    v &&& g.filter.mask = g.filter.value ↔ g.covers v.toNat := by
  have below (x : Nat) : x / 2 ^ g.width * 2 ^ g.width ≤ x := Nat.div_mul_le_self x _
  have masked : (v &&& g.filter.mask).toNat = v.toNat / 2 ^ g.width * 2 ^ g.width := by
    have shifted : v &&& g.filter.mask = v >>> g.width <<< g.width := BitVec.shiftLeft_ushiftRight.symm
    rw [shifted, BitVec.toNat_shiftLeft, BitVec.toNat_ushiftRight, Nat.shiftRight_eq_div_pow, Nat.shiftLeft_eq]
    exact Nat.mod_eq_of_lt (lt_of_le_of_lt (below _) v.isLt)
  have value : g.filter.value.toNat = g.low / 2 ^ g.width * 2 ^ g.width := by
    change (BitVec.ofNat 28 g.base).toNat = _
    rw [BitVec.toNat_ofNat]
    exact Nat.mod_eq_of_lt (lt_of_le_of_lt (below _) small)
  rw [← BitVec.toNat_inj, masked, value]
  exact Nat.mul_left_inj (Nat.two_pow_pos g.width).ne'

theorem filter_or_length {α : Type} (p q : α → Bool) (l : List α) :
    (l.filter fun v => p v || q v).length ≤ (l.filter p).length + (l.filter q).length := by
  induction l with
  | nil => rfl
  | cons a rest ih =>
    have more := ((List.sublist_cons_self a rest).filter q).length_le
    by_cases inP : p a = true
    · rw [List.filter_cons_of_pos inP, List.filter_cons_of_pos (by simp [inP]), List.length_cons, List.length_cons]
      omega
    · rw [List.filter_cons_of_neg inP]
      by_cases inQ : q a = true
      · rw [List.filter_cons_of_pos inQ, List.filter_cons_of_pos (by simp [inQ]), List.length_cons, List.length_cons]
        omega
      · rw [List.filter_cons_of_neg inQ, List.filter_cons_of_neg (by simp [inP, inQ])]
        exact ih

theorem filter_any_length {α β : Type} (p : β → α → Bool) (fs : List β) (l : List α) :
    (l.filter fun v => fs.any fun f => p f v).length ≤ (fs.map fun f => (l.filter (p f)).length).sum := by
  induction fs with
  | nil => simp
  | cons f rest ih =>
    simp only [List.any_cons, List.map_cons, List.sum_cons]
    exact (filter_or_length (p f) _ l).trans (Nat.add_le_add_left ih _)

/-- A filter wakes no more labels than its block has IDs. -/
theorem IdGroup.filter_count {g : IdGroup} (small : g.low < 2 ^ 28) {n : Nat} (ids : n ≤ 2 ^ 28) :
    ((List.range n).filter fun v => BitVec.ofNat 28 v &&& g.filter.mask == g.filter.value).length ≤ 2 ^ g.width := by
  refine Nat.le_trans ?_ (List.length_range' (s := g.base) (n := 2 ^ g.width) (step := 1)).le
  refine (List.Nodup.subperm (List.nodup_range.filter _) fun v isIn => ?_).length_le
  obtain ⟨inRange, wakes⟩ := List.mem_filter.1 isIn
  have isSmall : v < 2 ^ 28 := lt_of_lt_of_le (List.mem_range.1 inRange) ids
  have own : (BitVec.ofNat 28 v).toNat = v := by
    rw [BitVec.toNat_ofNat]
    exact Nat.mod_eq_of_lt isSmall
  have covered := (IdGroup.filter_wakes small _).1 (beq_iff_eq.1 wakes)
  rw [own, IdGroup.covers_iff] at covered
  exact List.mem_range'_1.2 covered

/-- The filters of some groups wake no more labels than their blocks have IDs. -/
theorem filters_count {gs : List IdGroup} (small : ∀ g ∈ gs, g.low < 2 ^ 28) {n : Nat} (ids : n ≤ 2 ^ 28) :
    ((List.range n).filter fun v => (gs.map IdGroup.filter).any fun f => BitVec.ofNat 28 v &&& f.mask == f.value).length ≤
      (gs.map fun g => 2 ^ g.width).sum := by
  refine (filter_any_length (fun (f : Filter) v => BitVec.ofNat 28 v &&& f.mask == f.value) _ _).trans ?_
  rw [List.map_map]
  exact List.sum_le_sum fun g isIn => IdGroup.filter_count (small g isIn) ids

/-- Settles O30: the blocks of the cover have no ID in common, and their spans are within the spread. -/
theorem filtersCoverThePlan : Obligations.FiltersCoverThePlan := by
  unfold Obligations.FiltersCoverThePlan
  intro t c b l store plan
  obtain ⟨k, few, items, filters, within, _⟩ := makePlan_eq t c b l store
  obtain ⟨records, isRecords⟩ : ∃ records, records = (selection (planLimits t c store) b l).take k := ⟨_, rfl⟩
  rw [← isRecords] at items filters within
  obtain ⟨groups, isGroups⟩ : ∃ groups, groups = coverGroups (labelIds records) := ⟨_, rfl⟩
  have labels : ∀ v ∈ labelIds records, v < 2 ^ 28 := by
    intro v isIn
    obtain ⟨r, _, rfl⟩ := List.mem_map.1 isIn
    exact r.label.isLt
  obtain ⟨four, apart, covers, small⟩ := coverGroups_spec (labelIds records) labels
  rw [← isGroups] at filters four apart covers small
  have isFilters : plan.filters = groups.map IdGroup.filter := filters
  have isItems : plan.items.map (·.label) = records.map (·.label) := by
    rw [show plan.items = _ from items, layItems_map _ (·.label) (·.label) fun _ _ _ h _ => h]
  rw [isFilters]
  refine ⟨by rwa [List.length_map], fun i isIn => ?_, ?_⟩
  · have inRecords : i.label ∈ records.map (·.label) := by
      rw [← isItems]
      exact List.mem_map_of_mem isIn
    obtain ⟨r, isR, own⟩ := List.mem_map.1 inRecords
    obtain ⟨g, isG, covered⟩ := covers r.label.toNat (List.mem_map_of_mem isR)
    rw [own] at covered
    refine ⟨g.filter, List.mem_map_of_mem isG, (IdGroup.filter_wakes (small g isG) _).2 covered, fun f isF wakes => ?_⟩
    obtain ⟨h, isH, rfl⟩ := List.mem_map.1 isF
    have alsoCovered := (IdGroup.filter_wakes (small h isH) _).1 wakes
    by_contra differ
    have : Std.Symm IdGroup.Apart := ⟨fun x y away v inY inX => away v inX inY⟩
    exact apart.forall isH isG (fun same => differ (congrArg IdGroup.filter same)) _ alsoCovered covered
  · have length : plan.items.length = records.length := by simpa using congrArg List.length isItems
    have spans : (groups.map fun g => 2 ^ g.width).sum - records.length ≤ t.spread := by
      rw [isGroups]
      exact within
    have count := filters_count small (n := 2 ^ 28) le_rfl
    omega

end Sys2Proof.Machine
end
